-- ==== Sys2Proof/Word.lean ====
section
/-! DEFINITION. The byte, and the numbering of the part's objects (Table 1-4).
The HT640 has no machine word: counts and numbers are natural numbers, sets of groups are 16-bit masks. -/

namespace Sys2Proof

/-- One byte on a master port or on a field segment (Section 14). -/
abbrev Byte := BitVec 8

/-- An intersection, 0 to 63 (Table 1-4). -/
abbrev Ix := Fin 64

/-- A coordination group, 0 to 15 (Table 1-4). -/
abbrev GroupNo := Fin 16

/-- A field segment, 0 to 3 (Table 1-4). -/
abbrev SegNo := Fin 4

/-- A drop address; `d` stands for the address `d + 1`, 1 to 16 (Table 1-4). -/
abbrev Drop := Fin 16

/-- A set of groups, group 0 in the least significant bit (R187). -/
abbrev GroupSet := BitVec 16

end Sys2Proof
end

