-- ==== Sys2Proof/Syntax.lean ====
section
/-! DEFINITION. The commands of the block: one constructor for each row of the opcode table.
A request of Table 12-2 is a good request frame (R170) that has arrived whole at one of the three ports; it carries the
frame's tag and its payload bytes, and the port reads the payload by Table 14-3. An event carries what the outside world
tells with it: the segment, the port, the bytes that have arrived there since those the part holds. -/

namespace Sys2Proof

/-- The three master ports; each port's role is the role of the same name (1.5.3, R169). -/
inductive Port where
  | centre | event | cabinet
  deriving DecidableEq, Repr

/-- A good request frame of a known request code: the port it arrived at, its tag and its payload (Table 14-1). -/
structure RequestFrame where
  port : Port
  tag : BitVec 16
  payload : List Byte
  deriving DecidableEq, Repr

/-- The commands: what can happen to the part, one constructor for each row of the table, in the table's order. -/
inductive Instr where
  /-- Power is applied. -/
  | powerOn
  /-- The contact of the cabinet RESET input closes. -/
  | resetLineClose
  /-- The contact of the cabinet RESET input opens. -/
  | resetLineOpen
  /-- The image load ends (R184). -/
  | startUpComplete
  /-- The minute-boundary event that TREF has raised is taken (R3). -/
  | minuteBoundary
  /-- The ds of crystal time that completes 100 ds of a slew (R11). -/
  | slewAdjustment
  /-- The 2P timer runs out (R6). -/
  | timer2pExpiry
  /-- The H timer runs out (R7). -/
  | timerHExpiry
  | mark (f : RequestFrame)
  | setTime (f : RequestFrame)
  | readTime (f : RequestFrame)
  | writePlan (f : RequestFrame)
  | deletePlan (f : RequestFrame)
  | readPlan (f : RequestFrame)
  | writeOffset (f : RequestFrame)
  | readOffset (f : RequestFrame)
  | writeParams (f : RequestFrame)
  | readParams (f : RequestFrame)
  | setEventGroups (f : RequestFrame)
  | addEntry (f : RequestFrame)
  | removeEntry (f : RequestFrame)
  | readEntry (f : RequestFrame)
  | listEntries (f : RequestFrame)
  /-- The evaluation at position `k` of those triggered and not yet taken is taken (R47). -/
  | evaluation (k : Nat)
  | placeHold (f : RequestFrame)
  | releaseHold (f : RequestFrame)
  | setMembers (f : RequestFrame)
  | readGroup (f : RequestFrame)
  /-- E has reached the Ts of PENDING group `g` (R79). -/
  | tsReached (g : GroupNo)
  /-- E has reached the Tm of ORDERED member `i` (R80). -/
  | tmReached (i : Ix)
  | setMap (f : RequestFrame)
  | requery (f : RequestFrame)
  | readIntersection (f : RequestFrame)
  | enableSegment (f : RequestFrame)
  | disableSegment (f : RequestFrame)
  /-- The line of CHECKING segment `k` has read MARK for 20 ms without a break (R136). -/
  | checkPassed (k : SegNo)
  /-- The line of CHECKING segment `k` reads SPACE (R136). -/
  | lineBreak (k : SegNo)
  /-- The line of segment `k` has read SPACE for more than 40 ms (R138). -/
  | lineHeld (k : SegNo)
  /-- The line of STUCK segment `k` reads MARK again (R138). -/
  | lineReleased (k : SegNo)
  /-- The turnaround of segment `k` ends (R141). -/
  | turnaroundEnd (k : SegNo)
  /-- The last byte of the request of segment `k` has been sent (R142). -/
  | requestSent (k : SegNo)
  /-- The bytes `bytes` arrive on segment `k`, the last of them of the form of a WAIT marker (R143, R190). -/
  | waitMarker (k : SegNo) (bytes : List Byte)
  /-- The bytes `bytes` arrive on segment `k`, and with the last of them a reply frame is whole (R144, R190). -/
  | replyFrameReceived (k : SegNo) (bytes : List Byte)
  /-- The bytes `bytes` arrive on segment `k`, the last of them a reply's length byte out of range (R190). -/
  | replyLengthBad (k : SegNo) (bytes : List Byte)
  /-- More than 2 ms have passed since the last byte of a reply frame under way on segment `k` (R144). -/
  | replyGapTimeout (k : SegNo)
  /-- The bytes `bytes` have arrived on segment `k`, and its reply window closes (R144). -/
  | replyWindowClose (k : SegNo) (bytes : List Byte)
  /-- A reply frame begins on segment `k` while no window is open (R145). -/
  | lateReply (k : SegNo)
  /-- The interval counter of intersection `i` has reached 0 (R152). -/
  | pollIntervalExpiry (i : Ix)
  | writeSegmentParams (f : RequestFrame)
  | readSegment (f : RequestFrame)
  | setPolicy (f : RequestFrame)
  | clearFaults (f : RequestFrame)
  | readFaults (f : RequestFrame)
  | setNoticeMask (f : RequestFrame)
  | readPorts (f : RequestFrame)
  | commit (f : RequestFrame)
  /-- The write of the image ends (R182). -/
  | commitWriteEnd
  | readStore (f : RequestFrame)
  | reset (f : RequestFrame)
  /-- The last byte of the reply to a RESET request has been sent (R185). -/
  | resetRequestTaken
  /-- A good frame whose request code is outside Table 12-2 (R171). -/
  | unknownRequestCode (f : RequestFrame) (code : Byte)
  /-- The bytes `bytes` arrive at port `p`, and with the last of them a frame is discarded for its length or its CRC (R170). -/
  | frameDiscarded (p : Port) (bytes : List Byte)
  /-- The bytes `bytes` have arrived at port `p`, and more than 5 ms have passed since the last byte of a frame that is not
  whole; `after` are the bytes that have arrived since the gap, none while it lasts (R170). -/
  | frameGapTimeout (p : Port) (bytes after : List Byte)
  /-- The transmitter of port `p` has sent the last byte of its frame (R173). -/
  | transmitEnd (p : Port)
  /-- The line of segment `k`, in CHECKING, ACTIVE or CLOSING, reads MARK after SPACE (R136, R138). -/
  | lineReadsMark (k : SegNo)
  /-- The line of segment `k`, in ACTIVE or CLOSING, starts reading SPACE (R138). -/
  | lineReadsSpace (k : SegNo)
  /-- The ds of crystal time at which E reaches its last value (R1). -/
  | epochCountEnd
  deriving DecidableEq, Repr

end Sys2Proof
end

