-- ==== Sys2Proof/Config.lean ====
section
/-! DEFINITION. What is fixed for the part (Tables 1-3, 1-5 and 1-6), and the free values of the model. -/

namespace Sys2Proof.Config

/-- The last ds of day number 65,535, where E stops (R1). -/
def lastE : Nat := 56623103999

/-- The ds of one day (Table 1-3). -/
def dayDs : Nat := 864000

/-- The days an epoch time may name: 0 to 65,535 (Table 1-3). -/
def days : Nat := 65536

/-- The largest Δ, either way, that is slewed (Table 2-4). -/
def slewLimit : Nat := 20

/-- The largest Δ, either way, that is accepted once E has been set (Table 2-4). -/
def stepLimit : Nat := 36000

/-- The slots of the timetable (Table 1-6). -/
def timetableSlots : Nat := 256

/-- The notices a port's queue holds (Table 1-6). -/
def noticeSlots : Nat := 16

/-- The replies a busy-reply list holds (R169). -/
def busySlots : Nat := 4

/-- The commit count limit (Table 1-6). -/
def commitLimit : Nat := 100000

/-- The longest time the write of the image takes, in ms (R182). -/
def commitMs : Nat := 1500

/-- The longest time the image load takes, in ms (R184). -/
def loadMs : Nat := 800

/-- FREE VALUE: the number by which the part chooses where the spec lets several events of one instant be taken in either
order (R6, R7, R47, R80). Applied to a counter that every use advances. -/
opaque choice : Nat → Nat

/-- FREE VALUE: the number of bytes of the image before its CRC, for which the spec gives no layout (R181). -/
opaque imageSize : Nat

/-- FREE VALUE: the byte that a write of the image leaves at an address; the spec gives the image no layout (R181, R182).
Applied to a counter that every write advances, and the address. -/
opaque imageByte : Nat → Nat → Byte

end Sys2Proof.Config
end

