-- ==== Sys2Proof/Machine/State.lean ====
section
/-! DEFINITION. The state of the part as plain data: every register, table, queue, counter, timer and marker that the
spec gives a block (Table 1-1), the stored image, the queue of waiting commands, and the state right after power-on.
INVENTORY.md lists each field with the rule that names it. -/

namespace Sys2Proof.Machine

/-! ### Network time (TREF) -/

/-- TREF states (R4). -/
inductive TrefState where
  | unset | locked | holdover | untimed
  deriving DecidableEq, Repr

/-- Causes of a TIME_STATE notice (R17). -/
inductive TimeCause where
  | mark | setTime | timer | reset
  deriving DecidableEq, Repr

/-- The last accepted mark: the value of E after it was applied, and the crystal instant (ds) of its acceptance (R4, R9). -/
structure AcceptedMark where
  e : Nat
  crystalDs : Nat
  deriving DecidableEq, Repr

/-- The state of TREF (R1, R4). `slewStart` is the crystal instant (ds) from which 100 ds are being counted (R11);
`minuteOwed` holds a minute-boundary event raised and not yet taken (R3); `resetNoticeE` holds the E at which a cabinet
reset turned LOCKED into HOLDOVER until start-up completes (R17). -/
structure Tref where
  e : Nat
  state : TrefState
  slew : Int
  slewStart : Nat
  lastMark : Option AcceptedMark
  timerStart : Option Nat
  accepted : Nat
  early : Nat
  rejected : Nat
  minuteOwed : Bool
  resetNoticeE : Option Nat
  deriving DecidableEq, Repr

/-! ### Stored configuration (Table 13-1) -/

/-- Transition methods (R18, R187). -/
inductive Method where
  | shortway | delay | step
  deriving DecidableEq, Repr

/-- The record of a defined plan (R18). -/
structure Plan where
  cycle : Nat
  pattern : Nat
  method : Method
  deriving DecidableEq, Repr

/-- The part-scope parameters, in the units of Table 3-2. -/
structure Params where
  markPeriod : Nat
  holdover : Nat
  lead : Nat
  lpct : Nat
  spct : Nat
  tol : Nat
  grace : Nat
  deglitch : Nat
  deriving DecidableEq, Repr

/-- The parameters of one segment (Table 1-5): poll interval in s, TA and RW in ms, the EXT code. -/
structure SegParams where
  poll : Nat
  ta : Nat
  rw : Nat
  ext : Nat
  deriving DecidableEq, Repr

/-- A day number and a minute of day (1.5.2). -/
structure EpochMinute where
  day : Nat
  minute : Nat
  deriving DecidableEq, Repr

/-- The kind of a timetable entry, with the fields that only that kind has (Table 4-1). -/
inductive EntryKind where
  | recurring (days : BitVec 7)
  | dated (startDay : Nat) (ends : Option EpochMinute)
  deriving DecidableEq, Repr

/-- A timetable entry (Table 4-1). -/
structure Entry where
  id : Nat
  owner : Port
  kind : EntryKind
  groups : GroupSet
  plan : Nat
  priority : Nat
  startMinute : Nat
  tag : BitVec 16
  deriving DecidableEq, Repr

/-- The map of an intersection (Table 8-1). -/
structure Place where
  seg : SegNo
  drop : Drop
  deriving DecidableEq, Repr

/-- The six fault classes (Table 11-1). -/
inductive FaultClass where
  | noReply | orderMissed | transitionLate | transitionBlocked | capability | alert
  deriving DecidableEq, Repr

/-- One value for each fault class. -/
structure PerClass (α : Type) where
  noReply : α
  orderMissed : α
  transitionLate : α
  transitionBlocked : α
  capability : α
  alert : α
  deriving DecidableEq, Repr

/-- Fault policies (Table 11-2). -/
inductive Policy where
  | latched | recovering | reportOnly | off
  deriving DecidableEq, Repr

/-- Fault scopes (R159). -/
inductive Scope where
  | member | group
  deriving DecidableEq, Repr

/-- A row of the policy table (R159). -/
structure PolicyPair where
  policy : Policy
  scope : Scope
  deriving DecidableEq, Repr

/-- The live stored tables, item by item those of Table 13-1. The member lists are held as the group field of each
intersection, the other side of the same table (R34); `members` in Machine/Ops.lean gives the ascending list. -/
structure Stored where
  plans : Vector (Option Plan) 48
  offsets : Vector (Vector Nat 64) 48
  params : Params
  eventGroups : GroupSet
  segParams : Vector SegParams 4
  enables : Vector Bool 4
  groupOf : Vector (Option GroupNo) 64
  maps : Vector (Option Place) 64
  recurring : List Entry
  dated : List Entry
  policies : PerClass PolicyPair
  deriving DecidableEq, Repr

/-- The defaults of Table 1-5. -/
def Params.default : Params where
  markPeriod := 300
  holdover := 8
  lead := 30
  lpct := 20
  spct := 15
  tol := 5
  grace := 2
  deglitch := 2

/-- The segment defaults of Table 1-5. -/
def SegParams.default : SegParams where
  poll := 2
  ta := 2
  rw := 20
  ext := 3

/-- The default policies and scopes of Table 11-1. -/
def Stored.defaultPolicies : PerClass PolicyPair where
  noReply := ⟨.recovering, .member⟩
  orderMissed := ⟨.recovering, .member⟩
  transitionLate := ⟨.reportOnly, .member⟩
  transitionBlocked := ⟨.latched, .member⟩
  capability := ⟨.latched, .member⟩
  alert := ⟨.recovering, .member⟩

/-- The tables a bad or blank image leaves (R184). -/
def Stored.empty : Stored where
  plans := Vector.replicate 48 none
  offsets := Vector.replicate 48 (Vector.replicate 64 0)
  params := Params.default
  eventGroups := 0#16
  segParams := Vector.replicate 4 SegParams.default
  enables := Vector.replicate 4 false
  groupOf := Vector.replicate 64 none
  maps := Vector.replicate 64 none
  recurring := []
  dated := []
  policies := Stored.defaultPolicies

/-! ### Groups (GCO) -/

/-- Group states (Table 6-1). -/
inductive GroupState where
  | free | pending | transition | steady | suspended
  deriving DecidableEq, Repr

/-- A hold (Table 5-1). -/
structure Hold where
  owner : Port
  plan : Nat
  ends : Option EpochMinute
  tag : BitVec 16
  placedAt : Nat
  deriving DecidableEq, Repr

/-- Where a wanted plan came from (Table 6-1). -/
inductive WantedSource where
  | hold (owner : Port) (tag : BitVec 16)
  | entry (id : Nat)
  | none
  | kept
  deriving DecidableEq, Repr

/-- The suspension record of a group (Table 6-1, R88). -/
structure Suspension where
  cls : FaultClass
  intersection : Ix
  e : Nat
  deriving DecidableEq, Repr

/-- A group record (Table 6-1); its member list is held in `Stored.groupOf`. -/
structure Group where
  current : Nat
  target : Nat
  wanted : Nat
  source : WantedSource
  ts : Option Nat
  state : GroupState
  hold : Option Hold
  suspension : Option Suspension
  deriving DecidableEq, Repr

/-- A group after either reset (R69). -/
def Group.initial : Group where
  current := 0
  target := 0
  wanted := 0
  source := .none
  ts := none
  state := .free
  hold := none
  suspension := none

/-- An evaluation triggered and not yet taken (R47): the scope its cause gives it. -/
structure OwedEvaluation where
  scope : GroupSet
  deriving DecidableEq, Repr

/-! ### Members (IXT) -/

/-- Member states (Table 8-1). -/
inductive MemberState where
  | unknown | free | ordered | correcting | inStep | excluded | latched | offline
  deriving DecidableEq, Repr

/-- Controller modes (Table 8-1). -/
inductive Mode where
  | coordinated | localMode | flash | manual | starting
  deriving DecidableEq, Repr

/-- Directions of a transition (Table 7-1). -/
inductive Direction where
  | advance | delay | none
  deriving DecidableEq, Repr

/-- The methods a controller supports (Table 8-2). -/
structure Methods where
  shortway : Bool
  delay : Bool
  step : Bool
  deriving DecidableEq, Repr

/-- The capability record (Table 8-2); `valid` is its validity. -/
structure Capability where
  cmin : Nat
  cmax : Nat
  step : Nat
  patterns : Nat
  methods : Methods
  acks : Bool
  valid : Bool
  deriving DecidableEq, Repr

/-- What an ORDER carries (R72, Table 14-5); a RELEASE has plan, pattern, cycle and offset 0 and method DELAY (R189). -/
structure OrderPayload where
  plan : Nat
  pattern : Nat
  cycle : Nat
  offset : Nat
  tm : Nat
  method : Method
  deriving DecidableEq, Repr

/-- Kinds of standing order (R71). -/
inductive OrderKind where
  | order | release
  deriving DecidableEq, Repr

/-- Outcomes of a standing order (R71). -/
inductive OrderOutcome where
  | owed | delivered | refused
  deriving DecidableEq, Repr

/-- A standing order (R71): its plan and Tm are those of its payload. `oid` tells this order's transaction from a stale
one (R72, R78); `judged` says that its Tm has been reached (R80). -/
structure StandingOrder where
  kind : OrderKind
  payload : OrderPayload
  outcome : OrderOutcome
  oid : Nat
  judged : Bool
  deriving DecidableEq, Repr

/-- Causes of an ORDER_MISSED condition (R84). -/
inductive MissCause where
  | notDelivered | refused | notSwitched
  deriving DecidableEq, Repr

/-- One class of a fault record (Table 8-1) with the applied policy the FPU holds beside it (R159). -/
structure FaultEntry where
  standing : Bool
  latched : Bool
  count : Nat
  applied : Option Policy
  deriving DecidableEq, Repr

/-- The six alerts (Table 8-1). -/
inductive Alert where
  | manual | flash | door | detector | localPlan | powerRestored
  deriving DecidableEq, Repr

/-- One value for each alert. -/
structure PerAlert (α : Type) where
  manual : α
  flash : α
  door : α
  detector : α
  localPlan : α
  powerRestored : α
  deriving DecidableEq, Repr

/-- The standing flag and the deglitch counter of one alert (R131). -/
structure AlertWatch where
  standing : Bool
  counter : Nat
  deriving DecidableEq, Repr

/-- A member record (Table 8-1), with its standing order (R71), its transition fields (Table 7-1) and the applied policies
and ORDER_MISSED cause of the FPU (R159). Its map and group field are in `Stored`. -/
structure Member where
  state : MemberState
  controllerId : Option Nat
  capability : Option Capability
  mode : Option Mode
  running : Option Nat
  count : Option Nat
  position : Option Nat
  lastApplied : Option Int
  noReplies : Nat
  alerts : PerAlert AlertWatch
  faults : PerClass FaultEntry
  missCause : Option MissCause
  missReason : Option Nat
  order : Option StandingOrder
  error : Option Int
  direction : Direction
  remaining : Nat
  correction : Int
  correctionCount : Option Nat
  method : Option Method
  expected : Option Nat
  deadline : Option Nat
  late : Bool
  resync : Bool
  observed : Nat
  deriving DecidableEq, Repr

/-- No condition, no latch, no count (R117). -/
def FaultEntry.clear : FaultEntry where
  standing := false
  latched := false
  count := 0
  applied := none

/-- The same value for each fault class. -/
def PerClass.all {α : Type} (a : α) : PerClass α := ⟨a, a, a, a, a, a⟩

/-- The same value for each alert. -/
def PerAlert.all {α : Type} (a : α) : PerAlert α := ⟨a, a, a, a, a, a⟩

/-- A member record after either reset (R71, R92, R117), before start-up has loaded the maps. -/
def Member.initial : Member where
  state := .offline
  controllerId := none
  capability := none
  mode := none
  running := none
  count := none
  position := none
  lastApplied := none
  noReplies := 0
  alerts := PerAlert.all ⟨false, 0⟩
  faults := PerClass.all FaultEntry.clear
  missCause := none
  missReason := none
  order := none
  error := none
  direction := .none
  remaining := 0
  correction := 0
  correctionCount := none
  method := none
  expected := none
  deadline := none
  late := false
  resync := false
  observed := 0

/-! ### Field segments (FLC) -/

/-- Segment states (R134). -/
inductive SegState where
  | off | checking | active | stuck | closing
  deriving DecidableEq, Repr

/-- Causes of a SEGMENT_STATE notice (R139). -/
inductive SegCause where
  | start | enable | checkPassed | lineHeld | lineReleased | disable | closed
  deriving DecidableEq, Repr

/-- The level a segment's receiver reads (R134). -/
inductive Level where
  | mark | space
  deriving DecidableEq, Repr

/-- Kinds of field transaction (9.4); a RELEASE is an ORDER of plan 0. -/
inductive TxnKind where
  | poll | order | query
  deriving DecidableEq, Repr

/-- What a queued transaction carries (R140). -/
inductive TxnBody where
  | order (oid : Nat) (payload : OrderPayload)
  | query
  deriving DecidableEq, Repr

/-- A queued transaction (R140). -/
structure Txn where
  body : TxnBody
  target : Ix
  enqueued : Nat
  seq : Nat
  deriving DecidableEq, Repr

/-- What an in-flight transaction carries: a POLL's correction and the count it is for (R94), or what was queued. -/
inductive SentBody where
  | poll (correction : Int) (count : Option Nat)
  | order (oid : Nat) (payload : OrderPayload)
  | query
  deriving DecidableEq, Repr

/-- The phase of an in-flight transaction (R142): the request is being sent, or its window is open until the crystal
instant `closes` (ms); `waited` says that a WAIT marker has moved the close (R143), `heard` holds the bytes received of a
reply frame that has begun, from its frame start on, and `lastAt` the crystal instant (ms) of the last of them (R144, R190). -/
inductive FieldPhase where
  | request
  | window (closes : Nat) (waited : Bool) (heard : List Byte) (lastAt : Nat)
  deriving DecidableEq, Repr

/-- The in-flight transaction (R142): the drop it was sent to, the E at which its frame was built, its place in the queue. -/
structure InFlight where
  body : SentBody
  target : Ix
  drop : Drop
  builtE : Nat
  enqueued : Nat
  seq : Nat
  phase : FieldPhase
  deriving DecidableEq, Repr

/-- The candidate (R141), with the crystal instant (ms) at which its turnaround ends. -/
structure Candidate where
  kind : TxnKind
  target : Ix
  seq : Nat
  endsAt : Nat
  deriving DecidableEq, Repr

/-- The counters of a segment (Table 9-4). -/
structure SegCounters where
  sentPoll : Nat
  sentOrder : Nat
  sentQuery : Nat
  good : Nat
  noReply : Nat
  badReply : Nat
  waitTimeout : Nat
  lateReply : Nat
  stuckEnd : Nat
  stuck : Nat
  displaced : Nat
  deriving DecidableEq, Repr

/-- A segment (R134). `line` and `lineSince` are the line watch: the level read and the crystal instant (ms) from which it
has been read; `nextSeq` is the next join sequence number (R140). -/
structure Segment where
  state : SegState
  queue : List Txn
  inFlight : Option InFlight
  candidate : Option Candidate
  line : Level
  lineSince : Nat
  nextSeq : Nat
  counters : SegCounters
  deriving DecidableEq, Repr

/-- A segment after either reset, before start-up completes (R134). -/
def Segment.initial : Segment where
  state := .off
  queue := []
  inFlight := none
  candidate := none
  line := .mark
  lineSince := 0
  nextSeq := 0
  counters := ⟨0, 0, 0, 0, 0, 0, 0, 0, 0, 0, 0⟩

/-- An interval counter (R150): running, with the crystal instant (ms) at which it reaches 0, or stopped, with the time
that remained (R151). -/
inductive IntervalCounter where
  | running (dueAt : Nat)
  | stopped (remaining : Nat)
  deriving DecidableEq, Repr

/-- The poll state of a mapped intersection (R150). -/
structure Poll where
  counter : IntervalCounter
  backlog : Nat
  overdue : Bool
  deriving DecidableEq, Repr

/-! ### Master ports (MPT) -/

/-- The requests, in the order of their codes 1 to 34 (Table 12-2, R187). -/
inductive Request where
  | mark | setTime | readTime | writePlan | deletePlan | writeOffset | writeParams
  | readPlan | readOffset | readParams | setEventGroups | addEntry | removeEntry
  | readEntry | listEntries | placeHold | releaseHold | setMembers | readGroup
  | setMap | requery | readIntersection | enableSegment | disableSegment
  | writeSegmentParams | readSegment | setPolicy | clearFaults | readFaults
  | setNoticeMask | readPorts | commit | readStore | reset
  deriving DecidableEq, Repr

/-- Status codes (Table 12-4). -/
inductive Status where
  | ok | busy | denied | badArg | notFound | inUse | full | heldByOther | early | range | untimed | storeBusy | storeWorn
  deriving DecidableEq, Repr

/-- One item of a payload or of a notice's detail, in the encodings of R187: numbers of 1, 2 and 4 bytes, a value on the
scale of E, Δ, another signed number, and the presence byte of a field that may be absent (`absent` stands for that byte
and the zero bytes of the absent field). -/
inductive Item where
  | n1 (v : Nat)
  | n2 (v : Nat)
  | n4 (v : Nat)
  | time (v : Nat)
  | delta (v : Int)
  | signed (v : Int)
  | present
  | absent (width : Nat)
  deriving DecidableEq, Repr

/-- A reply (Table 14-1). -/
structure Reply where
  tag : BitVec 16
  code : Nat
  status : Status
  items : List Item
  deriving DecidableEq, Repr

/-- Causes of an ENTRY_EXPIRED notice (R50). -/
inductive ExpiryCause where
  | ended | superseded
  deriving DecidableEq, Repr

/-- Causes of a HOLD_ENDED notice (R67); REPLACED names the role whose placement replaced the hold. -/
inductive HoldCause where
  | ended
  | replaced (role : Port)
  deriving DecidableEq, Repr

/-- The nine notice kinds (Table 12-3) with the subject and the detail that each offering rule gives. -/
inductive NoticeBody where
  | timeState (new prev : TrefState) (cause : TimeCause)
  | switchStarted (g : GroupNo) (target prev current ts : Nat) (source : WantedSource) (ordered waiting : Nat)
  | groupSteady (g : GroupNo) (current inStep notEligible : Nat)
  | entryExpired (id : Nat) (tag : BitVec 16) (cause : ExpiryCause) (owner : Port) (plan : Nat)
  | holdEnded (g : GroupNo) (hold : Hold) (cause : HoldCause)
  | fault (i : Ix) (g : Option GroupNo) (cls : FaultClass) (policy : Policy) (scope : Scope) (count : Nat)
      (cause : Option MissCause) (reason : Option Nat) (suspended : Bool)
  | alertChange (i : Ix) (new prev : PerAlert Bool)
  | segmentState (k : SegNo) (new prev : SegState) (cause : SegCause)
  | storeDone (count : Nat) (role : Port)
  deriving DecidableEq, Repr

/-- A notice: the E of its event and what it says (R176). -/
structure Notice where
  e : Nat
  body : NoticeBody
  deriving DecidableEq, Repr

/-- One admit flag for each notice kind (R169). -/
structure NoticeMask where
  timeState : Bool
  switchStarted : Bool
  groupSteady : Bool
  entryExpired : Bool
  holdEnded : Bool
  fault : Bool
  alertChange : Bool
  segmentState : Bool
  storeDone : Bool
  deriving DecidableEq, Repr

/-- The request being served (R169) and its reply once the outcome is given and until its frame is begun (R172, R173). -/
structure Serving where
  tag : BitVec 16
  request : Request
  reply : Option Reply
  deriving DecidableEq, Repr

/-- The frame the transmitter is sending (R173): the reply of the served request, a reply of the busy-reply list, or a
notice with its lost flag. -/
inductive TxFrame where
  | served (r : Reply)
  | busy (r : Reply)
  | notice (n : Notice) (lost : Bool)
  deriving DecidableEq, Repr

/-- The receive state of a port: hunting, or receiving a frame, with the bytes received so far and the crystal instant (ms) of
the last of them (R169). -/
inductive RxState where
  | hunting
  | receiving (bytes : List Byte) (lastAt : Nat)
  deriving DecidableEq, Repr

/-- The counters of a port (R179). -/
structure PortCounters where
  request : Nat
  frameError : Nat
  busy : Nat
  overrun : Nat
  denied : Nat
  lost : Nat
  notice : Nat
  deriving DecidableEq, Repr

/-- The state of one port (R169); its role is the port itself. -/
structure PortState where
  service : Option Serving
  rx : RxState
  busyList : List Reply
  mask : NoticeMask
  queue : List Notice
  lost : Bool
  tx : Option TxFrame
  counters : PortCounters
  deriving DecidableEq, Repr

/-- A port after either reset (R169). -/
def PortState.initial : PortState where
  service := none
  rx := .hunting
  busyList := []
  mask := ⟨true, true, true, true, true, true, true, true, true⟩
  queue := []
  lost := false
  tx := none
  counters := ⟨0, 0, 0, 0, 0, 0, 0⟩

/-- One value for each port. -/
structure PerPort (α : Type) where
  centre : α
  event : α
  cabinet : α
  deriving DecidableEq, Repr

/-! ### Configuration store (CFS) and the part as a whole -/

/-- The nonvolatile image area (R181): erased, with every byte and the CRC all ones, or holding bytes and the CRC carried
beside them. The spec gives the image no layout, so `tables` says which items of Table 13-1 the bytes stand for
(DESIGN CHOICE, log entry 16). -/
inductive Image where
  | erased
  | held (bytes : List Byte) (crc : BitVec 16) (tables : Stored)
  deriving DecidableEq, Repr

/-- Store status (R184). -/
inductive StoreStatus where
  | good | storeBad
  deriving DecidableEq, Repr

/-- Load result of the last start-up (R184). -/
inductive LoadResult where
  | good | badCrc | blank
  deriving DecidableEq, Repr

/-- A COMMIT in flight (R182): its snapshot, the committing port and the crystal instant (ms) of the snapshot. -/
structure CommitInFlight where
  snapshot : Stored
  port : Port
  since : Nat
  deriving DecidableEq, Repr

/-- Start causes (R185). -/
inductive StartCause where
  | powerOn | resetLine | resetRequest
  deriving DecidableEq, Repr

/-- The configuration store (R181 to R186). `countCell` is the nonvolatile cell of the commit count, `none` when it reads
blank; `causeE` is the E of the start cause record. -/
structure Cfs where
  image : Image
  countCell : Option Nat
  status : StoreStatus
  loadResult : LoadResult
  commit : Option CommitInFlight
  cause : StartCause
  causeE : Nat
  deriving DecidableEq, Repr

/-- Where the part stands between a reset and service (R184, R185): held in reset while the RESET contact is closed, with
the cause of the start-up that will follow; loading the image since a crystal instant (ms); or running. -/
inductive RunPhase where
  | held (cause : StartCause)
  | loading (since : Nat)
  | running
  deriving DecidableEq, Repr

/-- The whole state. `pending` is the queue of waiting commands; `crystal` the count of crystal time in ms (2.1);
`contactClosed` the RESET input; `owed` the evaluations triggered and not yet taken, oldest first; `nextOid` and `freeUses`
are the model's own counters. -/
structure State where
  pending : List Instr
  crystal : Nat
  phase : RunPhase
  contactClosed : Bool
  tref : Tref
  stored : Stored
  owed : List OwedEvaluation
  groups : Vector Group 16
  members : Vector Member 64
  segments : Vector Segment 4
  polls : Vector (Option Poll) 64
  ports : PerPort PortState
  cfs : Cfs
  nextOid : Nat
  freeUses : Nat
  deriving DecidableEq, Repr

/-- TREF after power-on (Table 2-3). -/
def Tref.powerOn : Tref where
  e := 0
  state := .unset
  slew := 0
  slewStart := 0
  lastMark := none
  timerStart := none
  accepted := 0
  early := 0
  rejected := 0
  minuteOwed := false
  resetNoticeE := none

/-- The faults of the model: none. Every command of the table completes, so no meaning raises a fault and the type has
no constructor. -/
inductive Fault where
  deriving DecidableEq, Repr

/-- The refusals of the model. -/
inductive Refusal where
  /-- Raised by an arm of `exec` for a command that has no meaning yet; no arm does so. Safe: the model stops. -/
  | notModelled (mnemonic : String)
  deriving DecidableEq, Repr

/-- The part right after power-on, with a store that has never completed a COMMIT: start-up is under way (R4, R184). -/
def State.reset : State where
  pending := []
  crystal := 0
  phase := .loading 0
  contactClosed := false
  tref := Tref.powerOn
  stored := Stored.empty
  owed := []
  groups := Vector.replicate 16 Group.initial
  members := Vector.replicate 64 Member.initial
  segments := Vector.replicate 4 Segment.initial
  polls := Vector.replicate 64 none
  ports := ⟨PortState.initial, PortState.initial, PortState.initial⟩
  cfs := { image := .erased, countCell := some 0, status := .storeBad, loadResult := .blank, commit := none,
           cause := .powerOn, causeE := 0 }
  nextOid := 0
  freeUses := 0

end Sys2Proof.Machine
end

