-- ==== Sys2Proof/Machine/Bytes.lean ====
section
/-! DEFINITION. Byte order, signed fields, the CRC-16, the codes of named values, and the layouts of the frames the part
sends (R181, R187 to R190, Tables 14-1, 14-2, 14-4 and 14-5). -/

namespace Sys2Proof.Machine

/-! ### Fields, most significant byte first (R187) -/

/-- A number in 1 byte. -/
def u8 (n : Nat) : List Byte := [BitVec.ofNat 8 n]

/-- A number in 2 bytes. -/
def u16 (n : Nat) : List Byte := u8 (n / 256) ++ u8 n

/-- A number in 4 bytes. -/
def u32 (n : Nat) : List Byte := u16 (n / 65536) ++ u16 n

/-- A value on the scale of E, in 5 bytes. -/
def u40 (n : Nat) : List Byte := u8 (n / 4294967296) ++ u32 n

/-- A signed number in 2 bytes, two's complement. -/
def s16 (v : Int) : List Byte := u16 (v % 65536).toNat

/-- Δ in 5 bytes, two's complement. -/
def s40 (v : Int) : List Byte := u40 (v % 1099511627776).toNat

/-- The number two bytes carry. -/
def val2 (a b : Byte) : Nat := a.toNat * 256 + b.toNat

/-- The number four bytes carry. -/
def val4 (a b c d : Byte) : Nat := val2 a b * 65536 + val2 c d

/-- The number five bytes carry. -/
def val5 (a b c d e : Byte) : Nat := a.toNat * 4294967296 + val4 b c d e

/-- The signed number two bytes carry. -/
def signed2 (a b : Byte) : Int := if val2 a b < 32768 then val2 a b else (val2 a b : Int) - 65536

/-! ### The CRC-16 (R181) -/

/-- One bit of the CRC: generator x^16 + x^12 + x^5 + 1. -/
def crcBit (c : BitVec 16) : BitVec 16 :=
  if c.msb then (c <<< 1) ^^^ 0x1021#16 else c <<< 1

/-- One byte of the CRC, most significant bit first. -/
def crcByte (c : BitVec 16) (b : Byte) : BitVec 16 :=
  let x := c ^^^ (b.zeroExtend 16 <<< 8)
  crcBit (crcBit (crcBit (crcBit (crcBit (crcBit (crcBit (crcBit x)))))))

/-- The CRC-16 of a list of bytes: initial value all ones, result not inverted. -/
def crc16 (bytes : List Byte) : BitVec 16 := bytes.foldl crcByte 0xFFFF#16

/-! ### Codes of named values (R187) -/

/-- A yes/no value in a frame; DESIGN CHOICE (log entry 12): 0 no, 1 yes, as the lost flag and the presence byte. -/
def boolCode (b : Bool) : Nat := if b then 1 else 0

/-- Owner roles in the order of Table 4-1. -/
def roleCode : Port → Nat
  | .centre => 0
  | .event => 1
  | .cabinet => 2

/-- TREF states in the order of R4. -/
def TrefState.code : TrefState → Nat
  | .unset => 0
  | .locked => 1
  | .holdover => 2
  | .untimed => 3

/-- Causes of TIME_STATE in the order of R17. -/
def TimeCause.code : TimeCause → Nat
  | .mark => 0
  | .setTime => 1
  | .timer => 2
  | .reset => 3

/-- Methods (R187). -/
def Method.code : Method → Nat
  | .shortway => 0
  | .delay => 1
  | .step => 2

/-- The method a code names (Table 3-1, order 4). -/
def Method.ofCode : Nat → Option Method
  | 0 => some .shortway
  | 1 => some .delay
  | 2 => some .step
  | _ => none

/-- Modes (R187). -/
def Mode.code : Mode → Nat
  | .coordinated => 0
  | .localMode => 1
  | .flash => 2
  | .manual => 3
  | .starting => 4

/-- The mode a code names; a code above 4 is stored as STARTING (R128, R190). -/
def Mode.ofCode : Nat → Mode
  | 0 => .coordinated
  | 1 => .localMode
  | 2 => .flash
  | 3 => .manual
  | _ => .starting

/-- Group states in the order of Table 6-1. -/
def GroupState.code : GroupState → Nat
  | .free => 0
  | .pending => 1
  | .transition => 2
  | .steady => 3
  | .suspended => 4

/-- Member states in the order of Table 8-1. -/
def MemberState.code : MemberState → Nat
  | .unknown => 0
  | .free => 1
  | .ordered => 2
  | .correcting => 3
  | .inStep => 4
  | .excluded => 5
  | .latched => 6
  | .offline => 7

/-- Segment states in the order of R134. -/
def SegState.code : SegState → Nat
  | .off => 0
  | .checking => 1
  | .active => 2
  | .stuck => 3
  | .closing => 4

/-- Causes of SEGMENT_STATE in the order of R139. -/
def SegCause.code : SegCause → Nat
  | .start => 0
  | .enable => 1
  | .checkPassed => 2
  | .lineHeld => 3
  | .lineReleased => 4
  | .disable => 5
  | .closed => 6

/-- Fault classes (R187, Table 11-1). -/
def FaultClass.code : FaultClass → Nat
  | .noReply => 0
  | .orderMissed => 1
  | .transitionLate => 2
  | .transitionBlocked => 3
  | .capability => 4
  | .alert => 5

/-- The class a code names (R165). -/
def FaultClass.ofCode : Nat → Option FaultClass
  | 0 => some .noReply
  | 1 => some .orderMissed
  | 2 => some .transitionLate
  | 3 => some .transitionBlocked
  | 4 => some .capability
  | 5 => some .alert
  | _ => none

/-- Policies (Table 14-3). -/
def Policy.code : Policy → Nat
  | .latched => 0
  | .recovering => 1
  | .reportOnly => 2
  | .off => 3

/-- The policy a code names (R165). -/
def Policy.ofCode : Nat → Option Policy
  | 0 => some .latched
  | 1 => some .recovering
  | 2 => some .reportOnly
  | 3 => some .off
  | _ => none

/-- Scopes (Table 14-3). -/
def Scope.code : Scope → Nat
  | .member => 0
  | .group => 1

/-- The scope a code names (R165). -/
def Scope.ofCode : Nat → Option Scope
  | 0 => some .member
  | 1 => some .group
  | _ => none

/-- Directions in the order of Table 7-1. -/
def Direction.code : Direction → Nat
  | .advance => 0
  | .delay => 1
  | .none => 2

/-- Kinds of standing order in the order of R71. -/
def OrderKind.code : OrderKind → Nat
  | .order => 0
  | .release => 1

/-- Outcomes of a standing order in the order of R71. -/
def OrderOutcome.code : OrderOutcome → Nat
  | .owed => 0
  | .delivered => 1
  | .refused => 2

/-- Causes of ORDER_MISSED in the order of R84. -/
def MissCause.code : MissCause → Nat
  | .notDelivered => 0
  | .refused => 1
  | .notSwitched => 2

/-- Kinds of transaction in the order of 9.4. -/
def TxnKind.code : TxnKind → Nat
  | .poll => 0
  | .order => 1
  | .query => 2

/-- The kind byte of a field frame (Table 14-4). -/
def TxnKind.fieldCode : TxnKind → Nat
  | .poll => 1
  | .order => 2
  | .query => 3

/-- Line levels in the order of R134. -/
def Level.code : Level → Nat
  | .mark => 0
  | .space => 1

/-- Causes of ENTRY_EXPIRED in the order of R48 to R50. -/
def ExpiryCause.code : ExpiryCause → Nat
  | .ended => 0
  | .superseded => 1

/-- Store status in the order of R186. -/
def StoreStatus.code : StoreStatus → Nat
  | .good => 0
  | .storeBad => 1

/-- Load results in the order of R186. -/
def LoadResult.code : LoadResult → Nat
  | .good => 0
  | .badCrc => 1
  | .blank => 2

/-- Start causes in the order of R185. -/
def StartCause.code : StartCause → Nat
  | .powerOn => 0
  | .resetLine => 1
  | .resetRequest => 2

/-- Request codes 1 to 34 (R187). -/
def Request.code : Request → Nat
  | .mark => 1
  | .setTime => 2
  | .readTime => 3
  | .writePlan => 4
  | .deletePlan => 5
  | .writeOffset => 6
  | .writeParams => 7
  | .readPlan => 8
  | .readOffset => 9
  | .readParams => 10
  | .setEventGroups => 11
  | .addEntry => 12
  | .removeEntry => 13
  | .readEntry => 14
  | .listEntries => 15
  | .placeHold => 16
  | .releaseHold => 17
  | .setMembers => 18
  | .readGroup => 19
  | .setMap => 20
  | .requery => 21
  | .readIntersection => 22
  | .enableSegment => 23
  | .disableSegment => 24
  | .writeSegmentParams => 25
  | .readSegment => 26
  | .setPolicy => 27
  | .clearFaults => 28
  | .readFaults => 29
  | .setNoticeMask => 30
  | .readPorts => 31
  | .commit => 32
  | .readStore => 33
  | .reset => 34

/-- Whether Table 12-2 has a request of this code (R171, order 3). -/
def knownCode (code : Nat) : Bool := 1 ≤ code && code ≤ 34

/-- Status codes 0 to 12 (R187). -/
def Status.code : Status → Nat
  | .ok => 0
  | .busy => 1
  | .denied => 2
  | .badArg => 3
  | .notFound => 4
  | .inUse => 5
  | .full => 6
  | .heldByOther => 7
  | .early => 8
  | .range => 9
  | .untimed => 10
  | .storeBusy => 11
  | .storeWorn => 12

/-! ### Items, replies and notices -/

/-- The bytes of one item (R187). -/
def Item.bytes : Item → List Byte
  | .n1 v => u8 v
  | .n2 v => u16 v
  | .n4 v => u32 v
  | .time v => u40 v
  | .delta v => s40 v
  | .signed v => s16 v
  | .present => u8 1
  | .absent w => u8 0 ++ List.replicate w 0#8

/-- The bytes of a payload or of a detail. -/
def itemBytes (items : List Item) : List Byte := items.flatMap Item.bytes

/-- A field that may be absent: its presence byte and its items; `w` is the width of the field in bytes (R187). -/
def optItem {α : Type} (w : Nat) (o : Option α) (f : α → List Item) : List Item :=
  match o with
  | none => [.absent w]
  | some a => .present :: f a

/-- A list of items: a 1-byte count, then the items of each (R187). -/
def listItem {α : Type} (l : List α) (f : α → List Item) : List Item := .n1 l.length :: l.flatMap f

/-- An epoch minute: the day number, then the minute (R187). -/
def EpochMinute.items (m : EpochMinute) : List Item := [.n2 m.day, .n2 m.minute]

/-- The bytes after a length field, framed with start byte, length and CRC (Tables 14-1 and 14-2, R188). -/
def portFrame (start : Nat) (body : List Byte) : List Byte :=
  let span := u16 body.length ++ body
  u8 start ++ span ++ u16 (crc16 span).toNat

/-- A request frame as a master sends it (Table 14-1). -/
def requestFrameBytes (tag : BitVec 16) (code : Byte) (payload : List Byte) : List Byte :=
  portFrame 0xA5 (u16 tag.toNat ++ [code] ++ payload)

/-- A reply frame (Table 14-1). -/
def Reply.frame (r : Reply) : List Byte :=
  portFrame 0xA5 (u16 r.tag.toNat ++ u8 r.code ++ u8 r.status.code ++ itemBytes r.items)

/-- Notice kinds 1 to 9 (R187, Table 12-3). -/
def NoticeBody.kind : NoticeBody → Nat
  | .timeState .. => 1
  | .switchStarted .. => 2
  | .groupSteady .. => 3
  | .entryExpired .. => 4
  | .holdEnded .. => 5
  | .fault .. => 6
  | .alertChange .. => 7
  | .segmentState .. => 8
  | .storeDone .. => 9

/-- The four subject bytes of a notice (R188). -/
def NoticeBody.subject : NoticeBody → List Byte
  | .switchStarted g .. => u8 g.val ++ u8 0 ++ u16 0
  | .groupSteady g .. => u8 g.val ++ u8 0 ++ u16 0
  | .holdEnded g h _ => u8 g.val ++ u8 0 ++ u16 h.tag.toNat
  | .entryExpired id tag .. => u8 0 ++ u8 id ++ u16 tag.toNat
  | .segmentState k .. => u8 k.val ++ u8 0 ++ u16 0
  | .alertChange i .. => u8 i.val ++ u8 0 ++ u16 0
  | .fault i g .. => u8 i.val ++ u8 (match g with | some g => g.val | none => 0xFF) ++ u16 0
  | .timeState .. => u32 0
  | .storeDone .. => u32 0

/-- The items of a wanted source: its code, then a hold's role and tag or an entry's id (R75, R90). One presence byte for a
hold's role and tag together and another for an entry's id is a DESIGN CHOICE (log entry 14). -/
def WantedSource.items : WantedSource → List Item
  | .hold owner tag => [.n1 0, .present, .n1 (roleCode owner), .n2 tag.toNat, .absent 1]
  | .entry id => [.n1 1, .absent 3, .present, .n1 id]
  | .none => [.n1 2, .absent 3, .absent 1]
  | .kept => [.n1 3, .absent 3, .absent 1]

/-- An alert set as a byte (R187). -/
def alertByte (a : PerAlert Bool) : Nat :=
  boolCode a.manual + 2 * boolCode a.flash + 4 * boolCode a.door + 8 * boolCode a.detector
    + 16 * boolCode a.localPlan + 32 * boolCode a.powerRestored

/-- The alert set a byte shows; the top two bits are disregarded (R190). -/
def alertsOfByte (b : Byte) : PerAlert Bool where
  manual := b.getLsbD 0
  flash := b.getLsbD 1
  door := b.getLsbD 2
  detector := b.getLsbD 3
  localPlan := b.getLsbD 4
  powerRestored := b.getLsbD 5

/-- The detail items of a notice, in the order of its offering rule (R17, R50, R67, R75, R91, R132, R139, R160, R182). That the
replacing role of HOLD_ENDED, and the cause and the reason of FAULT, are fields absent where the rule gives no value is a DESIGN
CHOICE (log entry 14). -/
def NoticeBody.detail : NoticeBody → List Item
  | .timeState new prev cause => [.n1 new.code, .n1 prev.code, .n1 cause.code]
  | .switchStarted _ target prev current ts source ordered waiting =>
      [.n1 target, .n1 prev, .n1 current, .time ts] ++ source.items ++ [.n1 ordered, .n1 waiting]
  | .groupSteady _ current inStep notEligible => [.n1 current, .n1 inStep, .n1 notEligible]
  | .entryExpired _ _ cause owner plan => [.n1 cause.code, .n1 (roleCode owner), .n1 plan]
  | .holdEnded _ h cause =>
      [.n1 (match cause with | .ended => 0 | .replaced _ => 1), .n1 (roleCode h.owner), .n1 h.plan]
        ++ optItem 4 h.ends EpochMinute.items
        ++ (match cause with | .ended => [.absent 1] | .replaced r => [.present, .n1 (roleCode r)])
  | .fault _ _ cls policy scope count cause reason suspended =>
      [.n1 cls.code, .n1 policy.code]
        ++ optItem 1 (if policy = .latched then some scope else none) (fun x => [.n1 x.code])
        ++ [.n1 count]
        ++ optItem 1 cause (fun c => [.n1 c.code]) ++ optItem 1 reason (fun r => [.n1 r])
        ++ [.n1 (boolCode suspended)]
  | .alertChange _ new prev => [.n1 (alertByte new), .n1 (alertByte prev)]
  | .segmentState _ new prev cause => [.n1 new.code, .n1 prev.code, .n1 cause.code]
  | .storeDone count role => [.n1 0, .n4 count, .n1 (roleCode role)]

/-- A notice frame (Table 14-2). -/
def Notice.frame (n : Notice) (lost : Bool) : List Byte :=
  portFrame 0xA6
    (u8 n.body.kind ++ u8 (boolCode lost) ++ u40 n.e ++ n.body.subject ++ itemBytes n.body.detail)

/-- The bytes of the frame a transmitter is sending (R173). -/
def TxFrame.bytes : TxFrame → List Byte
  | .served r => r.frame
  | .busy r => r.frame
  | .notice n lost => n.frame lost

/-! ### Field frames (Tables 14-4 and 14-5) -/

/-- The kind of an in-flight transaction. -/
def SentBody.kind : SentBody → TxnKind
  | .poll .. => .poll
  | .order .. => .order
  | .query => .query

/-- The kind of a queued transaction. -/
def TxnBody.kind : TxnBody → TxnKind
  | .order .. => .order
  | .query => .query

/-- The body of a request to a controller; `e` is the E at which the frame is built (R189). -/
def SentBody.bytes (b : SentBody) (e : Nat) : List Byte :=
  match b with
  | .poll c count => s16 c ++ u8 (count.getD 0) ++ u8 (boolCode count.isSome)
  | .order _ p =>
      u8 p.plan ++ u8 p.pattern ++ u16 p.cycle ++ u16 p.offset ++ u40 p.tm ++ u40 e ++ u8 p.method.code
  | .query => []

/-- A field frame: frame start, drop address, length, kind, body and CRC over the bytes between (Table 14-4, R190). -/
def fieldFrame (d : Drop) (kind : TxnKind) (body : List Byte) : List Byte :=
  let span := u8 (d.val + 1) ++ u8 (body.length + 1) ++ u8 kind.fieldCode ++ body
  u8 0x5A ++ span ++ u16 (crc16 span).toNat

/-- The request frame of an in-flight transaction (R190). -/
def InFlight.frame (t : InFlight) : List Byte := fieldFrame t.drop t.body.kind (t.body.bytes t.builtE)

/-- The WAIT marker of a drop: F0 plus the drop address less 1 (R189). -/
def waitMarkerByte (d : Drop) : Byte := BitVec.ofNat 8 (0xF0 + d.val)

end Sys2Proof.Machine
end

