-- ==== Sys2Proof/Machine/Operands.lean ====
section
/-! DEFINITION. What the commands' operands mean: the payload of each request (Table 14-3 and R188; `none` when the payload
does not fit the request), the verdict on a master's frame (R170, R188) and the judging and reading of a controller's reply
frame (R190, Table 14-5). -/

namespace Sys2Proof.Machine

/-! ### Request payloads -/

/-- A presence byte: 0 absent, 1 present; no other value fits (R188). -/
def presence (b : Byte) : Option Bool :=
  if b = 0#8 then some false else if b = 1#8 then some true else none

/-- A request without payload. -/
def parseNothing : List Byte → Option Unit
  | [] => some ()
  | _ => none

/-- A request with one 1-byte number. -/
def parseByte : List Byte → Option Nat
  | [a] => some a.toNat
  | _ => none

/-- MARK and SET_TIME. -/
def parseTime : List Byte → Option Nat
  | [a, b, c, d, e] => some (val5 a b c d e)
  | _ => none

structure WritePlanArgs where
  plan : Nat
  cycle : Nat
  pattern : Nat
  method : Nat
  deriving DecidableEq, Repr

/-- WRITE_PLAN; the last byte is disregarded (R188). -/
def parseWritePlan : List Byte → Option WritePlanArgs
  | [p, c1, c0, pat, m, _] => some ⟨p.toNat, val2 c1 c0, pat.toNat, m.toNat⟩
  | _ => none

structure WriteOffsetArgs where
  intersection : Nat
  plan : Nat
  offset : Nat
  deriving DecidableEq, Repr

/-- WRITE_OFFSET. -/
def parseWriteOffset : List Byte → Option WriteOffsetArgs
  | [i, p, o1, o0] => some ⟨i.toNat, p.toNat, val2 o1 o0⟩
  | _ => none

structure ReadOffsetArgs where
  plan : Nat
  first : Nat
  count : Nat
  deriving DecidableEq, Repr

/-- READ_OFFSET: each argument of R28 in 1 byte (R188). -/
def parseReadOffset : List Byte → Option ReadOffsetArgs
  | [p, f, c] => some ⟨p.toNat, f.toNat, c.toNat⟩
  | _ => none

/-- An item of WRITE_PARAMS or WRITE_SEGMENT_PARAMS: a parameter identifier and a value. -/
structure ParamItem where
  ident : Nat
  value : Nat
  deriving DecidableEq, Repr

/-- Items of 3 bytes each. -/
def parseItems : List Byte → Option (List ParamItem)
  | [] => some []
  | i :: v1 :: v0 :: rest => (parseItems rest).map (⟨i.toNat, val2 v1 v0⟩ :: ·)
  | _ => none

/-- A count byte and as many items of 3 bytes: the length must agree with the count (R188). -/
def parseParamList : List Byte → Option (List ParamItem)
  | [] => none
  | k :: rest => if rest.length = 3 * k.toNat then parseItems rest else none

structure SegParamArgs where
  segment : Nat
  items : List ParamItem
  deriving DecidableEq, Repr

/-- WRITE_SEGMENT_PARAMS. -/
def parseSegParams : List Byte → Option SegParamArgs
  | [] => none
  | k :: rest => (parseParamList rest).map (⟨k.toNat, ·⟩)

/-- SET_EVENT_GROUPS: a 16-bit group mask (R33, R188). -/
def parseMask : List Byte → Option GroupSet
  | [a, b] => some (BitVec.ofNat 16 (val2 a b))
  | _ => none

structure AddEntryArgs where
  id : Nat
  kind : Nat
  groups : GroupSet
  plan : Nat
  priority : Nat
  dayField : Nat
  startMinute : Nat
  ends : Option EpochMinute
  tag : BitVec 16
  deriving DecidableEq, Repr

/-- ADD_ENTRY: 18 bytes; the bytes of an absent end are not read and the last byte is disregarded (R188). -/
def parseAddEntry : List Byte → Option AddEntryArgs
  | [i, k, g1, g0, p, pr, d1, d0, m1, m0, ep, ed1, ed0, em1, em0, t1, t0, _] =>
      (presence ep).map fun e =>
        ⟨i.toNat, k.toNat, BitVec.ofNat 16 (val2 g1 g0), p.toNat, pr.toNat, val2 d1 d0, val2 m1 m0,
          if e then some ⟨val2 ed1 ed0, val2 em1 em0⟩ else none, BitVec.ofNat 16 (val2 t1 t0)⟩
  | _ => none

structure ListEntriesArgs where
  selector : Nat
  page : Nat
  deriving DecidableEq, Repr

/-- LIST_ENTRIES. -/
def parseListEntries : List Byte → Option ListEntriesArgs
  | [s, p] => some ⟨s.toNat, p.toNat⟩
  | _ => none

structure PlaceHoldArgs where
  group : Nat
  plan : Nat
  ends : Option EpochMinute
  tag : BitVec 16
  deriving DecidableEq, Repr

/-- PLACE_HOLD. -/
def parsePlaceHold : List Byte → Option PlaceHoldArgs
  | [g, p, ep, ed1, ed0, em1, em0, t1, t0] =>
      (presence ep).map fun e =>
        ⟨g.toNat, p.toNat, if e then some ⟨val2 ed1 ed0, val2 em1 em0⟩ else none, BitVec.ofNat 16 (val2 t1 t0)⟩
  | _ => none

structure ReleaseHoldArgs where
  group : Nat
  tag : Option (BitVec 16)
  deriving DecidableEq, Repr

/-- RELEASE_HOLD. -/
def parseReleaseHold : List Byte → Option ReleaseHoldArgs
  | [g, tp, t1, t0] =>
      (presence tp).map fun t => ⟨g.toNat, if t then some (BitVec.ofNat 16 (val2 t1 t0)) else none⟩
  | _ => none

structure SetMembersArgs where
  group : Nat
  list : List Nat
  deriving DecidableEq, Repr

/-- SET_MEMBERS: a group, a count byte and as many intersection numbers (R188). -/
def parseSetMembers : List Byte → Option SetMembersArgs
  | g :: k :: rest => if rest.length = k.toNat then some ⟨g.toNat, rest.map (·.toNat)⟩ else none
  | _ => none

structure SetMapArgs where
  intersection : Nat
  segment : Nat
  drop : Nat
  deriving DecidableEq, Repr

/-- SET_MAP; segment FF hex stands for none. -/
def parseSetMap : List Byte → Option SetMapArgs
  | [i, s, d] => some ⟨i.toNat, s.toNat, d.toNat⟩
  | _ => none

structure SetPolicyArgs where
  cls : Nat
  policy : Nat
  scope : Nat
  deriving DecidableEq, Repr

/-- SET_POLICY. -/
def parseSetPolicy : List Byte → Option SetPolicyArgs
  | [c, p, s] => some ⟨c.toNat, p.toNat, s.toNat⟩
  | _ => none

structure ClearFaultsArgs where
  kind : Nat
  number : Nat
  deriving DecidableEq, Repr

/-- CLEAR_FAULTS. -/
def parseClearFaults : List Byte → Option ClearFaultsArgs
  | [k, n] => some ⟨k.toNat, n.toNat⟩
  | _ => none

/-- READ_FAULTS: an optional intersection number. -/
def parseReadFaults : List Byte → Option (Option Nat)
  | [p, i] => (presence p).map fun q => if q then some i.toNat else none
  | _ => none

/-- SET_NOTICE_MASK: kind 1 in the least significant bit; the top seven bits are disregarded (R188). -/
def parseNoticeMask : List Byte → Option NoticeMask
  | [a, b] => some ⟨b.getLsbD 0, b.getLsbD 1, b.getLsbD 2, b.getLsbD 3, b.getLsbD 4, b.getLsbD 5, b.getLsbD 6,
      b.getLsbD 7, a.getLsbD 0⟩
  | _ => none

/-! ### The payloads a master builds (Table 14-3) -/

/-- The bytes of an optional epoch minute: its presence byte and four bytes, 0 when absent. -/
def endBytes : Option EpochMinute → List Byte
  | none => u8 0 ++ u16 0 ++ u16 0
  | some m => u8 1 ++ u16 m.day ++ u16 m.minute

/-- The payload of MARK or SET_TIME. -/
def timePayload (ec : Nat) : List Byte := u40 ec

/-- The payload of WRITE_PLAN. -/
def WritePlanArgs.payload (a : WritePlanArgs) : List Byte :=
  u8 a.plan ++ u16 a.cycle ++ u8 a.pattern ++ u8 a.method ++ u8 0

/-- The payload of WRITE_OFFSET. -/
def WriteOffsetArgs.payload (a : WriteOffsetArgs) : List Byte := u8 a.intersection ++ u8 a.plan ++ u16 a.offset

/-- The payload of ADD_ENTRY. -/
def AddEntryArgs.payload (a : AddEntryArgs) : List Byte :=
  u8 a.id ++ u8 a.kind ++ u16 a.groups.toNat ++ u8 a.plan ++ u8 a.priority ++ u16 a.dayField ++ u16 a.startMinute
    ++ endBytes a.ends ++ u16 a.tag.toNat ++ u8 0

/-- The payload of PLACE_HOLD. -/
def PlaceHoldArgs.payload (a : PlaceHoldArgs) : List Byte :=
  u8 a.group ++ u8 a.plan ++ endBytes a.ends ++ u16 a.tag.toNat

/-- The payload of RELEASE_HOLD. -/
def ReleaseHoldArgs.payload (a : ReleaseHoldArgs) : List Byte :=
  u8 a.group ++ (match a.tag with | none => u8 0 ++ u16 0 | some t => u8 1 ++ u16 t.toNat)

/-- The payload of SET_MEMBERS. -/
def SetMembersArgs.payload (a : SetMembersArgs) : List Byte := u8 a.group ++ u8 a.list.length ++ a.list.flatMap u8

/-- The payload of WRITE_PARAMS. -/
def paramListPayload (items : List ParamItem) : List Byte :=
  u8 items.length ++ items.flatMap fun p => u8 p.ident ++ u16 p.value

/-- The payload of WRITE_SEGMENT_PARAMS. -/
def SegParamArgs.payload (a : SegParamArgs) : List Byte := u8 a.segment ++ paramListPayload a.items

/-- The payload of READ_OFFSET. -/
def ReadOffsetArgs.payload (a : ReadOffsetArgs) : List Byte := u8 a.plan ++ u8 a.first ++ u8 a.count

/-- The payload of SET_EVENT_GROUPS. -/
def maskPayload (g : GroupSet) : List Byte := u16 g.toNat

/-- The payload of LIST_ENTRIES. -/
def ListEntriesArgs.payload (a : ListEntriesArgs) : List Byte := u8 a.selector ++ u8 a.page

/-- The payload of SET_MAP. -/
def SetMapArgs.payload (a : SetMapArgs) : List Byte := u8 a.intersection ++ u8 a.segment ++ u8 a.drop

/-- The payload of SET_POLICY. -/
def SetPolicyArgs.payload (a : SetPolicyArgs) : List Byte := u8 a.cls ++ u8 a.policy ++ u8 a.scope

/-- The payload of CLEAR_FAULTS. -/
def ClearFaultsArgs.payload (a : ClearFaultsArgs) : List Byte := u8 a.kind ++ u8 a.number

/-- The payload of READ_FAULTS. -/
def readFaultsPayload : Option Nat → List Byte
  | none => u8 0 ++ u8 0
  | some i => u8 1 ++ u8 i

/-- The payload of SET_NOTICE_MASK. -/
def NoticeMask.payload (m : NoticeMask) : List Byte :=
  u8 (boolCode m.storeDone)
    ++ u8 (boolCode m.timeState + 2 * boolCode m.switchStarted + 4 * boolCode m.groupSteady + 8 * boolCode m.entryExpired
      + 16 * boolCode m.holdEnded + 32 * boolCode m.fault + 64 * boolCode m.alertChange + 128 * boolCode m.segmentState)

/-! ### Master frames (R170, R188) -/

/-- What the port makes of the bytes of a frame from its frame start on. -/
inductive FrameVerdict where
  /-- The first byte is no frame start. -/
  | noStart
  /-- The frame has begun and is not whole. -/
  | partly
  /-- The length field is out of range: below 3 or above 300. -/
  | badLength
  /-- The frame is whole and its CRC does not agree. -/
  | badCrc
  /-- The frame is whole and good. -/
  | good (tag : BitVec 16) (code : Byte) (payload : List Byte)
  /-- More bytes stand than the frame has. -/
  | tooLong
  deriving DecidableEq, Repr

/-- Whether a length field is out of range (R188). -/
def lengthOut (len : Nat) : Bool := len < 3 || 300 < len

/-- The verdict on the bytes `len1 len0 rest` that follow a frame start. -/
def judgeBody (l1 l0 : Byte) (rest : List Byte) : FrameVerdict :=
  let len := val2 l1 l0
  if lengthOut len then .badLength
  else if rest.length < len + 2 then .partly
  else if len + 2 < rest.length then .tooLong
  else
    match rest.take len, rest.drop len with
    | t1 :: t0 :: code :: payload, [c1, c0] =>
        if (crc16 (l1 :: l0 :: rest.take len)).toNat = val2 c1 c0 then
          .good (BitVec.ofNat 16 (val2 t1 t0)) code payload
        else .badCrc
    | _, _ => .badCrc

/-- The verdict on the bytes of a master's frame. -/
def judgeFrame : List Byte → FrameVerdict
  | [] => .noStart
  | b :: rest =>
      if b ≠ 0xA5#8 then .noStart
      else
        match rest with
        | l1 :: l0 :: body => judgeBody l1 l0 body
        | _ => .partly

/-- Whether a frame is discarded when its length field or its last byte arrives (R170). -/
def FrameVerdict.discarded : FrameVerdict → Bool
  | .badLength => true
  | .badCrc => true
  | _ => false

/-- What a hunting port takes of the bytes that arrive: every byte before a frame start is ignored (R170). -/
def freshFrame (bytes : List Byte) : List Byte := bytes.dropWhile fun b => b ≠ 0xA5#8

/-! ### Reply frames of controllers (R190) -/

/-- A length byte of a reply frame that is out of range (R190). -/
def replyLengthOut (m : Byte) : Bool := m.toNat = 0 || 20 < m.toNat

/-- The reply body length of each kind (Table 14-5). -/
def replyBodyLength : TxnKind → Nat
  | .poll => 8
  | .order => 3
  | .query => 13

/-- Whether the bytes are a reply frame received whole: a frame start, a length in range and as many bytes as it names. -/
def wholeReply : List Byte → Bool
  | s :: _ :: m :: rest => s = 0x5A#8 && 1 ≤ m.toNat && m.toNat ≤ 20 && rest.length = m.toNat + 2
  | _ => false

/-- Whether the last byte of these is a reply frame's length byte and out of range (R190). -/
def badReplyLength : List Byte → Bool
  | [_, _, m] => replyLengthOut m
  | _ => false

/-- What the FLC makes of the bytes of a reply window (R190). -/
inductive Heard where
  /-- No WAIT marker and no reply frame is complete. -/
  | nothing
  /-- The last byte is a WAIT marker that names a drop. -/
  | marker (d : Drop)
  /-- The last byte is a length byte out of range. -/
  | lengthBad
  /-- The reply frame is whole with the last byte. -/
  | whole
  deriving DecidableEq, Repr

/-- The drop that a byte names as a WAIT marker, for F0 to FF (R189). -/
def markerDrop (b : Byte) : Option Drop :=
  if h : 240 ≤ b.toNat then some ⟨b.toNat - 240, by have := b.isLt; omega⟩ else none

/-- The reading of a reply window (R190): after the bytes `reply` of a reply frame that has begun, none when none has, the bytes
of a list are read up to the first that completes something. Before a reply frame has begun, F0 to FF is a WAIT marker, 5A begins
a reply frame, and every other byte is ignored; from then on every byte belongs to the reply frame. Gives what was heard, the
bytes of the reply frame, and the bytes not read. -/
def hear : List Byte → List Byte → Heard × List Byte × List Byte
  | reply, [] => (.nothing, reply, [])
  | [], b :: rest =>
      match markerDrop b with
      | some d => (.marker d, [], rest)
      | none => if b = 0x5A#8 then hear [b] rest else hear [] rest
  | x :: reply, b :: rest =>
      let r := x :: reply ++ [b]
      if badReplyLength r then (.lengthBad, r, rest)
      else if wholeReply r then (.whole, r, rest)
      else hear r rest

/-- A POLL reply (Table 14-5). -/
structure PollReply where
  mode : Mode
  running : Nat
  count : Nat
  position : Nat
  applied : Int
  alerts : PerAlert Bool
  deriving DecidableEq, Repr

/-- An ORDER reply: the answer code and the reason code (Table 14-5). -/
structure OrderReply where
  answer : Nat
  reason : Nat
  alerts : PerAlert Bool
  deriving DecidableEq, Repr

/-- A QUERY reply, in the controller's own units (Tables 8-2 and 14-5). -/
structure QueryReply where
  controllerId : Nat
  cmin : Nat
  cmax : Nat
  step : Nat
  patterns : Nat
  methods : Methods
  acks : Bool
  alerts : PerAlert Bool
  deriving DecidableEq, Repr

/-- A good reply. -/
inductive GoodReply where
  | poll (r : PollReply)
  | order (r : OrderReply)
  | query (r : QueryReply)
  deriving DecidableEq, Repr

/-- The fields of a reply body of a kind, `none` when its length is another. -/
def parseReplyBody (kind : TxnKind) (body : List Byte) : Option GoodReply :=
  match kind, body with
  | .poll, [m, run, c, p1, p0, a1, a0, al] =>
      some (.poll ⟨Mode.ofCode m.toNat, run.toNat, c.toNat, val2 p1 p0, signed2 a1 a0, alertsOfByte al⟩)
  | .order, [a, r, al] => some (.order ⟨a.toNat, r.toNat, alertsOfByte al⟩)
  | .query, [i3, i2, i1, i0, mn1, mn0, mx1, mx0, st, pc, ms, ak, al] =>
      some (.query ⟨val4 i3 i2 i1 i0, val2 mn1 mn0, val2 mx1 mx0, st.toNat, pc.toNat,
        ⟨ms.getLsbD 0, ms.getLsbD 1, ms.getLsbD 2⟩, ak ≠ 0#8, alertsOfByte al⟩)
  | _, _ => none

/-- The body of a POLL reply as a controller sends it (Table 14-5). -/
def PollReply.body (r : PollReply) : List Byte :=
  u8 r.mode.code ++ u8 r.running ++ u8 r.count ++ u16 r.position ++ s16 r.applied ++ u8 (alertByte r.alerts)

/-- The body of an ORDER reply. -/
def OrderReply.body (r : OrderReply) : List Byte := u8 r.answer ++ u8 r.reason ++ u8 (alertByte r.alerts)

/-- The methods supported as a byte (Table 14-5). -/
def Methods.byte (m : Methods) : Nat := boolCode m.shortway + 2 * boolCode m.delay + 4 * boolCode m.step

/-- The body of a QUERY reply. -/
def QueryReply.body (r : QueryReply) : List Byte :=
  u32 r.controllerId ++ u16 r.cmin ++ u16 r.cmax ++ u8 r.step ++ u8 r.patterns ++ u8 r.methods.byte ++ u8 (boolCode r.acks)
    ++ u8 (alertByte r.alerts)

/-- The three tests of a reply received whole: CRC, drop address, kind and length; the reply when they pass (R190). -/
def judgeReply (d : Drop) (kind : TxnKind) (bytes : List Byte) : Option GoodReply :=
  match bytes with
  | _ :: drop :: m :: k :: rest =>
      let body := rest.take (m.toNat - 1)
      match rest.drop (m.toNat - 1) with
      | [c1, c0] =>
          if (crc16 (drop :: m :: k :: body)).toNat = val2 c1 c0 ∧ drop.toNat = d.val + 1
              ∧ k.toNat = kind.fieldCode ∧ m.toNat = replyBodyLength kind + 1 then
            parseReplyBody kind body
          else none
      | _ => none
  | _ => none

end Sys2Proof.Machine
end

