-- ==== Sys2Proof/Machine/Ops.lean ====
section
/-! DEFINITION. Reading and writing the state: the accessors of every table, the network time, offering a notice (R176,
R177), the transmitter (R173) and the judging of a request (R171, R172). -/

namespace Sys2Proof.Machine

/-! ### Tables of a fixed size -/

/-- The element of a table at a number. -/
def vget {α : Type} {n : Nat} (v : Vector α n) (i : Fin n) : α := v[i.val]

/-- A table with one element replaced. -/
def vset {α : Type} {n : Nat} (v : Vector α n) (i : Fin n) (a : α) : Vector α n := v.set i.val a i.isLt

/-- The groups in ascending order. -/
def allGroups : List GroupNo := List.finRange 16

/-- The intersections in ascending order. -/
def allIx : List Ix := List.finRange 64

/-- The segments in ascending order. -/
def allSegs : List SegNo := List.finRange 4

/-- The drops in ascending order of address. -/
def allDrops : List Drop := List.finRange 16

/-- The fault classes in the order of Table 11-1. -/
def allClasses : List FaultClass :=
  [.noReply, .orderMissed, .transitionLate, .transitionBlocked, .capability, .alert]

/-- The plan numbers 1 to 48. -/
def planIndex (k : Nat) : Option (Fin 48) := if h : 1 ≤ k ∧ k ≤ 48 then some ⟨k - 1, by omega⟩ else none

/-- The object a number names, when it is in range. -/
def inRange (n : Nat) (k : Nat) : Option (Fin n) := if h : k < n then some ⟨k, h⟩ else none

/-- The value of a class. -/
def PerClass.get {α : Type} (t : PerClass α) : FaultClass → α
  | .noReply => t.noReply
  | .orderMissed => t.orderMissed
  | .transitionLate => t.transitionLate
  | .transitionBlocked => t.transitionBlocked
  | .capability => t.capability
  | .alert => t.alert

/-- The table with the value of a class replaced. -/
def PerClass.set {α : Type} (t : PerClass α) (c : FaultClass) (a : α) : PerClass α :=
  match c with
  | .noReply => { t with noReply := a }
  | .orderMissed => { t with orderMissed := a }
  | .transitionLate => { t with transitionLate := a }
  | .transitionBlocked => { t with transitionBlocked := a }
  | .capability => { t with capability := a }
  | .alert => { t with alert := a }

/-- The value of a port. -/
def PerPort.get {α : Type} (t : PerPort α) : Port → α
  | .centre => t.centre
  | .event => t.event
  | .cabinet => t.cabinet

/-- The table with the value of a port replaced. -/
def PerPort.set {α : Type} (t : PerPort α) (p : Port) (a : α) : PerPort α :=
  match p with
  | .centre => { t with centre := a }
  | .event => { t with event := a }
  | .cabinet => { t with cabinet := a }

/-! ### The parts of the state -/

/-- The group record of a group. -/
def State.group (s : State) (g : GroupNo) : Group := vget s.groups g

/-- Replaces a group record. -/
def State.setGroup (s : State) (g : GroupNo) (r : Group) : State := { s with groups := vset s.groups g r }

/-- The member record of an intersection. -/
def State.member (s : State) (i : Ix) : Member := vget s.members i

/-- Replaces a member record. -/
def State.setMember (s : State) (i : Ix) (m : Member) : State := { s with members := vset s.members i m }

/-- Changes a member record. -/
def State.modMember (s : State) (i : Ix) (f : Member → Member) : State := s.setMember i (f (s.member i))

/-- The record of a segment. -/
def State.segment (s : State) (k : SegNo) : Segment := vget s.segments k

/-- Replaces the record of a segment. -/
def State.setSegment (s : State) (k : SegNo) (r : Segment) : State := { s with segments := vset s.segments k r }

/-- Changes the record of a segment. -/
def State.modSegment (s : State) (k : SegNo) (f : Segment → Segment) : State := s.setSegment k (f (s.segment k))

/-- The poll state of an intersection, absent while it is unmapped (R150). -/
def State.poll (s : State) (i : Ix) : Option Poll := vget s.polls i

/-- Replaces the poll state of an intersection. -/
def State.setPoll (s : State) (i : Ix) (p : Option Poll) : State := { s with polls := vset s.polls i p }

/-- The state of a port. -/
def State.port (s : State) (p : Port) : PortState := s.ports.get p

/-- Replaces the state of a port. -/
def State.setPort (s : State) (p : Port) (r : PortState) : State := { s with ports := s.ports.set p r }

/-- Changes the state of a port. -/
def State.modPort (s : State) (p : Port) (f : PortState → PortState) : State := s.setPort p (f (s.port p))

/-- The map of an intersection. -/
def State.place (s : State) (i : Ix) : Option Place := vget s.stored.maps i

/-- The group field of an intersection (R34). -/
def State.groupOf (s : State) (i : Ix) : Option GroupNo := vget s.stored.groupOf i

/-- The member list of a group: the intersections whose group field names it, in ascending order (R34). -/
def State.membersOf (s : State) (g : GroupNo) : List Ix := allIx.filter fun i => s.groupOf i = some g

/-- The record of a plan number; `none` for plan 0, for an undefined plan and for a number above 48 (R18). -/
def Stored.plan (t : Stored) (k : Nat) : Option Plan :=
  match planIndex k with
  | some j => vget t.plans j
  | none => none

/-- Whether a plan number may be named by an entry or a hold: plan 0 is always taken as defined (R18). -/
def Stored.planKnown (t : Stored) (k : Nat) : Bool := k = 0 || (t.plan k).isSome

/-- The offset of an intersection in a plan (R25). -/
def Stored.offset (t : Stored) (k : Nat) (i : Ix) : Nat :=
  match planIndex k with
  | some j => vget (vget t.offsets j) i
  | none => 0

/-- The intersection mapped to a drop of a segment. -/
def State.atDrop (s : State) (k : SegNo) (d : Drop) : Option Ix :=
  allIx.find? fun i => s.place i = some ⟨k, d⟩

/-- The intersections mapped to a segment, in ascending order of drop address. -/
def State.mappedTo (s : State) (k : SegNo) : List Ix := allDrops.filterMap (s.atDrop k)

/-! ### Time -/

/-- The count of crystal time in ds (2.1). -/
def State.crystalDs (s : State) : Nat := s.crystal / 100

/-- The instant an epoch minute names on the scale of E (R39). -/
def EpochMinute.instant (m : EpochMinute) : Nat := m.day * 864000 + m.minute * 600

/-- Whether an epoch minute is within its ranges. -/
def EpochMinute.ok (m : EpochMinute) : Bool := m.day ≤ 65535 && m.minute ≤ 1439

/-- E advances by `k` ds: it stops at its last value, and a multiple of 600 reached raises the minute-boundary event
(R1, R3). -/
def Tref.advance (t : Tref) (k : Nat) : Tref :=
  let e := min Config.lastE (t.e + k)
  { t with e := e, minuteOwed := t.minuteOwed || decide (t.e / 600 < e / 600) }

/-- Triggers an evaluation (R47). -/
def State.owe (s : State) (scope : GroupSet) : State := { s with owed := s.owed ++ [⟨scope⟩] }

/-- All 16 groups. -/
def everyGroup : GroupSet := 0xFFFF#16

/-- One group as a set. -/
def oneGroup (g : GroupNo) : GroupSet := 1#16 <<< g.val

/-- A counter of 16 bits stays at 65,535 (R4, R147, R179). -/
def count16 (n : Nat) : Nat := min 65535 (n + 1)

/-- A count of 8 bits stays at 255 (Table 8-1). -/
def count8 (n : Nat) : Nat := min 255 (n + 1)

/-! ### Notices (R176, R177) -/

/-- Whether a mask admits the kind of a notice (R169). -/
def NoticeMask.admits (m : NoticeMask) : NoticeBody → Bool
  | .timeState .. => m.timeState
  | .switchStarted .. => m.switchStarted
  | .groupSteady .. => m.groupSteady
  | .entryExpired .. => m.entryExpired
  | .holdEnded .. => m.holdEnded
  | .fault .. => m.fault
  | .alertChange .. => m.alertChange
  | .segmentState .. => m.segmentState
  | .storeDone .. => m.storeDone

/-- A copy of a notice reaches a port: it joins the queue, or is dropped and marked lost (R177). -/
def PortState.copy (p : PortState) (n : Notice) : PortState :=
  if p.mask.admits n.body then
    if p.queue.length < Config.noticeSlots then { p with queue := p.queue ++ [n] }
    else { p with lost := true, counters := { p.counters with lost := count16 p.counters.lost } }
  else p

/-- A notice of a given E is offered; before start-up completes it is copied to no port (R176). -/
def State.offerAt (s : State) (e : Nat) (b : NoticeBody) : State :=
  if s.phase = .running then
    { s with ports := ⟨s.ports.centre.copy ⟨e, b⟩, s.ports.event.copy ⟨e, b⟩, s.ports.cabinet.copy ⟨e, b⟩⟩ }
  else s

/-- A notice is offered with the E of this instant (R176). -/
def State.offer (s : State) (b : NoticeBody) : State := s.offerAt s.tref.e b

/-! ### The transmitter (R173) -/

/-- A free transmitter begins its next frame: the reply of the served request, else the oldest reply of the busy-reply
list, else the oldest notice, whose frame carries and clears the lost marker (R173, R177). -/
def PortState.pump (p : PortState) : PortState :=
  match p.tx with
  | some _ => p
  | none =>
    match p.service with
    | some ⟨tag, rq, some r⟩ => { p with service := some ⟨tag, rq, none⟩, tx := some (.served r) }
    | _ =>
      match p.busyList, p.queue with
      | r :: rest, _ => { p with busyList := rest, tx := some (.busy r) }
      | [], n :: rest =>
          { p with queue := rest, lost := false, tx := some (.notice n p.lost)
                   counters := { p.counters with notice := count16 p.counters.notice } }
      | [], [] => p

/-- Every free transmitter begins its next frame. -/
def State.pump (s : State) : State :=
  { s with ports := ⟨s.ports.centre.pump, s.ports.event.pump, s.ports.cabinet.pump⟩ }

/-- A reply joins the busy-reply list, or the request is left without a reply (R171). -/
def PortState.joinBusy (p : PortState) (r : Reply) : PortState :=
  if p.busyList.length < Config.busySlots then { p with busyList := p.busyList ++ [r] }
  else { p with counters := { p.counters with overrun := count16 p.counters.overrun } }

/-- A BUSY reply, counted when it is made (R171, R179). -/
def PortState.refuseBusy (p : PortState) (tag : BitVec 16) (code : Nat) : PortState :=
  if p.busyList.length < Config.busySlots then
    { p with busyList := p.busyList ++ [⟨tag, code, .busy, []⟩]
             counters := { p.counters with busy := count16 p.counters.busy } }
  else { p with counters := { p.counters with overrun := count16 p.counters.overrun } }

/-- A DENIED refusal of order 5, counted (R171, R179). -/
def PortState.refuseDenied (p : PortState) (tag : BitVec 16) (code : Nat) : PortState :=
  ({ p with counters := { p.counters with denied := count16 p.counters.denied } }).joinBusy ⟨tag, code, .denied, []⟩

/-! ### The receiver (R170) -/

/-- A discarded frame is counted (R170). -/
def PortState.frameError (p : PortState) (rx : RxState) : PortState :=
  { p with rx := rx, counters := { p.counters with frameError := count16 p.counters.frameError } }

/-- More than 5 ms have passed since the last byte of the frame a port is receiving (R170). -/
def RxState.gap (r : RxState) (now : Nat) : Bool :=
  match r with
  | .hunting => false
  | .receiving _ lastAt => decide (lastAt + 5 < now)

/-- A gap that has passed has ended the frame under way: bytes that arrive after it are judged afresh (R170). -/
def PortState.endGap (p : PortState) (now : Nat) : PortState := if p.rx.gap now then p.frameError .hunting else p

/-- A good frame is counted and the port hunts for the next frame start (R170, R179). -/
def PortState.takeFrame (p : PortState) (now : Nat) : PortState :=
  let q := p.endGap now
  { q with rx := .hunting, counters := { q.counters with request := count16 q.counters.request } }

/-! ### Requests (R171, R172, R174) -/

/-- The rights of Table 12-2. A role listed with restrictions has the right to send the request. -/
def Request.allowed : Request → Port → Bool
  | .mark, p => p = .centre
  | .reset, p => p = .cabinet
  | .readTime, _ => true
  | .readPlan, _ => true
  | .readOffset, _ => true
  | .readParams, _ => true
  | .addEntry, _ => true
  | .removeEntry, _ => true
  | .readEntry, _ => true
  | .listEntries, _ => true
  | .placeHold, _ => true
  | .releaseHold, _ => true
  | .readGroup, _ => true
  | .readIntersection, _ => true
  | .readSegment, _ => true
  | .readFaults, _ => true
  | .setNoticeMask, _ => true
  | .readPorts, _ => true
  | .readStore, _ => true
  | _, p => p ≠ .event

/-- The rank of a role (1.5.3). -/
def rank : Port → Nat
  | .cabinet => 3
  | .centre => 2
  | .event => 1

/-- A block's outcome: a status and the payload its rule names (R172). -/
abbrev Answer := Status × List Item

/-- An outcome that carries no payload. -/
def plain (st : Status) : Answer := (st, [])

/-- The owning block gives the outcome of the request a port is serving (R172). -/
def PortState.giveReply (p : PortState) (a : Answer) : PortState :=
  match p.service with
  | some sv => { p with service := some { sv with reply := some ⟨sv.tag, sv.request.code, a.1, a.2⟩ } }
  | none => p

/-- A good frame of a known request, judged in the order of Table 12-1. At order 6 the port becomes SERVING and the owning
block, `block`, gives the new state and its outcome, or none while the outcome is still to come (R171, R172). -/
def State.request {α : Type} (s : State) (f : RequestFrame) (rq : Request) (args : Option α)
    (block : α → State → State × Option Answer) : State :=
  let s := s.modPort f.port (·.takeFrame s.crystal)
  if s.phase ≠ .running ∨ (s.port f.port).service.isSome then
    s.modPort f.port (·.refuseBusy f.tag rq.code)
  else
    match args with
    | none => s.modPort f.port (·.joinBusy ⟨f.tag, rq.code, .badArg, []⟩)
    | some a =>
      if rq.allowed f.port then
        let r := block a (s.modPort f.port fun p => { p with service := some ⟨f.tag, rq, none⟩ })
        match r.2 with
        | some ans => r.1.modPort f.port (·.giveReply ans)
        | none => r.1
      else s.modPort f.port (·.refuseDenied f.tag rq.code)

/-- A block that answers at the instant of hand-over. -/
def answering {α : Type} (block : α → State → State × Answer) : α → State → State × Option Answer :=
  fun a s => let r := block a s; (r.1, some r.2)

/-- The STORE_BUSY check of a request that writes stored configuration (R19, R183). -/
def unlessCommitting (s : State) (k : State × Answer) : State × Answer :=
  if s.cfs.commit.isSome then (s, plain .storeBusy) else k

end Sys2Proof.Machine
end

