-- ==== Sys2Proof/Machine/Flags.lean ====
section
/-! DEFINITION. Flags and markers computed from the state: the in-use marker and the reference counts of a plan (R21, R23),
the urgency of a poll (R154), what holds a member out of coordination (R163), and what alerts a reply shows (R131). -/

namespace Sys2Proof.Machine

/-- A group in PENDING, TRANSITION or STEADY, whose plans are in use (R21). -/
def GroupState.coordinating : GroupState → Bool
  | .pending => true
  | .transition => true
  | .steady => true
  | .free => false
  | .suspended => false

/-- Whether a plan is in use (R21). -/
def State.planInUse (s : State) (k : Nat) : Bool :=
  allGroups.any fun g =>
    (s.group g).state.coordinating && ((s.group g).current = k || (s.group g).target = k)

/-- The groups to which a plan is current, target or wanted (R24). -/
def State.planGroups (s : State) (k : Nat) : Nat :=
  (allGroups.filter fun g =>
    (s.group g).current = k || (s.group g).target = k || (s.group g).wanted = k).length

/-- The timetable entries that name a plan (R23, R24). -/
def Stored.planEntries (t : Stored) (k : Nat) : Nat :=
  (t.recurring.filter fun e => e.plan = k).length + (t.dated.filter fun e => e.plan = k).length

/-- The holds that name a plan (R23, R24). -/
def State.planHolds (s : State) (k : Nat) : Nat :=
  (allGroups.filter fun g => ((s.group g).hold.map (·.plan)) = some k).length

/-- Whether a plan is referenced, so that DELETE_PLAN is refused (R23). -/
def State.planReferenced (s : State) (k : Nat) : Bool :=
  s.planInUse k || 0 < s.stored.planEntries k || 0 < s.planHolds k
    || allGroups.any fun g => (s.group g).wanted = k

/-- Urgencies of an owed poll (Table 10-2). -/
inductive Urgency where
  | none | defer | offer | due | overdue
  deriving DecidableEq, Repr

/-- Urgency codes in the order of Table 10-2. -/
def Urgency.code : Urgency → Nat
  | .none => 0
  | .defer => 1
  | .offer => 2
  | .due => 3
  | .overdue => 4

/-- The urgency of a member's owed poll (R154). -/
def Poll.urgency (p : Poll) : Urgency :=
  if p.overdue then .overdue
  else if p.backlog = 0 then .none
  else if p.backlog ≤ 3 then .defer
  else if p.backlog ≤ 7 then .offer
  else .due

/-- Whether some latched flag is set. -/
def Member.anyLatched (m : Member) : Bool := allClasses.any fun c => (m.faults.get c).latched

/-- Whether a condition of applied policy RECOVERING stands (R163). -/
def Member.anyRecovering (m : Member) : Bool :=
  allClasses.any fun c => (m.faults.get c).standing && (m.faults.get c).applied = some .recovering

/-- Whether something keeps an EXCLUDED member out (R163). -/
def Member.heldOut (m : Member) : Bool := m.anyRecovering || m.anyLatched

/-- Whether the member takes part in its group's state (6.2). -/
def MemberState.eligible : MemberState → Bool
  | .ordered => true
  | .correcting => true
  | .inStep => true
  | _ => false

/-- Whether a switch start takes the member (R74, step 3). -/
def MemberState.taken : MemberState → Bool
  | .free => true
  | .ordered => true
  | .correcting => true
  | .inStep => true
  | _ => false

/-- Whether a member standing in this state keeps its group out of STEADY (R70). -/
def MemberState.working : MemberState → Bool
  | .ordered => true
  | .correcting => true
  | _ => false

/-- Whether the member's transition fields hold a transition (R92). -/
def MemberState.inTransition : MemberState → Bool
  | .correcting => true
  | .inStep => true
  | _ => false

/-- The standing order when it is an ORDER. -/
def Member.standingOrder (m : Member) : Option StandingOrder :=
  m.order.filter fun o => o.kind = .order

/-- A segment whose members are reachable (8.2). -/
def SegState.reachable : SegState → Bool
  | .checking => true
  | .active => true
  | .stuck => true
  | .off => false
  | .closing => false

/-- The standing alert set. -/
def Member.alertSet (m : Member) : PerAlert Bool where
  manual := m.alerts.manual.standing
  flash := m.alerts.flash.standing
  door := m.alerts.door.standing
  detector := m.alerts.detector.standing
  localPlan := m.alerts.localPlan.standing
  powerRestored := m.alerts.powerRestored.standing

/-- What a good reply shows: its alert set, and MANUAL or FLASH when a POLL reply of a member in ORDERED, CORRECTING,
IN_STEP or EXCLUDED reports that mode (R131). -/
def shownAlerts (st : MemberState) (r : GoodReply) : PerAlert Bool :=
  match r with
  | .poll p =>
      if st.eligible || st = .excluded then
        { p.alerts with manual := p.alerts.manual || p.mode = .manual, flash := p.alerts.flash || p.mode = .flash }
      else p.alerts
  | .order o => o.alerts
  | .query q => q.alerts

/-- One alert after a good reply (R131): `n` is the deglitch count. -/
def AlertWatch.after (a : AlertWatch) (shown : Bool) (n : Nat) : AlertWatch :=
  if shown = a.standing then { a with counter := 0 }
  else if n ≤ a.counter + 1 then ⟨shown, 0⟩
  else { a with counter := a.counter + 1 }

/-- The alerts of a member after a good reply (R131). -/
def deglitch (a : PerAlert AlertWatch) (shown : PerAlert Bool) (n : Nat) : PerAlert AlertWatch where
  manual := a.manual.after shown.manual n
  flash := a.flash.after shown.flash n
  door := a.door.after shown.door n
  detector := a.detector.after shown.detector n
  localPlan := a.localPlan.after shown.localPlan n
  powerRestored := a.powerRestored.after shown.powerRestored n

end Sys2Proof.Machine
end

