-- ==== Sys2Proof/Machine/Field.lean ====
section
/-! DEFINITION. The field segments below coordination: the transaction queue (R140), the arbiter (R155), choice and
turnaround (R141), sending (R142), poll state (R150 to R153), segment states and notices (R139), and `settle`, which closes
every command. -/

namespace Sys2Proof.Machine

/-! ### The queue (R140) -/

/-- Queue order: ascending enqueue time, then ascending join sequence number. -/
def Txn.before (a b : Txn) : Bool := a.enqueued < b.enqueued || (a.enqueued = b.enqueued && a.seq < b.seq)

/-- Puts a transaction at the place its enqueue time and join sequence number give. -/
def insertTxn (t : Txn) : List Txn → List Txn
  | [] => [t]
  | u :: rest => if t.before u then t :: u :: rest else u :: insertTxn t rest

/-- Whether a transaction is the queued ORDER or RELEASE of an intersection. -/
def Txn.isOrderOf (t : Txn) (i : Ix) : Bool := t.target = i && t.body.kind = .order

/-- Whether a transaction is the queued QUERY of an intersection. -/
def Txn.isQueryOf (t : Txn) (i : Ix) : Bool := t.target = i && t.body.kind = .query

/-- A transaction joins: the present E is its enqueue time, and it takes the next join sequence number. -/
def Segment.join (k : Segment) (e : Nat) (i : Ix) (b : TxnBody) : Segment :=
  { k with queue := insertTxn ⟨b, i, e, k.nextSeq⟩ k.queue, nextSeq := k.nextSeq + 1 }

/-- An ORDER or RELEASE for an intersection replaces the queued one in place, or joins (R72, R73). -/
def Segment.putOrder (k : Segment) (e : Nat) (i : Ix) (b : TxnBody) : Segment :=
  if k.queue.any (·.isOrderOf i) then
    { k with queue := k.queue.map fun t => if t.isOrderOf i then { t with body := b } else t }
  else k.join e i b

/-- A QUERY joins unless one stands queued (R124). -/
def Segment.putQuery (k : Segment) (e : Nat) (i : Ix) : Segment :=
  if k.queue.any (·.isQueryOf i) then k else k.join e i .query

/-- The queued ORDER or RELEASE of an intersection leaves. -/
def Segment.dropOrder (k : Segment) (i : Ix) : Segment := { k with queue := k.queue.filter fun t => !t.isOrderOf i }

/-- The queued transactions of an intersection are discarded (R119). -/
def Segment.discard (k : Segment) (i : Ix) : Segment := { k with queue := k.queue.filter fun t => t.target ≠ i }

/-- The queued ORDER of an intersection leaves the queue of its segment. -/
def State.dropOrder (s : State) (i : Ix) : State :=
  match s.place i with
  | some pl => s.modSegment pl.seg (·.dropOrder i)
  | none => s

/-- A QUERY for an intersection is enqueued (R124). -/
def State.enqueueQuery (s : State) (i : Ix) : State :=
  match s.place i with
  | some pl => s.modSegment pl.seg (·.putQuery s.tref.e i)
  | none => s

/-! ### The arbiter (R155) -/

/-- What the arbiter names. -/
structure Named where
  kind : TxnKind
  target : Ix
  seq : Nat
  deriving DecidableEq, Repr

/-- The owed polls of a segment in ascending order of drop address. -/
def State.owedPolls (s : State) (k : SegNo) : List (Ix × Poll) :=
  (s.mappedTo k).filterMap fun i =>
    match s.poll i with
    | some p => if 1 ≤ p.backlog then some (i, p) else none
    | none => none

/-- The first poll of a class: the highest backlog, then the lowest drop address. -/
def bestPoll (u : Urgency) : List (Ix × Poll) → Option (Ix × Poll)
  | [] => none
  | (i, p) :: rest =>
      if p.urgency = u then
        match bestPoll u rest with
        | some (j, q) => if p.backlog < q.backlog then some (j, q) else some (i, p)
        | none => some (i, p)
      else bestPoll u rest

/-- Whether a queued transaction is an urgent ORDER or RELEASE: its Tm lies at most 10 s ahead of E. -/
def Txn.urgent (t : Txn) (e : Nat) : Bool :=
  match t.body with
  | .order _ p => p.tm ≤ e + 100
  | .query => false

/-- A poll as the arbiter names it. -/
def namePoll (x : Ix × Poll) : Named := ⟨.poll, x.1, 0⟩

/-- A queued transaction as the arbiter names it. -/
def nameTxn (t : Txn) : Named := ⟨t.body.kind, t.target, t.seq⟩

/-- The first transaction of the first class of Table 10-3 that is not empty. -/
def State.arbiter (s : State) (k : SegNo) : Option Named :=
  let polls := s.owedPolls k
  let queue := (s.segment k).queue
  ((bestPoll .overdue polls).map namePoll)
    <|> ((queue.find? (·.urgent s.tref.e)).map nameTxn)
    <|> ((bestPoll .due polls).map namePoll)
    <|> ((queue.find? (·.body.kind = .order)).map nameTxn)
    <|> ((bestPoll .offer polls).map namePoll)
    <|> ((queue.find? (·.body.kind = .query)).map nameTxn)
    <|> ((bestPoll .defer polls).map namePoll)

/-- A segment in ACTIVE with no transaction in flight and no candidate (R141). -/
def Segment.isFree (k : Segment) : Bool := k.state = .active && k.inFlight.isNone && k.candidate.isNone

/-- A free segment asks for a choice; what is named becomes the candidate and its turnaround begins (R141). -/
def State.choose (s : State) (k : SegNo) : State :=
  if (s.segment k).isFree then
    match s.arbiter k with
    | some n =>
        s.modSegment k fun r =>
          { r with candidate := some ⟨n.kind, n.target, n.seq, s.crystal + (vget s.stored.segParams k).ta⟩ }
    | none => s
  else s

/-- Whether the candidate still stands queued, or its poll owed (R141, R146). -/
def State.candidateStands (s : State) (k : SegNo) (c : Candidate) : Bool :=
  match c.kind with
  | .poll => (s.owedPolls k).any fun x => x.1 = c.target
  | _ => (s.segment k).queue.any fun t => t.seq = c.seq && t.target = c.target && t.body.kind = c.kind

/-! ### Sending (R142) -/

/-- What is sent when the arbiter's word is taken: a POLL built from the member record (R94), or the queued transaction. -/
def State.sentBody (s : State) (k : SegNo) (n : Named) : Option (SentBody × Nat) :=
  match n.kind with
  | .poll => some (.poll (s.member n.target).correction (s.member n.target).correctionCount, s.tref.e)
  | _ =>
    match (s.segment k).queue.find? fun t => t.seq = n.seq && t.target = n.target && t.body.kind = n.kind with
    | some t =>
        match t.body with
        | .order oid p => some (.order oid p, t.enqueued)
        | .query => some (.query, t.enqueued)
    | none => none

/-- A request is counted by its kind (R147). -/
def SegCounters.sent (c : SegCounters) : TxnKind → SegCounters
  | .poll => { c with sentPoll := count16 c.sentPoll }
  | .order => { c with sentOrder := count16 c.sentOrder }
  | .query => { c with sentQuery := count16 c.sentQuery }

/-- The transaction named leaves the queue, becomes the in-flight transaction, and its request frame is begun; while the
part transmits the line watch is suspended (R142). -/
def State.send (s : State) (k : SegNo) (n : Named) : State :=
  match s.sentBody k n, s.place n.target with
  | some (b, enq), some pl =>
      s.modSegment k fun r =>
        { r with
          queue := r.queue.filter fun t => !(t.seq = n.seq && t.target = n.target && t.body.kind = n.kind)
          candidate := none
          inFlight := some ⟨b, n.target, pl.drop, s.tref.e, enq, n.seq, .request⟩
          line := .mark
          lineSince := s.crystal
          counters := r.counters.sent n.kind }
  | _, _ => s

/-- The re-check at the end of the turnaround: the candidate is sent, or another transaction, counted DISPLACED when the
candidate still stands, or nothing (R141, R146). -/
def State.recheck (s : State) (k : SegNo) (c : Candidate) : State :=
  let displaced (n : Named) : Bool :=
    s.candidateStands k c && !(n.kind = c.kind && n.target = c.target && n.seq = c.seq)
  let s0 := s.modSegment k fun r => { r with candidate := none }
  match s.arbiter k with
  | none => s0
  | some n =>
      (s0.modSegment k fun r =>
        if displaced n then { r with counters := { r.counters with displaced := count16 r.counters.displaced } }
        else r).send k n

/-! ### Poll state (R150 to R153) -/

/-- A counter loaded with the segment's poll interval, backlog 0, marker clear (Table 10-1). -/
def State.loadedPoll (s : State) (k : SegNo) : Poll :=
  ⟨.running (s.crystal + (vget s.stored.segParams k).poll * 1000), 0, false⟩

/-- A stopped counter, backlog 0, marker clear (R150, Table 10-1). That the stopped counter holds a remaining time of 0 is a DESIGN
CHOICE (log entry 48): the spec keeps a remaining time only at STUCK. -/
def stoppedPoll : Poll := ⟨.stopped 0, 0, false⟩

/-- A counter stops at STUCK: the remaining time, the backlog and the marker are kept (Table 10-1). -/
def Poll.stopAt (p : Poll) (now : Nat) : Poll :=
  match p.counter with
  | .running due => { p with counter := .stopped (due - now) }
  | .stopped _ => p

/-- A counter has expired: it is reloaded and one poll more is owed (R152). -/
def Poll.expire (p : Poll) (due : Nat) : Poll :=
  { counter := .running due
    backlog := if p.backlog < 15 then p.backlog + 1 else p.backlog
    overdue := p.overdue || p.backlog + 1 = 12 }

/-- A POLL has completed: one poll owed is discharged (R153). -/
def Poll.discharge (p : Poll) : Poll :=
  let b := p.backlog - 1
  { p with backlog := b, overdue := p.overdue && !(b ≤ 7) }

/-- Changes the poll state of an intersection that has one. -/
def State.modPoll (s : State) (i : Ix) (f : Poll → Poll) : State := s.setPoll i ((s.poll i).map f)

/-! ### Segment states -/

/-- A segment changes its state with a SEGMENT_STATE notice (R139). -/
def State.enterSegment (s : State) (k : SegNo) (st : SegState) (cause : SegCause) : State :=
  let prev := (s.segment k).state
  (s.modSegment k fun r => { r with state := st }).offer (.segmentState k st prev cause)

/-- A segment enters CHECKING: the 20 ms of MARK are counted from this instant (R136, R138). -/
def State.startChecking (s : State) (k : SegNo) (cause : SegCause) : State :=
  (s.modSegment k fun r => { r with line := .mark, lineSince := s.crystal }).enterSegment k .checking cause

/-- Closes every command: each free segment with something to send begins its turnaround (R141), and each free transmitter
its next frame (R173). -/
def State.settle (s : State) : State := (allSegs.foldl State.choose s).pump

end Sys2Proof.Machine
end

