-- ==== Sys2Proof/Machine/Coordination.lean ====
section
/-! DEFINITION. The shared operations of group coordination and fault handling: conditions and their ends, standing orders,
the release and the ordering of a member (R72, R73), the group tests (R70), suspension (R88), the raise of a fault with its
policy (R160 to R162), readmission (R87, R163) and the placing of a member that leaves UNKNOWN (R120).
Each operation calls only operations above it: a raise latches, excludes or suspends and orders no one; ordering may
raise; readmission may order. -/

namespace Sys2Proof.Machine

/-! ### Conditions -/

/-- A condition of a class ends: its flag and applied policy, and for ORDER_MISSED its cause and reason, are cleared; the
count is kept (R163). -/
def Member.clearCond (m : Member) (c : FaultClass) : Member :=
  { m with
    faults := m.faults.set c { m.faults.get c with standing := false, applied := none }
    missCause := if c = .orderMissed then none else m.missCause
    missReason := if c = .orderMissed then none else m.missReason }

/-- TRANSITION_BLOCKED and TRANSITION_LATE end (R113). -/
def Member.clearTransitionConds (m : Member) : Member := (m.clearCond .transitionLate).clearCond .transitionBlocked

/-- The transition fields of a member that holds no transition; the signed error is kept (R114). -/
def Member.clearTransition (m : Member) : Member :=
  { m with direction := .none, remaining := 0, correction := 0, correctionCount := m.count, method := none,
           expected := none, deadline := none, late := false, resync := false }

/-- A member takes a state: leaving CORRECTING and IN_STEP clears the transition fields (R114), and entering ORDERED, FREE,
LATCHED or OFFLINE ends TRANSITION_BLOCKED and TRANSITION_LATE (R113). -/
def Member.enter (m : Member) (st : MemberState) : Member :=
  let m1 := if m.state.inTransition && !st.inTransition then m.clearTransition else m
  let m2 := { m1 with state := st }
  match st with
  | .ordered => m2.clearTransitionConds
  | .free => m2.clearTransitionConds
  | .latched => m2.clearTransitionConds
  | .offline => m2.clearTransitionConds
  | _ => m2

/-- A condition of member `i` ends (R163), without the readmission that `tryReadmit` tests. -/
def State.clearCond (s : State) (i : Ix) (c : FaultClass) : State := s.modMember i (·.clearCond c)

/-- Member `i` takes a state. -/
def State.enter (s : State) (i : Ix) (st : MemberState) : State := s.modMember i (·.enter st)

/-! ### Group tests (R70, R91) -/

/-- Whether some member of a group is in ORDERED or CORRECTING. -/
def State.anyWorking (s : State) (g : GroupNo) : Bool := (s.membersOf g).any fun i => (s.member i).state.working

/-- A GROUP_STEADY notice is offered (R91). -/
def State.offerSteady (s : State) (g : GroupNo) : State :=
  let ms := s.membersOf g
  s.offer (.groupSteady g (s.group g).current
    (ms.filter fun i => (s.member i).state = .inStep).length
    (ms.filter fun i => !(s.member i).state.eligible).length)

/-- The test of a TRANSITION group: with no member ORDERED or CORRECTING it becomes STEADY (R70). -/
def State.testSteady (s : State) (g : GroupNo) : State :=
  if (s.group g).state = .transition ∧ s.anyWorking g = false then
    (s.setGroup g { s.group g with state := .steady, ts := none }).offerSteady g
  else s

/-- The test of a STEADY group: with a member ORDERED or CORRECTING it becomes TRANSITION and Ts is recorded (R70). -/
def State.testWorking (s : State) (g : GroupNo) : State :=
  if (s.group g).state = .steady ∧ s.anyWorking g = true then
    s.setGroup g { s.group g with state := .transition, ts := some s.tref.e }
  else s

/-- Both tests of R70 for a group; they are not made in FREE, PENDING and SUSPENDED. -/
def State.groupTests (s : State) (g : GroupNo) : State := (s.testWorking g).testSteady g

/-- The tests of R70 for the group of a member. -/
def State.testsOf (s : State) (i : Ix) : State :=
  match s.groupOf i with
  | some g => s.groupTests g
  | none => s

/-! ### Standing orders (R71 to R73) -/

/-- An order is handed to the FLC for the member's segment and becomes its standing order, with outcome OWED; a condition
that stood for the order it replaces ends (R71, R72, R84). -/
def State.placeOrder (s : State) (i : Ix) (kind : OrderKind) (p : OrderPayload) : State :=
  let s1 :=
    match s.place i with
    | some pl => s.modSegment pl.seg (·.putOrder s.tref.e i (.order s.nextOid p))
    | none => s
  let s2 := s1.modMember i fun m => { m.clearCond .orderMissed with order := some ⟨kind, p, .owed, s.nextOid, false⟩ }
  { s2 with nextOid := s.nextOid + 1 }

/-- The standing order is cleared, which ends an ORDER_MISSED condition (R71, R84). -/
def State.clearOrder (s : State) (i : Ix) : State :=
  s.modMember i fun m => { m.clearCond .orderMissed with order := none }

/-- What a RELEASE carries (R73, R189). -/
def releasePayload (tm : Nat) : OrderPayload := ⟨0, 0, 0, 0, tm, .delay⟩

/-- A member is released with a switch time Tm; a member that is unmapped or OFFLINE is sent nothing (R73). For a member in
EXCLUDED, TRANSITION_LATE and TRANSITION_BLOCKED end (R113). -/
def State.release (s : State) (i : Ix) (tm : Nat) : State :=
  let s1 := if (s.member i).state = .excluded then s.modMember i (·.clearTransitionConds) else s
  if (s.place i).isNone ∨ (s.member i).state = .offline then s1.clearOrder i
  else s1.placeOrder i .release (releasePayload tm)

/-! ### Suspension (R88) -/

/-- A member that a suspension finds: released to FREE, or, when EXCLUDED, released and freed once nothing holds it. -/
def State.suspendMember (s : State) (i : Ix) : State :=
  match (s.member i).state with
  | .free => (s.release i s.tref.e).enter i .free
  | .ordered => (s.release i s.tref.e).enter i .free
  | .correcting => (s.release i s.tref.e).enter i .free
  | .inStep => (s.release i s.tref.e).enter i .free
  | .excluded =>
      let s1 := s.release i s.tref.e
      if (s1.member i).heldOut then s1 else s1.enter i .free
  | _ => s

/-- A group is suspended for a fault of a class raised by a member: its record first, then its members in ascending
order. -/
def State.suspend (s : State) (g : GroupNo) (c : FaultClass) (i : Ix) : State :=
  let s1 := s.setGroup g { s.group g with
    state := .suspended, suspension := some ⟨c, i, s.tref.e⟩, ts := none, current := 0, target := 0 }
  (s1.membersOf g).foldl State.suspendMember s1

/-! ### The raise of a fault (R160 to R162) -/

/-- The member's part of a latch: the latched flag is set; a member in service is released and goes to LATCHED (R161). -/
def State.latch (s : State) (i : Ix) (c : FaultClass) : State :=
  let s1 := s.modMember i fun m => { m with faults := m.faults.set c { m.faults.get c with latched := true } }
  match (s.member i).state with
  | .free => (s1.release i s.tref.e).enter i .latched
  | .ordered => (s1.release i s.tref.e).enter i .latched
  | .correcting => (s1.release i s.tref.e).enter i .latched
  | .inStep => (s1.release i s.tref.e).enter i .latched
  | .excluded => (s1.release i s.tref.e).enter i .latched
  | _ => s1

/-- The member's part of an exclusion (R162). -/
def State.exclude (s : State) (i : Ix) : State :=
  match (s.member i).state with
  | .free => s.enter i .excluded
  | .ordered => s.enter i .excluded
  | .correcting => s.enter i .excluded
  | .inStep => s.enter i .excluded
  | _ => s

/-- Whether a raise under this policy and scope suspends the group of member `i` (R161). -/
def State.wouldSuspend (s : State) (i : Ix) (pair : PolicyPair) : Bool :=
  pair.policy = .latched && pair.scope = .group
    && match s.groupOf i with
       | some g => (s.group g).state ≠ .suspended
       | none => false

/-- What every raise records, under every policy (R160). -/
def Member.recordRaise (m : Member) (c : FaultClass) (policy : Policy) (cause : Option MissCause)
    (reason : Option Nat) : Member :=
  { m with
    faults := m.faults.set c { m.faults.get c with
      standing := true, count := count8 (m.faults.get c).count, applied := some policy }
    missCause := if c = .orderMissed then cause else m.missCause
    missReason := if c = .orderMissed then reason else m.missReason }

/-- A raise of class `c` for member `i`: the record, the FAULT notice, then the consequences of the policy of the class at
this instant (R160, R161, R162). -/
def State.raise (s : State) (i : Ix) (c : FaultClass) (cause : Option MissCause := none) (reason : Option Nat := none) :
    State :=
  let pair := s.stored.policies.get c
  let s1 := s.modMember i (·.recordRaise c pair.policy cause reason)
  let s2 :=
    if pair.policy = .off then s1
    else s1.offer (.fault i (s.groupOf i) c pair.policy pair.scope ((s1.member i).faults.get c).count
      (if c = .orderMissed then cause else none) (if c = .orderMissed then reason else none) (s.wouldSuspend i pair))
  match pair.policy with
  | .latched =>
      let s3 := s2.latch i c
      if s.wouldSuspend i pair then
        match s.groupOf i with
        | some g => s3.suspend g c i
        | none => s3
      else s3.testsOf i
  | .recovering => (s2.exclude i).testsOf i
  | .reportOnly => s2
  | .off => s2

/-! ### The activation check and ordering (R72, R127) -/

/-- Whether the activation check of a member against a plan passes (R127). -/
def Stored.activation (t : Stored) (m : Member) (plan : Nat) : Bool :=
  match m.capability, t.plan plan with
  | some cap, some p => cap.valid && cap.cmin ≤ p.cycle && p.cycle ≤ cap.cmax && p.pattern ≤ cap.patterns
  | _, _ => false

/-- A failing check of a coordinated member or of a member being ordered: a member in ORDERED, CORRECTING or IN_STEP, or
with a standing ORDER, is released and goes to FREE; then CAPABILITY is raised and the tests of R70 are made
(R72, R100, R126). -/
def State.failCheck (s : State) (i : Ix) : State :=
  let m := s.member i
  let s1 :=
    if m.state.eligible || m.standingOrder.isSome then (s.release i s.tref.e).enter i .free else s
  (s1.raise i .capability).testsOf i

/-- The ORDER of a plan for a member, with its plan's pattern, cycle and method and the member's offset as stored now. -/
def Stored.orderFor (t : Stored) (i : Ix) (plan : Nat) (p : Plan) (tm : Nat) : OrderPayload :=
  ⟨plan, p.pattern, p.cycle, t.offset plan i, tm, p.method⟩

/-- A member is ordered for a plan with a switch time Tm, after the activation check (R72). -/
def State.orderMember (s : State) (i : Ix) (plan tm : Nat) : State :=
  match s.stored.plan plan with
  | some p =>
      if s.stored.activation (s.member i) plan then
        let s1 := (s.clearCond i .capability).placeOrder i .order (s.stored.orderFor i plan p tm)
        (s1.modMember i fun m => (m.enter .ordered).clearTransition).testsOf i
      else s.failCheck i
  | none => s.failCheck i

/-! ### Readmission (R87, R163) -/

/-- The switch lead time in ds (R74). -/
def State.leadDs (s : State) : Nat := 10 * s.stored.params.lead

/-- The Tm of a member ordered into a PENDING group after its switch start: the later of Ts and E plus the lead time
(R86, R87). -/
def State.lateTm (s : State) (r : Group) : Nat := max (r.ts.getD 0) (s.tref.e + s.leadDs)

/-- A member returns to FREE and the GCO acts by the state of its group (R87); `wasExcluded` says that it returns from
EXCLUDED. -/
def State.readmit (s : State) (i : Ix) (wasExcluded : Bool) : State :=
  let s1 := s.enter i .free
  let stay := if wasExcluded then s1.release i s.tref.e else s1
  let kept (r : Group) : Bool := ((s1.member i).standingOrder.map fun o => o.payload.plan) = some r.target
  match s.groupOf i with
  | none => stay
  | some g =>
      let r := s.group g
      match r.state with
      | .free => stay
      | .suspended => stay
      | .pending =>
          if r.target = 0 then stay
          else if kept r then (s1.enter i .ordered).testsOf i
          else s1.orderMember i r.target (s.lateTm r)
      | .transition =>
          if kept r then (s1.enter i .ordered).testsOf i
          else s1.orderMember i r.target (s.tref.e + s.leadDs)
      | .steady =>
          if kept r then (s1.enter i .ordered).testsOf i
          else s1.orderMember i r.target (s.tref.e + s.leadDs)

/-- After the end of a condition: a member in EXCLUDED that nothing holds out any more is readmitted (R163). -/
def State.tryReadmit (s : State) (i : Ix) : State :=
  if (s.member i).state = .excluded ∧ (s.member i).heldOut = false then s.readmit i true else s

/-- A condition ends, when it stands, and the FPU tests readmission (R163). -/
def State.endCond (s : State) (i : Ix) (c : FaultClass) : State :=
  if ((s.member i).faults.get c).standing then (s.clearCond i c).tryReadmit i else s

/-- A member with a new capability record leaves UNKNOWN: the applied policies are recorded afresh and the member is placed
by its fault record (R120, R161). -/
def State.placeUnknown (s : State) (i : Ix) : State :=
  let refreshed := allClasses.foldl (fun (f : PerClass FaultEntry) c =>
    if (f.get c).standing then f.set c { f.get c with applied := some (s.stored.policies.get c).policy } else f)
    (s.member i).faults
  let s1 := s.modMember i fun m => { m with faults := refreshed }
  if (s1.member i).anyLatched then (s1.release i s.tref.e).enter i .latched
  else if (s1.member i).anyRecovering then s1.enter i .excluded
  else s1.readmit i false

/-! ### OFFLINE (R119) -/

/-- A member goes to OFFLINE: its queued transactions, standing order and capability record are discarded, its live fields
and conditions cleared; its controller id, latched flags and counts are kept (R119). The cleared correction keeps the count last
reported (R114), though the count itself becomes absent: DEDUCED, log entry 42. -/
def Member.offline (m : Member) : Member :=
  let m1 := (m.clearTransition.enter .offline)
  let m2 := (((m1.clearCond .noReply).clearCond .orderMissed).clearCond .capability).clearCond .alert
  { m2 with order := none, capability := none, mode := none, running := none, count := none, position := none,
            lastApplied := none, noReplies := 0, alerts := PerAlert.all ⟨false, 0⟩ }

/-- Member `i` goes to OFFLINE from whatever state it is in, and the tests of R70 are made. -/
def State.goOffline (s : State) (i : Ix) : State :=
  let s1 :=
    match s.place i with
    | some pl => s.modSegment pl.seg (·.discard i)
    | none => s
  (s1.modMember i Member.offline).testsOf i

end Sys2Proof.Machine
end

