-- ==== Sys2Proof/Machine/Evaluate.lean ====
section
/-! DEFINITION. The timetable and its evaluation: list order (R38), instants and occurrences (R39), tidying (R48 to R50), the
choice of a wanted plan (R51, R52), the start of a switch (R74, R75) and the evaluation itself (R47, R53, R15). -/

namespace Sys2Proof.Machine

/-! ### The lists (R38) -/

/-- The order of a list by its key: for the recurring list the start minute, for the dated list the start day and minute;
then the id. -/
def Entry.before (a b : Entry) : Bool :=
  let day (e : Entry) : Nat := match e.kind with | .recurring _ => 0 | .dated d _ => d
  day a < day b
    || (day a = day b && (a.startMinute < b.startMinute || (a.startMinute = b.startMinute && a.id < b.id)))

/-- Puts an entry at the place its key gives it. -/
def insertEntry (e : Entry) : List Entry → List Entry
  | [] => [e]
  | x :: rest => if e.before x then e :: x :: rest else x :: insertEntry e rest

/-- Whether an entry is DATED. -/
def Entry.isDated (e : Entry) : Bool :=
  match e.kind with
  | .recurring _ => false
  | .dated .. => true

/-- The entry of an id, in whichever list. -/
def Stored.entry (t : Stored) (id : Nat) : Option Entry :=
  (t.recurring.find? (·.id = id)) <|> (t.dated.find? (·.id = id))

/-- The number of entries in the timetable. -/
def Stored.entryCount (t : Stored) : Nat := t.recurring.length + t.dated.length

/-- The timetable with an entry placed in its list. -/
def Stored.putEntry (t : Stored) (e : Entry) : Stored :=
  if e.isDated then { t with dated := insertEntry e t.dated } else { t with recurring := insertEntry e t.recurring }

/-- The timetable without the entry of an id. -/
def Stored.dropEntry (t : Stored) (id : Nat) : Stored :=
  { t with recurring := t.recurring.filter (·.id ≠ id), dated := t.dated.filter (·.id ≠ id) }

/-- The position of an entry in a list. -/
def positionOf (id : Nat) (l : List Entry) : Nat := l.findIdx (·.id = id)

/-! ### Instants (R39) -/

/-- The start instant of a dated entry. -/
def startInstant (day minute : Nat) : Nat := day * 864000 + minute * 600

/-- The latest occurrence of a recurring entry at or before E among the days `day - n`, ..., `day - k`: the first found. -/
def occurrenceFrom (days : BitVec 7) (minute e : Nat) (k : Nat) : Nat → Option Nat
  | 0 => none
  | n + 1 =>
      let day := e / 864000
      if k ≤ day ∧ days.getLsbD ((day - k) % 7) = true ∧ startInstant (day - k) minute ≤ e then
        some (startInstant (day - k) minute)
      else occurrenceFrom days minute e (k + 1) n

/-- The latest occurrence of a recurring entry at or before E, when there is one; it lies within the seven days up to E. -/
def latestOccurrence (days : BitVec 7) (minute e : Nat) : Option Nat := occurrenceFrom days minute e 0 8

/-- Whether an entry's group set holds a group. -/
def Entry.covers (e : Entry) (g : GroupNo) : Bool := e.groups.getLsbD g.val

/-- The latest occurrence of an entry, for a RECURRING one. -/
def Entry.occurrence (x : Entry) (e : Nat) : Option Nat :=
  match x.kind with
  | .recurring days => latestOccurrence days x.startMinute e
  | .dated .. => none

/-! ### Tidying (R48, R49) -/

/-- Whether a recurring entry takes group `g` over from a dated entry without an end that started at `start` (R49). -/
def supersedes (recurring : List Entry) (g : GroupNo) (start e : Nat) : Bool :=
  recurring.any fun r => r.covers g && (r.occurrence e).any fun o => start < o

/-- The groups a dated entry without an end loses at E (R49). -/
def lostGroups (recurring : List Entry) (x : Entry) (start e : Nat) : GroupSet :=
  allGroups.foldl (fun acc g => if x.covers g && supersedes recurring g start e then acc ||| oneGroup g else acc) 0#16

/-- What tidying makes of one dated entry: it stays, with its present set, or leaves with a cause; and the groups that join
the scope. -/
def tidyEntry (recurring : List Entry) (e : Nat) (x : Entry) : (Option Entry × Option ExpiryCause) × GroupSet :=
  match x.kind with
  | .recurring _ => ((some x, none), 0#16)
  | .dated day ends =>
      match ends with
      | some m => if m.instant ≤ e then ((none, some .ended), x.groups) else ((some x, none), 0#16)
      | none =>
          let lost := lostGroups recurring x (startInstant day x.startMinute) e
          let left := x.groups &&& ~~~lost
          if left = 0#16 then ((none, some .superseded), lost) else ((some { x with groups := left }, none), lost)

/-- The dated list after tidying. -/
def tidyList (recurring : List Entry) (e : Nat) (dated : List Entry) : List Entry :=
  dated.filterMap fun x => (tidyEntry recurring e x).1.1

/-- The groups that tidying adds to the scope. -/
def tidyScope (recurring : List Entry) (e : Nat) (dated : List Entry) : GroupSet :=
  dated.foldl (fun acc x => acc ||| (tidyEntry recurring e x).2) 0#16

/-- The ENTRY_EXPIRED notices of tidying, in the order of the dated list (R50). -/
def tidyNotices (recurring : List Entry) (e : Nat) (dated : List Entry) : List NoticeBody :=
  dated.filterMap fun x =>
    (tidyEntry recurring e x).1.2.map fun c => .entryExpired x.id x.tag c x.owner x.plan

/-- The tidying of an evaluation that consults the timetable. -/
def State.tidy (s : State) : State :=
  let t := s.stored
  let notices := tidyNotices t.recurring s.tref.e t.dated
  notices.foldl State.offer { s with stored := { t with dated := tidyList t.recurring s.tref.e t.dated } }

/-! ### The choice (R51, R52) -/

/-- Whether a dated entry is active for a group at E (R51). -/
def Entry.activeFor (x : Entry) (g : GroupNo) (e : Nat) : Bool :=
  match x.kind with
  | .recurring _ => false
  | .dated day ends =>
      x.covers g && startInstant day x.startMinute ≤ e
        && match ends with
           | some m => e < m.instant
           | none => true

/-- The instant by which entries of one kind compete: the start of a dated entry, the occurrence of a recurring one. -/
def Entry.rankInstant (x : Entry) (e : Nat) : Nat :=
  match x.kind with
  | .recurring _ => (x.occurrence e).getD 0
  | .dated day _ => startInstant day x.startMinute

/-- Among active dated entries: highest priority, then latest start, then lowest id (R51). -/
def datedBeats (e : Nat) (a b : Entry) : Bool :=
  b.priority < a.priority
    || (a.priority = b.priority
        && (b.rankInstant e < a.rankInstant e || (a.rankInstant e = b.rankInstant e && a.id < b.id)))

/-- Among recurring entries: latest occurrence, then highest priority, then lowest id (R52). -/
def recurringBeats (e : Nat) (a b : Entry) : Bool :=
  b.rankInstant e < a.rankInstant e
    || (a.rankInstant e = b.rankInstant e
        && (b.priority < a.priority || (a.priority = b.priority && a.id < b.id)))

/-- The entry that no other beats. -/
def bestEntry (beats : Entry → Entry → Bool) : List Entry → Option Entry
  | [] => none
  | x :: rest =>
      match bestEntry beats rest with
      | some y => if beats y x then some y else some x
      | none => some x

/-- The governing entry of a group without a hold (R51, R52). -/
def Stored.governing (t : Stored) (g : GroupNo) (e : Nat) : Option Entry :=
  (bestEntry (datedBeats e) (t.dated.filter (·.activeFor g e)))
    <|> (bestEntry (recurringBeats e) (t.recurring.filter fun x => x.covers g && (x.occurrence e).isSome))

/-- Whether an evaluation at this instant consults the timetable (R47). -/
def TrefState.consults : TrefState → Bool
  | .locked => true
  | .holdover => true
  | .unset => false
  | .untimed => false

/-- The wanted plan of a group and its source (R15, R51, R52, R59). -/
def State.wantedOf (s : State) (g : GroupNo) : Nat × WantedSource :=
  let r := s.group g
  match r.hold with
  | some h => (h.plan, .hold h.owner h.tag)
  | none =>
      if s.tref.state.consults then
        match s.stored.governing g s.tref.e with
        | some x => (x.plan, .entry x.id)
        | none => (0, .none)
      else (r.wanted, .kept)

/-! ### Starting a switch (R74, R75) -/

/-- Whether an ORDER that a member holds is withdrawn at a switch start to a target (R74, step 4). -/
def Member.withdraws (m : Member) (target : Nat) : Bool := m.standingOrder.any fun o => o.payload.plan ≠ target

/-- Whether a member that a switch start finds EXCLUDED returns in its step 4: nothing holds it out once its withdrawn ORDER and the
conditions of step 4 have ended (R74, R163). -/
def Member.returns (m : Member) (target : Nat) : Bool :=
  let m1 := if m.withdraws target then m.clearCond .orderMissed else m
  m.state = .excluded && !(m1.clearTransitionConds.clearCond .capability).heldOut

/-- Whether a switch start orders or releases a member (R75): for target 0 every member taken or returning; otherwise one that passes
the activation check, one taken that fails it and is released for it, and one returning that keeps its ORDER of the target (R72,
R74, R87). DEDUCED, log entry 27. -/
def State.orderedAtStart (s : State) (target : Nat) (i : Ix) : Bool :=
  let m := s.member i
  let passes := target = 0 || s.stored.activation m target
  if m.state.taken then passes || m.state.eligible || m.standingOrder.isSome
  else m.returns target && (passes || m.standingOrder.isSome && !m.withdraws target)

/-- Whether a switch start leaves a member waiting for readmission (R74, R75). -/
def State.waitsAtStart (s : State) (target : Nat) (i : Ix) : Bool :=
  !(s.member i).state.taken && !(s.member i).returns target

/-- Step 3 of a switch start for one member; a member later in the list is left as it is once a group-scope latch has
suspended the group: DEDUCED, log entry 47. -/
def State.switchTake (g : GroupNo) (s : State) (i : Ix) : State :=
  let r := s.group g
  if r.state = .pending ∧ (s.member i).state.taken = true then
    if r.target = 0 then
      (s.release i (r.ts.getD 0)).modMember i fun m => (m.enter .ordered).clearTransition
    else s.orderMember i r.target (r.ts.getD 0)
  else s

/-- Step 4 of a switch start, withdrawal: an EXCLUDED member's ORDER of a plan other than the new target, with the ORDER_MISSED
condition that stood for it (R74). It is left out once a group-scope latch has suspended the group: DEDUCED, log entry 47. -/
def State.withdraw (g : GroupNo) (s : State) (i : Ix) : State :=
  if (s.group g).state = .pending ∧ (s.member i).state = .excluded ∧ (s.member i).withdraws (s.group g).target = true then
    (s.dropOrder i).clearOrder i
  else s

/-- Step 4 of a switch start, ends: TRANSITION_LATE, TRANSITION_BLOCKED and CAPABILITY of an EXCLUDED member; readmission is tested
after the last of its ends (R74, R163). They are left out once a group-scope latch of this start has suspended the group, so that a
CAPABILITY condition found standing stands on (R127): DEDUCED, log entry 47. -/
def State.switchEnds (g : GroupNo) (s : State) (i : Ix) : State :=
  if (s.group g).state = .pending ∧ (s.member i).state = .excluded then
    (s.modMember i fun m => m.clearTransitionConds.clearCond .capability).tryReadmit i
  else s

/-- The start of a switch of a group to its wanted plan (R74). Step 4 takes the members that the start found EXCLUDED, and not one
that its step 3 has excluded for a failing check: DEDUCED, log entry 44. -/
def State.startSwitch (s : State) (g : GroupNo) : State :=
  let r := s.group g
  let ts := s.tref.e + s.leadDs
  let members := s.membersOf g
  let found := members.filter fun i => (s.member i).state = .excluded
  let s1 := s.setGroup g { r with target := r.wanted, ts := some ts, state := .pending }
  let s2 := s1.offer (.switchStarted g r.wanted r.target r.current ts r.source
    (members.filter (s.orderedAtStart r.wanted)).length (members.filter (s.waitsAtStart r.wanted)).length)
  let s3 := members.foldl (State.switchTake g) s2
  let s4 := found.foldl (State.withdraw g) s3
  found.foldl (State.switchEnds g) s4

/-! ### The evaluation (R47, R53) -/

/-- One group of an evaluation: its wanted plan is recorded, and a switch starts when it differs from the target. -/
def State.evaluateGroup (s : State) (g : GroupNo) : State :=
  let w := s.wantedOf g
  let r := s.group g
  let s1 := s.setGroup g { r with wanted := w.1, source := w.2 }
  if w.1 ≠ r.target ∧ r.state ≠ .suspended then s1.startSwitch g else s1

/-- An evaluation of a scope at the E of this instant: the tidying when the timetable is consulted, then the groups of the
scope in ascending order. -/
def State.evaluate (s : State) (scope : GroupSet) : State :=
  let consult := s.tref.state.consults
  let scope1 := if consult then scope ||| tidyScope s.stored.recurring s.tref.e s.stored.dated else scope
  let s1 := if consult then s.tidy else s
  (allGroups.filter fun g => scope1.getLsbD g.val).foldl State.evaluateGroup s1

end Sys2Proof.Machine
end

