-- ==== Sys2Proof/Machine/TimeCommands.lean ====
section
/-! DEFINITION. Network time: the timers (R5 to R8), MARK (R9, R10), the slew (R11), SET_TIME (R12), steps (R13, R14),
READ_TIME (R16), the minute boundary (R3, R65) and the end of the epoch count (R1). -/

namespace Sys2Proof.Machine

/-! ### The timers -/

/-- The 2P timer runs in LOCKED and has run out: 2P seconds of crystal time have passed since the timer start (R5). -/
def State.due2P (s : State) : Bool :=
  s.tref.state = .locked && s.tref.timerStart.any fun t => t + 20 * s.stored.params.markPeriod ≤ s.crystalDs

/-- The H timer runs in LOCKED and HOLDOVER and has run out: H hours of crystal time have passed (R5). -/
def State.dueH (s : State) : Bool :=
  (s.tref.state = .locked || s.tref.state = .holdover)
    && s.tref.timerStart.any fun t => t + 36000 * s.stored.params.holdover ≤ s.crystalDs

/-- The 2P timer runs out: LOCKED goes to HOLDOVER (R6). -/
def State.expire2P (s : State) : State :=
  if s.due2P then
    { s with tref := { s.tref with state := .holdover } }.offer (.timeState .holdover s.tref.state .timer)
  else s

/-- The H timer runs out: LOCKED or HOLDOVER goes to UNTIMED, where no timer runs (R7). -/
def State.expireH (s : State) : State :=
  if s.dueH then
    { s with tref := { s.tref with state := .untimed, timerStart := none } }.offer
      (.timeState .untimed s.tref.state .timer)
  else s

/-- The running timers are judged against new limits: each one at or past its limit runs out, in either order (R7, R8). -/
def State.judgeTimers (s : State) : State :=
  if s.due2P && s.dueH then
    let s1 := { s with freeUses := s.freeUses + 1 }
    if Config.choice s.freeUses % 2 = 0 then s1.expire2P.expireH else s1.expireH
  else s.expire2P.expireH

/-- Takes TIMER_2P_EXPIRY. -/
def execTimer2pExpiry (s : State) : Host.Outcome State Fault Refusal :=
  .next (if s.due2P then State.settle s.expire2P else s)

/-- Takes TIMER_H_EXPIRY. -/
def execTimerHExpiry (s : State) : Host.Outcome State Fault Refusal :=
  .next (if s.dueH then State.settle s.expireH else s)

/-! ### Steps and marks -/

/-- The member's part of a step: the re-sync flag of a member in CORRECTING or IN_STEP is set (R13). -/
def Member.resyncStep (m : Member) : Member := if m.state.inTransition then { m with resync := true } else m

/-- The effects of a step, handed on after E has its new value (R13, R14). -/
def State.stepped (s : State) : State := { s with members := s.members.map Member.resyncStep }.owe everyGroup

/-- TREF goes to LOCKED with both timers restarted, and offers a TIME_STATE notice when the state was another
(R5, R10, R12). -/
def State.lock (s : State) (cause : TimeCause) : State :=
  let prev := s.tref.state
  let s1 := { s with tref := { s.tref with state := .locked, timerStart := some s.crystalDs } }
  if prev = .locked then s1 else s1.offer (.timeState .locked prev cause)

/-- A mark is accepted, E already corrected (R10). -/
def State.acceptMark (s : State) : State :=
  { s with tref := { s.tref with
      accepted := count16 s.tref.accepted, lastMark := some ⟨s.tref.e, s.crystalDs⟩ } }.lock .mark

/-- Outcomes of an accepted MARK, in the order of Table 2-4. -/
inductive MarkOutcome where
  | set | slewed | stepped
  deriving DecidableEq, Repr

/-- Outcome codes in the order of Table 2-4. -/
def MarkOutcome.code : MarkOutcome → Nat
  | .set => 0
  | .slewed => 1
  | .stepped => 2

/-- The cases of Table 2-4. -/
inductive MarkCase where
  | beyondEpoch
  | accepted (o : MarkOutcome)
  | early (elapsed : Nat)
  | range
  deriving DecidableEq, Repr

/-- The first case of Table 2-4 that holds for a mark of Ec, with Δ = Ec - E. -/
def State.judgeMark (s : State) (ec : Nat) : MarkCase :=
  let delta : Int := (ec : Int) - s.tref.e
  let elapsed := s.tref.lastMark.map fun m => s.crystalDs - m.crystalDs
  if Config.days ≤ ec / Config.dayDs then .beyondEpoch
  else if s.tref.state = .unset then .accepted .set
  else
    match elapsed.filter fun t => t < 5 * s.stored.params.markPeriod with
    | some t => .early t
    | none =>
        if Config.stepLimit < delta.natAbs then .range
        else if delta.natAbs ≤ Config.slewLimit then .accepted .slewed
        else .accepted .stepped

/-- A MARK of Ec at the instant it is handed over (R9 to R11, R15). -/
def markBlock (ec : Nat) (s : State) : State × Answer :=
  let t := s.tref
  let delta : Int := (ec : Int) - t.e
  match s.judgeMark ec with
  | .beyondEpoch => ({ s with tref := { t with rejected := count16 t.rejected } }, plain .range)
  | .early elapsed => ({ s with tref := { t with early := count16 t.early } }, (.early, [.delta delta, .n2 elapsed]))
  | .range => ({ s with tref := { t with rejected := count16 t.rejected } }, (.range, [.delta delta]))
  | .accepted .set =>
      (({ s with tref := { t with e := ec } }.acceptMark).stepped, (.ok, [.n1 MarkOutcome.set.code, .delta delta]))
  | .accepted .stepped =>
      (({ s with tref := { t with e := ec, slew := 0 } }.acceptMark).stepped,
        (.ok, [.n1 MarkOutcome.stepped.code, .delta delta]))
  | .accepted .slewed =>
      let s1 := { s with tref := { t with slew := delta, slewStart := s.crystalDs } }.acceptMark
      (if t.state = .untimed then s1.owe everyGroup else s1, (.ok, [.n1 MarkOutcome.slewed.code, .delta delta]))

/-- MARK (R9). -/
def execMark (f : RequestFrame) (s : State) : Host.Outcome State Fault Refusal :=
  .next (State.settle (s.request f .mark (parseTime f.payload) (answering markBlock)))

/-- SET_TIME (R12). -/
def setTimeBlock (value : Nat) (s : State) : State × Answer :=
  if Config.days ≤ value / Config.dayDs then (s, plain .badArg)
  else
    (({ s with tref := { s.tref with e := value, slew := 0, lastMark := none } }.lock .setTime).stepped,
      (.ok, [.time s.tref.e, .time value]))

/-- SET_TIME (R12). -/
def execSetTime (f : RequestFrame) (s : State) : Host.Outcome State Fault Refusal :=
  .next (State.settle (s.request f .setTime (parseTime f.payload) (answering setTimeBlock)))

/-- The weekday of a day number, Monday 0 (Table 1-3). -/
def weekday (day : Nat) : Nat := day % 7

/-- What READ_TIME carries (R16). -/
def State.timeItems (s : State) : List Item :=
  let t := s.tref
  let day := t.e / Config.dayDs
  [.time t.e, .n2 day, .n2 (t.e % Config.dayDs / 600), .n1 (weekday day), .n1 t.state.code, .signed t.slew]
    ++ optItem 5 t.lastMark (fun m => [.time m.e])
    ++ [.n4 ((t.timerStart.map fun a => (s.crystalDs - a) / 10).getD 0), .n2 t.accepted, .n2 t.early, .n2 t.rejected]

/-- READ_TIME (R16). -/
def readTimeBlock (_ : Unit) (s : State) : State × Answer := (s, (.ok, s.timeItems))

/-- READ_TIME (R16). -/
def execReadTime (f : RequestFrame) (s : State) : Host.Outcome State Fault Refusal :=
  .next (State.settle (s.request f .readTime (parseNothing f.payload) (answering readTimeBlock)))

/-! ### The slew and the end of the count -/

/-- The next ms of crystal time completes a ds. -/
def State.dsEnds (s : State) : Bool := (s.crystal + 1) % 100 = 0

/-- The next ms of crystal time completes 100 ds of a slew (R11). -/
def State.slewDue (s : State) : Bool :=
  s.tref.slew ≠ 0 && s.dsEnds && decide (s.tref.slewStart + 100 ≤ (s.crystal + 1) / 100)

/-- The slew remaining after one adjustment. -/
def slewAfter (v : Int) : Int := if 0 < v then v - 1 else v + 1

/-- The ds that completes 100 ds of a slew: E advances by 2 or by 0 (R11). -/
def State.slewDs (s : State) : State :=
  let t := s.tref.advance (if 0 < s.tref.slew then 2 else 0)
  { s with crystal := s.crystal + 1
           tref := { t with slew := slewAfter s.tref.slew, slewStart := s.tref.slewStart + 100 } }

/-- Takes SLEW_ADJUSTMENT. -/
def execSlewAdjustment (s : State) : Host.Outcome State Fault Refusal :=
  .next (if s.slewDue then State.settle s.slewDs else s)

/-- The next ms of crystal time brings E to its last value (R1). -/
def State.countEndDue (s : State) : Bool := s.dsEnds && s.tref.e + 1 = Config.lastE && !s.slewDue

/-- Takes EPOCH_COUNT_END: E reaches its last value and stops (R1). -/
def execEpochCountEnd (s : State) : Host.Outcome State Fault Refusal :=
  .next (if s.countEndDue then State.settle { s with crystal := s.crystal + 1, tref := s.tref.advance 1 } else s)

/-! ### The minute boundary -/

/-- Whether the hold of a group ends at E (R65). -/
def Group.holdEnded (r : Group) (e : Nat) : Bool :=
  r.hold.any fun h => h.ends.any fun m => m.instant ≤ e

/-- A hold that ends at this minute boundary leaves its slot with a notice and an evaluation of its group (R65, R67). -/
def State.endHold (s : State) (g : GroupNo) : State :=
  match (s.group g).hold with
  | some h =>
      if (s.group g).holdEnded s.tref.e then
        ((s.setGroup g { s.group g with hold := none }).offer (.holdEnded g h .ended)).owe (oneGroup g)
      else s
  | none => s

/-- The minute boundary at the GCO and the TTE: hold ends in ascending order of group, and one evaluation of all groups
(R3, R47, R65). -/
def State.minute (s : State) : State := (allGroups.foldl State.endHold s).owe everyGroup

/-- Takes MINUTE_BOUNDARY; before start-up completes the GCO and the TTE do not act on it (R184). -/
def execMinuteBoundary (s : State) : Host.Outcome State Fault Refusal :=
  .next
    (if s.tref.minuteOwed then
      let s1 := { s with tref := { s.tref with minuteOwed := false } }
      State.settle (if s.phase = .running then s1.minute else s1)
    else s)

end Sys2Proof.Machine
end

