-- ==== Sys2Proof/Machine/PlanCommands.lean ====
section
/-! DEFINITION. The plan, offset and parameter requests (R20 to R33). Each write is refused STORE_BUSY while a COMMIT is in
flight, then judged in the order of its own rule (R19). -/

namespace Sys2Proof.Machine

/-! ### Plans -/

/-- The offsets of a plan reduced mod a new cycle (R22). -/
def reduceOffsets (row : Vector Nat 64) (c : Nat) : Vector Nat 64 := row.map (· % c)

/-- The number of offsets that a reduction changes (R20). -/
def reducedCount (row : Vector Nat 64) (c : Nat) : Nat := (row.toList.filter fun o => o % c ≠ o).length

/-- The stored tables with a plan record written at a table position, its offsets reduced when the cycle of a defined plan
changes (R20, R22). -/
def Stored.writePlan (t : Stored) (j : Fin 48) (p : Plan) : Stored :=
  let changed := (vget t.plans j).any fun q => q.cycle ≠ p.cycle
  { t with
    plans := vset t.plans j (some p)
    offsets := if changed then vset t.offsets j (reduceOffsets (vget t.offsets j) p.cycle) else t.offsets }

/-- The number of offsets that WRITE_PLAN changes. -/
def Stored.writePlanCount (t : Stored) (j : Fin 48) (p : Plan) : Nat :=
  if (vget t.plans j).any fun q => q.cycle ≠ p.cycle then reducedCount (vget t.offsets j) p.cycle else 0

/-- The record that a WRITE_PLAN asks for, when its fields are in range: the cycle is rounded down to a multiple of 10
(Table 3-1, orders 1 to 4). -/
def WritePlanArgs.record (a : WritePlanArgs) : Option (Fin 48 × Plan) :=
  let c := a.cycle / 10 * 10
  match planIndex a.plan, Method.ofCode a.method with
  | some j, some m =>
      if 300 ≤ c ∧ c ≤ 3000 ∧ 1 ≤ a.pattern ∧ a.pattern ≤ 32 then some (j, ⟨c, a.pattern, m⟩) else none
  | _, _ => none

/-- WRITE_PLAN: the checks of Table 3-1 and the write (R20 to R22). -/
def writePlanBlock (a : WritePlanArgs) (s : State) : State × Answer :=
  unlessCommitting s <|
    match a.record with
    | none => (s, plain .badArg)
    | some (j, p) =>
        let same := (vget s.stored.plans j).any fun q => q.cycle = p.cycle && q.pattern = p.pattern
        if s.planInUse a.plan && !same then (s, plain .inUse)
        else
          ({ s with stored := s.stored.writePlan j p },
            (.ok, [.n2 p.cycle, .n1 p.pattern, .n1 p.method.code, .n1 (s.stored.writePlanCount j p)]))

/-- WRITE_PLAN (R20). -/
def execWritePlan (f : RequestFrame) (s : State) : Host.Outcome State Fault Refusal :=
  .next (s.request f .writePlan (parseWritePlan f.payload) (answering writePlanBlock)).settle

/-- The stored tables with a plan undefined and its offsets 0 (R23). -/
def Stored.deletePlan (t : Stored) (j : Fin 48) : Stored :=
  { t with plans := vset t.plans j none, offsets := vset t.offsets j (Vector.replicate 64 0) }

/-- DELETE_PLAN (R23). -/
def deletePlanBlock (k : Nat) (s : State) : State × Answer :=
  unlessCommitting s <|
    match planIndex k with
    | none => (s, plain .badArg)
    | some j =>
        if (vget s.stored.plans j).isNone then (s, plain .notFound)
        else if s.planReferenced k then (s, plain .inUse)
        else ({ s with stored := s.stored.deletePlan j }, plain .ok)

/-- DELETE_PLAN (R23). -/
def execDeletePlan (f : RequestFrame) (s : State) : Host.Outcome State Fault Refusal :=
  .next (s.request f .deletePlan (parseByte f.payload) (answering deletePlanBlock)).settle

/-- READ_PLAN (R24). That the items of a defined plan follow a leading byte 1 is a DESIGN CHOICE (log entry 14). -/
def readPlanBlock (k : Nat) (s : State) : State × Answer :=
  match planIndex k with
  | none => (s, plain .badArg)
  | some j =>
      match vget s.stored.plans j with
      | none => (s, (.ok, [.n1 (boolCode false)]))
      | some p =>
          (s, (.ok, [.n1 (boolCode true), .n2 p.cycle, .n1 p.pattern, .n1 p.method.code, .n1 (boolCode (s.planInUse k)),
            .n1 (s.planGroups k), .n2 (s.stored.planEntries k), .n1 (s.planHolds k)]))

/-- READ_PLAN (R24). -/
def execReadPlan (f : RequestFrame) (s : State) : Host.Outcome State Fault Refusal :=
  .next (s.request f .readPlan (parseByte f.payload) (answering readPlanBlock)).settle

/-! ### Offsets -/

/-- The stored tables with one offset written. -/
def Stored.setOffset (t : Stored) (j : Fin 48) (i : Ix) (o : Nat) : Stored :=
  { t with offsets := vset t.offsets j (vset (vget t.offsets j) i o) }

/-- Whether a changed offset asks for the re-sync of the member: it is in CORRECTING or IN_STEP and the plan is the current
plan of its group (R27). -/
def State.offsetResyncs (s : State) (k : Nat) (i : Ix) : Bool :=
  (s.member i).state.inTransition && (s.groupOf i).any fun g => (s.group g).current = k

/-- WRITE_OFFSET (R26, R27). -/
def writeOffsetBlock (a : WriteOffsetArgs) (s : State) : State × Answer :=
  unlessCommitting s <|
    match inRange 64 a.intersection, planIndex a.plan with
    | some i, some j =>
        match vget s.stored.plans j with
        | none => (s, plain .notFound)
        | some p =>
            let o := a.offset % p.cycle
            let s1 := { s with stored := s.stored.setOffset j i o }
            let s2 :=
              if o ≠ s.stored.offset a.plan i ∧ s.offsetResyncs a.plan i = true then
                s1.modMember i fun m => { m with resync := true }
              else s1
            (s2, (.ok, [.n2 o]))
    | _, _ => (s, plain .badArg)

/-- WRITE_OFFSET (R26). -/
def execWriteOffset (f : RequestFrame) (s : State) : Host.Outcome State Fault Refusal :=
  .next (s.request f .writeOffset (parseWriteOffset f.payload) (answering writeOffsetBlock)).settle

/-- READ_OFFSET (R28). -/
def readOffsetBlock (a : ReadOffsetArgs) (s : State) : State × Answer :=
  match planIndex a.plan with
  | none => (s, plain .badArg)
  | some j =>
      if a.first ≤ 63 ∧ 1 ≤ a.count ∧ a.count ≤ 16 ∧ a.first + a.count ≤ 64 then
        match vget s.stored.plans j with
        | none => (s, plain .notFound)
        | some p =>
            let row := ((vget s.stored.offsets j).toList.drop a.first).take a.count
            (s, (.ok, .n2 p.cycle :: listItem row fun o => [.n2 o]))
      else (s, plain .badArg)

/-- READ_OFFSET (R28). -/
def execReadOffset (f : RequestFrame) (s : State) : Host.Outcome State Fault Refusal :=
  .next (s.request f .readOffset (parseReadOffset f.payload) (answering readOffsetBlock)).settle

/-! ### Parameters -/

/-- A value clamped into a range (R29). -/
def clamp (lo hi v : Nat) : Nat := max lo (min hi v)

/-- Whether the items of a list request are in order: between 1 and `most`, known identifiers below `most`, none twice
(R30, R148). -/
def itemsOk (most : Nat) (items : List ParamItem) : Bool :=
  1 ≤ items.length && items.length ≤ most && items.all (fun p => p.ident < most)
    && decide (items.map (·.ident)).Nodup

/-- The value that is stored for a part-scope parameter, by its row of Table 3-2 (R29). -/
def clampParam (ident v : Nat) : Nat :=
  match ident with
  | 0 => clamp 60 3600 v
  | 1 => clamp 1 24 v
  | 2 => clamp 10 120 v
  | 3 => clamp 0 30 v
  | 4 => clamp 0 25 v
  | 5 => clamp 1 20 v
  | 6 => clamp 0 7 v
  | _ => clamp 1 4 v

/-- The parameter set with one item stored. -/
def Params.store (q : Params) (p : ParamItem) : Params :=
  let v := clampParam p.ident p.value
  match p.ident with
  | 0 => { q with markPeriod := v }
  | 1 => { q with holdover := v }
  | 2 => { q with lead := v }
  | 3 => { q with lpct := v }
  | 4 => { q with spct := v }
  | 5 => { q with tol := v }
  | 6 => { q with grace := v }
  | _ => { q with deglitch := v }

/-- The echo of a list request: each identifier and the value stored, in the order written (R30, R148). The part-scope values
go in 2 bytes whatever their identifier (DESIGN CHOICE, log entry 14), the segment values, which lie within 0 to 255, in 1
(R187). -/
def echoItems (clampOf : Nat → Nat → Nat) (width : Nat → Item) (items : List ParamItem) : List Item :=
  listItem items fun p => [.n1 p.ident, width (clampOf p.ident p.value)]

/-- WRITE_PARAMS: all items at one instant; a running timer is judged against a changed P or H at once (R8, R30). -/
def writeParamsBlock (items : List ParamItem) (s : State) : State × Answer :=
  unlessCommitting s <|
    if itemsOk 8 items then
      let q := items.foldl Params.store s.stored.params
      let s1 := { s with stored := { s.stored with params := q } }
      let changed := q.markPeriod ≠ s.stored.params.markPeriod ∨ q.holdover ≠ s.stored.params.holdover
      (if changed then s1.judgeTimers else s1, (.ok, echoItems clampParam .n2 items))
    else (s, plain .badArg)

/-- WRITE_PARAMS (R30). -/
def execWriteParams (f : RequestFrame) (s : State) : Host.Outcome State Fault Refusal :=
  .next (s.request f .writeParams (parseParamList f.payload) (answering writeParamsBlock)).settle

/-- The four parameters of a segment as a reply carries them. -/
def SegParams.items (q : SegParams) : List Item := [.n1 q.poll, .n1 q.ta, .n1 q.rw, .n1 q.ext]

/-- The eight part-scope parameters in the order of Table 3-2. -/
def Params.items (q : Params) : List Item :=
  [.n2 q.markPeriod, .n1 q.holdover, .n1 q.lead, .n1 q.lpct, .n1 q.spct, .n1 q.tol, .n1 q.grace, .n1 q.deglitch]

/-- READ_PARAMS (R32). -/
def readParamsBlock (_ : Unit) (s : State) : State × Answer :=
  (s, (.ok, s.stored.params.items ++ allSegs.flatMap (fun k => (vget s.stored.segParams k).items)
    ++ [.n2 s.stored.eventGroups.toNat]))

/-- READ_PARAMS (R32). -/
def execReadParams (f : RequestFrame) (s : State) : Host.Outcome State Fault Refusal :=
  .next (s.request f .readParams (parseNothing f.payload) (answering readParamsBlock)).settle

/-- SET_EVENT_GROUPS (R33). -/
def setEventGroupsBlock (mask : GroupSet) (s : State) : State × Answer :=
  unlessCommitting s ({ s with stored := { s.stored with eventGroups := mask } }, (.ok, [.n2 mask.toNat]))

/-- SET_EVENT_GROUPS (R33). -/
def execSetEventGroups (f : RequestFrame) (s : State) : Host.Outcome State Fault Refusal :=
  .next (s.request f .setEventGroups (parseMask f.payload) (answering setEventGroupsBlock)).settle

/-! ### Segment parameters (R148) -/

/-- The value that is stored for a segment parameter (R148). -/
def clampSegParam (ident v : Nat) : Nat :=
  match ident with
  | 0 => clamp 1 10 v
  | 1 => clamp 1 8 v
  | 2 => clamp 10 40 v
  | _ => clamp 0 15 v

/-- The parameters of a segment with one item stored. -/
def SegParams.store (q : SegParams) (p : ParamItem) : SegParams :=
  let v := clampSegParam p.ident p.value
  match p.ident with
  | 0 => { q with poll := v }
  | 1 => { q with ta := v }
  | 2 => { q with rw := v }
  | _ => { q with ext := v }

/-- WRITE_SEGMENT_PARAMS (R148). -/
def writeSegmentParamsBlock (a : SegParamArgs) (s : State) : State × Answer :=
  unlessCommitting s <|
    match inRange 4 a.segment with
    | none => (s, plain .badArg)
    | some k =>
        if itemsOk 4 a.items then
          let q := a.items.foldl SegParams.store (vget s.stored.segParams k)
          ({ s with stored := { s.stored with segParams := vset s.stored.segParams k q } },
            (.ok, echoItems clampSegParam .n1 a.items))
        else (s, plain .badArg)

/-- WRITE_SEGMENT_PARAMS (R148). -/
def execWriteSegmentParams (f : RequestFrame) (s : State) : Host.Outcome State Fault Refusal :=
  .next (s.request f .writeSegmentParams (parseSegParams f.payload) (answering writeSegmentParamsBlock)).settle

end Sys2Proof.Machine
end

