-- ==== Sys2Proof/Machine/TimetableCommands.lean ====
section
/-! DEFINITION. The timetable requests (R40 to R46) and the taking of an evaluation (R47). -/

namespace Sys2Proof.Machine

/-! ### ADD_ENTRY (R40 to R42) -/

/-- The codes of the two kinds and lists (Table 4-1, R46): RECURRING 0, DATED 1. -/
def Entry.kindCode (x : Entry) : Nat := if x.isDated then 1 else 0

/-- Orders 2 to 7 of Table 4-3: the kind that the arguments name, when they are in range. -/
def AddEntryArgs.entryKind (a : AddEntryArgs) : Option EntryKind :=
  if a.groups = 0#16 ∨ 48 < a.plan ∨ 7 < a.priority ∨ 1439 < a.startMinute then none
  else
    match a.kind with
    | 0 =>
        let days := BitVec.ofNat 7 a.dayField
        if days = 0#7 ∨ a.ends.isSome then none else some (.recurring days)
    | 1 =>
        if 65535 < a.dayField then none
        else
          match a.ends with
          | none => some (.dated a.dayField none)
          | some m =>
              if m.ok ∧ startInstant a.dayField a.startMinute < m.instant then some (.dated a.dayField (some m)) else none
    | _ => none

/-- The rights of the EVENT role over an entry: only dated entries, and only on groups of the event group set (R41). -/
def eventMayAdd (p : Port) (kind : EntryKind) (groups eventGroups : GroupSet) : Bool :=
  match p, kind with
  | .event, .recurring _ => false
  | .event, .dated .. => groups &&& ~~~eventGroups = 0#16
  | _, _ => true

/-- The priority that is stored: EVENT is clamped to 3 (R41). -/
def storedPriority (p : Port) (v : Nat) : Nat := if p = .event then min 3 v else v

/-- Order 12 of Table 4-3: an end at or before E, unless TREF is UNSET. -/
def endPassed (kind : EntryKind) (t : Tref) : Bool :=
  match kind with
  | .dated _ (some m) => t.state ≠ .unset && m.instant ≤ t.e
  | _ => false

/-- ADD_ENTRY from a port (R40 to R42). -/
def addEntryBlock (p : Port) (a : AddEntryArgs) (s : State) : State × Answer :=
  unlessCommitting s <|
    match a.entryKind with
    | none => (s, plain .badArg)
    | some kind =>
        if eventMayAdd p kind a.groups s.stored.eventGroups = false then (s, plain .denied)
        else if s.stored.planKnown a.plan = false then (s, plain .notFound)
        else if (s.stored.entry a.id).isSome then (s, plain .inUse)
        else if Config.timetableSlots ≤ s.stored.entryCount then (s, plain .full)
        else if endPassed kind s.tref then (s, plain .badArg)
        else
          let x : Entry := ⟨a.id, p, kind, a.groups, a.plan, storedPriority p a.priority, a.startMinute, a.tag⟩
          let t := s.stored.putEntry x
          let list := if x.isDated then t.dated else t.recurring
          (({ s with stored := t }).owe a.groups,
            (.ok, [.n1 a.id, .n1 x.priority, .n1 x.kindCode, .n1 (positionOf a.id list), .n2 t.entryCount]))

/-- ADD_ENTRY (R40). -/
def execAddEntry (f : RequestFrame) (s : State) : Host.Outcome State Fault Refusal :=
  .next (s.request f .addEntry (parseAddEntry f.payload) (answering (addEntryBlock f.port))).settle

/-! ### REMOVE_ENTRY (R43) -/

/-- REMOVE_ENTRY from a port (R43). -/
def removeEntryBlock (p : Port) (id : Nat) (s : State) : State × Answer :=
  unlessCommitting s <|
    match s.stored.entry id with
    | none => (s, plain .notFound)
    | some x =>
        if rank p < rank x.owner then (s, plain .denied)
        else
          (({ s with stored := s.stored.dropEntry id }).owe x.groups,
            (.ok, [.n1 x.kindCode, .n1 x.plan, .n2 x.tag.toNat, .n2 x.groups.toNat]))

/-- REMOVE_ENTRY (R43). -/
def execRemoveEntry (f : RequestFrame) (s : State) : Host.Outcome State Fault Refusal :=
  .next (s.request f .removeEntry (parseByte f.payload) (answering (removeEntryBlock f.port))).settle

/-! ### Reading (R45, R46) -/

/-- The day mask of a recurring entry. -/
def Entry.days (x : Entry) : Option (BitVec 7) :=
  match x.kind with
  | .recurring d => some d
  | .dated .. => none

/-- The start day number of a dated entry. -/
def Entry.startDay (x : Entry) : Option Nat :=
  match x.kind with
  | .recurring _ => none
  | .dated d _ => some d

/-- The end of a dated entry that has one. -/
def Entry.ends (x : Entry) : Option EpochMinute :=
  match x.kind with
  | .recurring _ => none
  | .dated _ e => e

/-- The active marker of a dated entry: active for at least one group of its set (R45, R51). -/
def Entry.activeMarker (x : Entry) (e : Nat) : Option Bool :=
  if x.isDated then some (allGroups.any fun g => x.activeFor g e) else none

/-- What READ_ENTRY carries: the fields of Table 4-1, the list and position, and the two markers (R45). That the fields of one
kind alone, the active marker and the occurrence among them, are sent for both kinds as optional fields, each with its presence
byte, is a DESIGN CHOICE (log entry 14). -/
def Entry.items (x : Entry) (position e : Nat) : List Item :=
  [.n1 x.id, .n1 (roleCode x.owner), .n1 x.kindCode, .n2 x.groups.toNat, .n1 x.plan, .n1 x.priority]
    ++ optItem 1 x.days (fun d => [.n1 d.toNat]) ++ optItem 2 x.startDay (fun d => [.n2 d]) ++ [.n2 x.startMinute]
    ++ optItem 4 x.ends EpochMinute.items ++ [.n2 x.tag.toNat, .n1 x.kindCode, .n1 position]
    ++ optItem 1 (x.activeMarker e) (fun b => [.n1 (boolCode b)]) ++ optItem 5 (x.occurrence e) (fun o => [.time o])

/-- READ_ENTRY (R45). -/
def readEntryBlock (id : Nat) (s : State) : State × Answer :=
  match s.stored.entry id with
  | none => (s, plain .notFound)
  | some x =>
      let list := if x.isDated then s.stored.dated else s.stored.recurring
      (s, (.ok, x.items (positionOf id list) s.tref.e))

/-- READ_ENTRY (R45). -/
def execReadEntry (f : RequestFrame) (s : State) : Host.Outcome State Fault Refusal :=
  .next (s.request f .readEntry (parseByte f.payload) (answering readEntryBlock)).settle

/-- What a page of LIST_ENTRIES carries of one entry (R46). -/
def Entry.pageItems (x : Entry) : List Item :=
  [.n1 x.id, .n1 (roleCode x.owner), .n2 x.groups.toNat, .n1 x.plan, .n1 x.priority]
    ++ (match x.kind with
        | .recurring d => [.n1 d.toNat, .n2 x.startMinute]
        | .dated d ends => [.n2 d, .n2 x.startMinute] ++ optItem 4 ends EpochMinute.items)

/-- LIST_ENTRIES (R46). -/
def listEntriesBlock (a : ListEntriesArgs) (s : State) : State × Answer :=
  let answer (l : List Entry) : State × Answer :=
    (s, (.ok, [.n2 l.length, .n2 s.stored.entryCount] ++ listItem ((l.drop (8 * a.page)).take 8) Entry.pageItems))
  match a.selector with
  | 0 => answer s.stored.recurring
  | 1 => answer s.stored.dated
  | _ => (s, plain .badArg)

/-- LIST_ENTRIES (R46). -/
def execListEntries (f : RequestFrame) (s : State) : Host.Outcome State Fault Refusal :=
  .next (s.request f .listEntries (parseListEntries f.payload) (answering listEntriesBlock)).settle

/-! ### EVALUATION (R47) -/

/-- Takes the evaluation at position `k` of those triggered and not yet taken. -/
def execEvaluation (k : Nat) (s : State) : Host.Outcome State Fault Refusal :=
  .next
    (match s.owed[k]? with
     | some v => ({ s with owed := s.owed.eraseIdx k }.evaluate v.scope).settle
     | none => s)

end Sys2Proof.Machine
end

