-- ==== Sys2Proof/Machine/GroupCommands.lean ====
section
/-! DEFINITION. The group requests and events: PLACE_HOLD and RELEASE_HOLD (R60, R61, R63), SET_MEMBERS (R35, R36, R85,
R86), READ_GROUP (R90), TS_REACHED (R79) and TM_REACHED (R80). -/

namespace Sys2Proof.Machine

/-! ### Holds -/

/-- Orders 1 to 3 of Table 5-2: the group, when the arguments are in range. -/
def PlaceHoldArgs.target (a : PlaceHoldArgs) : Option GroupNo :=
  if a.plan ≤ 48 ∧ (a.ends.all fun m => m.ok) = true then inRange 16 a.group else none

/-- Whether a hold bars a placement from a port: its owner ranks above the port's role (Table 5-2, order 8). -/
def Hold.bars (h : Hold) (p : Port) : Bool := rank p < rank h.owner

/-- Orders 4 to 8 of Table 5-2: the refusal of a placement, or none. -/
def placeRefusal (p : Port) (g : GroupNo) (a : PlaceHoldArgs) (s : State) : Option Answer :=
  if p = .event ∧ s.stored.eventGroups.getLsbD g.val = false then some (plain .denied)
  else if s.stored.planKnown a.plan = false then some (plain .notFound)
  else if a.ends.isSome ∧ s.tref.state = .unset then some (plain .untimed)
  else if (a.ends.any fun m => m.instant ≤ s.tref.e) = true then some (plain .badArg)
  else
    ((s.group g).hold.filter (·.bars p)).map fun h =>
      (.heldByOther, [.n1 (roleCode h.owner), .n1 h.plan] ++ optItem 4 h.ends EpochMinute.items)

/-- PLACE_HOLD from a port (R60, R61). That the replaced hold's role, plan and tag stand under one presence byte after the
replacement marker is a DESIGN CHOICE (log entry 14). -/
def placeHoldBlock (p : Port) (a : PlaceHoldArgs) (s : State) : State × Answer :=
  match a.target with
  | none => (s, plain .badArg)
  | some g =>
      match placeRefusal p g a s with
      | some refusal => (s, refusal)
      | none =>
          let old := (s.group g).hold
          let s1 := s.setGroup g { s.group g with hold := some ⟨p, a.plan, a.ends, a.tag, s.tref.e⟩ }
          let s2 :=
            match old with
            | some h => s1.offer (.holdEnded g h (.replaced p))
            | none => s1
          (s2.owe (oneGroup g),
            (.ok, [.n1 g.val, .n1 a.plan] ++ optItem 4 a.ends EpochMinute.items
              ++ [.n2 a.tag.toNat, .n1 (boolCode old.isSome)]
              ++ optItem 4 old (fun h => [.n1 (roleCode h.owner), .n1 h.plan, .n2 h.tag.toNat])))

/-- PLACE_HOLD (R60). -/
def execPlaceHold (f : RequestFrame) (s : State) : Host.Outcome State Fault Refusal :=
  .next (s.request f .placeHold (parsePlaceHold f.payload) (answering (placeHoldBlock f.port))).settle

/-- RELEASE_HOLD from a port (R63). -/
def releaseHoldBlock (p : Port) (a : ReleaseHoldArgs) (s : State) : State × Answer :=
  match inRange 16 a.group with
  | none => (s, plain .badArg)
  | some g =>
      match (s.group g).hold with
      | none => (s, plain .notFound)
      | some h =>
          if (a.tag.any fun t => t ≠ h.tag) = true then (s, plain .notFound)
          else if h.bars p then (s, plain .denied)
          else
            ((s.setGroup g { s.group g with hold := none }).owe (oneGroup g),
              (.ok, [.n1 (roleCode h.owner), .n1 h.plan] ++ optItem 4 h.ends EpochMinute.items ++ [.n2 h.tag.toNat]))

/-- RELEASE_HOLD (R63). -/
def execReleaseHold (f : RequestFrame) (s : State) : Host.Outcome State Fault Refusal :=
  .next (s.request f .releaseHold (parseReleaseHold f.payload) (answering (releaseHoldBlock f.port))).settle

/-! ### SET_MEMBERS (R35, R36, R85, R86) -/

/-- The intersections of a written list, when every number is in range and none stands twice (R35). -/
def memberList (l : List Nat) : Option (List Ix) :=
  if l.length ≤ 64 ∧ (l.all fun n => n < 64) = true ∧ l.Nodup then some (allIx.filter fun i => l.contains i.val) else none

/-- The group fields after a write of group `g`'s list (R35). -/
def writeMembers (groupOf : Vector (Option GroupNo) 64) (g : GroupNo) (l : List Ix) : Vector (Option GroupNo) 64 :=
  Vector.ofFn fun i =>
    if l.contains i then some g else if vget groupOf i = some g then none else vget groupOf i

/-- The member's part of a leave from a coordinating group (R85). -/
def State.leaveMember (s : State) (i : Ix) : State :=
  match (s.member i).state with
  | .free => (s.release i s.tref.e).enter i .free
  | .ordered => (s.release i s.tref.e).enter i .free
  | .correcting => (s.release i s.tref.e).enter i .free
  | .inStep => (s.release i s.tref.e).enter i .free
  | .excluded =>
      let s1 := s.release i s.tref.e
      if (s1.member i).heldOut then s1 else s1.enter i .free
  | _ => s

/-- Member `i` leaves group `h`, in whose list it no longer stands (R85). -/
def State.leave (s : State) (x : Ix × GroupNo) : State :=
  if (s.group x.2).state.coordinating then (s.leaveMember x.1).groupTests x.2 else s

/-- Member `i` joins group `g` (R86). -/
def State.joinGroup (g : GroupNo) (s : State) (i : Ix) : State :=
  let r := s.group g
  if (s.member i).state = .free then
    match r.state with
    | .pending => if r.target = 0 then s else s.orderMember i r.target (s.lateTm r)
    | .transition => s.orderMember i r.target (s.tref.e + s.leadDs)
    | .steady => s.orderMember i r.target (s.tref.e + s.leadDs)
    | .free => s
    | .suspended => s
  else s

/-- The group fields while the leaves are handed on: an intersection that changes its group has none until it joins. -/
def withoutMovers (before after : Vector (Option GroupNo) 64) : Vector (Option GroupNo) 64 :=
  Vector.ofFn fun i => if vget after i = vget before i then vget before i else none

/-- The group fields of the stored tables are replaced. -/
def State.setGroupOf (s : State) (v : Vector (Option GroupNo) 64) : State :=
  { s with stored := { s.stored with groupOf := v } }

/-- The leaves of a write of group `g`'s list: each intersection that leaves a group, with that group, ascending. -/
def leavesOf (before after : Vector (Option GroupNo) 64) : List (Ix × GroupNo) :=
  allIx.filterMap fun i =>
    match vget before i with
    | some h => if vget after i = some h then none else some (i, h)
    | none => none

/-- The joins of a write of group `g`'s list, ascending. -/
def joinsOf (before after : Vector (Option GroupNo) 64) (g : GroupNo) : List Ix :=
  allIx.filter fun i => vget after i = some g && vget before i ≠ some g

/-- SET_MEMBERS: the table is written, then come the leaves, the joins and one evaluation for each group concerned; a list
equal to the present one changes nothing (R35, R36). -/
def setMembersBlock (a : SetMembersArgs) (s : State) : State × Answer :=
  unlessCommitting s <|
    match inRange 16 a.group, memberList a.list with
    | some g, some l =>
        let before := s.stored.groupOf
        let after := writeMembers before g l
        let leaves := leavesOf before after
        let taken := leaves.filter fun x => x.2 ≠ g
        let gone := leaves.filter fun x => x.2 = g
        let reply : Answer :=
          (.ok, listItem l (fun i => [.n1 i.val]) ++ listItem taken (fun x => [.n1 x.1.val, .n1 x.2.val])
            ++ listItem gone (fun x => [.n1 x.1.val]))
        if after = before then (s, reply)
        else
          let s1 := leaves.foldl State.leave (s.setGroupOf (withoutMovers before after))
          let s2 := (joinsOf before after g).foldl (State.joinGroup g) (s1.setGroupOf after)
          let others := allGroups.filter fun h => taken.any fun x => x.2 = h
          (others.foldl (fun s h => s.owe (oneGroup h)) (s2.owe (oneGroup g)), reply)
    | _, _ => (s, plain .badArg)

/-- SET_MEMBERS (R35). -/
def execSetMembers (f : RequestFrame) (s : State) : Host.Outcome State Fault Refusal :=
  .next (s.request f .setMembers (parseSetMembers f.payload) (answering setMembersBlock)).settle

/-! ### READ_GROUP (R90) -/

/-- A standing order as READ_GROUP and READ_INTERSECTION carry it: kind, plan, Tm and outcome. -/
def StandingOrder.items (o : StandingOrder) : List Item :=
  [.n1 o.kind.code, .n1 o.payload.plan, .time o.payload.tm, .n1 o.outcome.code]

/-- The fields of Table 5-1. -/
def Hold.items (h : Hold) : List Item :=
  [.n1 (roleCode h.owner), .n1 h.plan] ++ optItem 4 h.ends EpochMinute.items ++ [.n2 h.tag.toNat, .time h.placedAt]

/-- The suspension record. -/
def Suspension.items (x : Suspension) : List Item := [.n1 x.cls.code, .n1 x.intersection.val, .time x.e]

/-- What READ_GROUP carries (R90). That the member list is one counted list of number, state and standing order, and that the
hold, the suspension record and a standing order stand under one presence byte each, is a DESIGN CHOICE (log entry 14). -/
def State.groupItems (s : State) (g : GroupNo) : List Item :=
  let r := s.group g
  let ms := s.membersOf g
  let count (p : MemberState → Bool) : Item := .n1 (ms.filter fun i => p (s.member i).state).length
  [.n1 r.state.code, .n1 r.current, .n1 r.target, .n1 r.wanted] ++ r.source.items
    ++ optItem 5 r.ts (fun t => [.time t]) ++ optItem 14 r.hold Hold.items ++ optItem 7 r.suspension Suspension.items
    ++ listItem ms (fun i =>
        [.n1 i.val, .n1 (s.member i).state.code] ++ optItem 8 (s.member i).order StandingOrder.items)
    ++ [count (· = .ordered), count (· = .correcting), count (· = .inStep), count (fun st => !st.eligible)]

/-- READ_GROUP (R90). -/
def readGroupBlock (n : Nat) (s : State) : State × Answer :=
  match inRange 16 n with
  | none => (s, plain .badArg)
  | some g => (s, (.ok, s.groupItems g))

/-- READ_GROUP (R90). -/
def execReadGroup (f : RequestFrame) (s : State) : Host.Outcome State Fault Refusal :=
  .next (s.request f .readGroup (parseByte f.payload) (answering readGroupBlock)).settle

/-! ### The switch times -/

/-- The Ts of a PENDING group is reached (R79). -/
def State.tsDue (s : State) (g : GroupNo) : Bool :=
  (s.group g).state = .pending && (s.group g).ts.any fun t => t ≤ s.tref.e

/-- An ORDERED member of a group that becomes FREE goes to FREE (R79). -/
def State.freeOrdered (s : State) (i : Ix) : State := if (s.member i).state = .ordered then s.enter i .free else s

/-- Ts is reached (R79). -/
def State.reachTs (s : State) (g : GroupNo) : State :=
  let r := s.group g
  let ms := s.membersOf g
  if r.target = 0 then
    ms.foldl State.freeOrdered (s.setGroup g { r with state := .free, current := 0, ts := none })
  else if ms.any fun i => (s.member i).state = .ordered then
    s.setGroup g { r with state := .transition, current := r.target }
  else (s.setGroup g { r with state := .steady, current := r.target, ts := none }).offerSteady g

/-- Takes TS_REACHED of a group. -/
def execTsReached (g : GroupNo) (s : State) : Host.Outcome State Fault Refusal :=
  .next (if s.tsDue g then (s.reachTs g).settle else s)

/-- The Tm of an ORDERED member's ORDER is reached and has not been judged (R80). -/
def State.tmDue (s : State) (i : Ix) : Bool :=
  (s.member i).state = .ordered
    && (s.member i).standingOrder.any fun o => o.payload.tm ≤ s.tref.e && !o.judged

/-- Tm is reached: an ORDER that is still OWED raises ORDER_MISSED, unless the condition stands (R80, R84). -/
def State.reachTm (s : State) (i : Ix) : State :=
  let s1 := s.modMember i fun m => { m with order := m.order.map fun o => { o with judged := true } }
  if ((s.member i).order.any fun o => o.outcome = .owed) && !((s.member i).faults.get .orderMissed).standing then
    s1.raise i .orderMissed (some .notDelivered)
  else s1

/-- Takes TM_REACHED of a member. -/
def execTmReached (i : Ix) (s : State) : Host.Outcome State Fault Refusal :=
  .next (if s.tmDue i then (s.reachTm i).settle else s)

end Sys2Proof.Machine
end

