-- ==== Sys2Proof/Machine/IntersectionCommands.lean ====
section
/-! DEFINITION. SET_MAP (R121), REQUERY (R123) and READ_INTERSECTION (R133, R116). -/

namespace Sys2Proof.Machine

/-! ### SET_MAP -/

/-- The map that the arguments name: `some none` for the value none, `none` when they are out of range (R121). -/
def SetMapArgs.place (a : SetMapArgs) : Option (Option Place) :=
  if a.segment = 0xFF then some none
  else
    match inRange 4 a.segment with
    | some k => if h : 1 ≤ a.drop ∧ a.drop ≤ 16 then some (some ⟨k, ⟨a.drop - 1, by omega⟩⟩) else none
    | none => none

/-- The map of an intersection is replaced. -/
def State.setPlace (s : State) (i : Ix) (pl : Option Place) : State :=
  { s with stored := { s.stored with maps := vset s.stored.maps i pl } }

/-- A mapped intersection is unmapped: the member goes OFFLINE and its poll state is removed (R119, R121). -/
def State.unmap (s : State) (i : Ix) : State := ((s.goOffline i).setPlace i none).setPoll i none

/-- An unmapped intersection is mapped (R121, R124, R151). -/
def State.mapTo (s : State) (i : Ix) (pl : Place) : State :=
  let st := (s.segment pl.seg).state
  let s1 := (s.setPlace i (some pl)).setPoll i (some (if st = .active then s.loadedPoll pl.seg else stoppedPoll))
  let s2 := if st.reachable then s1.enter i .unknown else s1
  if st = .active then s2.enqueueQuery i else s2

/-- SET_MAP for an intersection in range (R121). -/
def State.remap (s : State) (i : Ix) (pl : Option Place) : State :=
  if s.place i = pl then s
  else
    let s1 := if (s.place i).isSome then s.unmap i else s
    match pl with
    | some p => s1.mapTo i p
    | none => s1

/-- A map as a reply carries it: segment and drop address. -/
def Place.items (p : Place) : List Item := [.n1 p.seg.val, .n1 (p.drop.val + 1)]

/-- SET_MAP (R121). -/
def setMapBlock (a : SetMapArgs) (s : State) : State × Answer :=
  unlessCommitting s <|
    match inRange 64 a.intersection, a.place with
    | some i, some pl =>
        match pl.bind (fun p => (s.atDrop p.seg p.drop).filter (· ≠ i)) with
        | some other => (s, (.inUse, [.n1 other.val]))
        | none =>
            let s1 := s.remap i pl
            (s1, (.ok, optItem 2 (s.place i) Place.items ++ [.n1 (s1.member i).state.code]))
    | _, _ => (s, plain .badArg)

/-- SET_MAP (R121). -/
def execSetMap (f : RequestFrame) (s : State) : Host.Outcome State Fault Refusal :=
  .next (s.request f .setMap (parseSetMap f.payload) (answering setMapBlock)).settle

/-! ### REQUERY -/

/-- The outcomes of REQUERY, in the order of R123. -/
inductive RequeryOutcome where
  | queued | alreadyQueued | deferred
  deriving DecidableEq, Repr

/-- Outcome codes in the order of R123. -/
def RequeryOutcome.code : RequeryOutcome → Nat
  | .queued => 0
  | .alreadyQueued => 1
  | .deferred => 2

/-- REQUERY (R123). -/
def requeryBlock (n : Nat) (s : State) : State × Answer :=
  match inRange 64 n with
  | none => (s, plain .badArg)
  | some i =>
      match s.place i with
      | none => (s, plain .notFound)
      | some pl =>
          if (s.member i).state = .offline then (s, plain .notFound)
          else if (s.segment pl.seg).queue.any (·.isQueryOf i) then (s, (.ok, [.n1 RequeryOutcome.alreadyQueued.code]))
          else if (s.segment pl.seg).state = .active then
            (s.enqueueQuery i, (.ok, [.n1 RequeryOutcome.queued.code]))
          else (s, (.ok, [.n1 RequeryOutcome.deferred.code]))

/-- REQUERY (R123). -/
def execRequery (f : RequestFrame) (s : State) : Host.Outcome State Fault Refusal :=
  .next (s.request f .requery (parseByte f.payload) (answering requeryBlock)).settle

/-! ### READ_INTERSECTION -/

/-- Validity in the order of Table 8-2: VALID 0, INVALID 1 (R187). -/
def validityCode (valid : Bool) : Nat := if valid then 0 else 1

/-- The fields of Table 8-2. -/
def Capability.items (c : Capability) : List Item :=
  [.n2 c.cmin, .n2 c.cmax, .n1 c.step, .n1 c.patterns, .n1 c.methods.byte, .n1 (boolCode c.acks), .n1 (validityCode c.valid)]

/-- The deglitch counters in the order of the alerts. -/
def Member.deglitchItems (m : Member) : List Item :=
  [.n1 m.alerts.manual.counter, .n1 m.alerts.flash.counter, .n1 m.alerts.door.counter, .n1 m.alerts.detector.counter,
    .n1 m.alerts.localPlan.counter, .n1 m.alerts.powerRestored.counter]

/-- The transition fields in the order of Table 7-1. -/
def Member.transitionItems (m : Member) : List Item :=
  optItem 2 m.error (fun v => [.signed v]) ++ [.n1 m.direction.code, .n2 m.remaining, .signed m.correction]
    ++ optItem 1 m.correctionCount (fun c => [.n1 c]) ++ optItem 1 m.method (fun x => [.n1 x.code])
    ++ optItem 1 m.expected (fun n => [.n1 n]) ++ optItem 4 m.deadline (fun d => [.n4 d])
    ++ [.n1 (boolCode m.late), .n1 (boolCode m.resync), .n4 m.observed]

/-- What READ_INTERSECTION carries (R133). That the map, the capability record and the standing order stand under one presence byte
each is a DESIGN CHOICE (log entry 14). -/
def State.intersectionItems (s : State) (i : Ix) : List Item :=
  let m := s.member i
  optItem 2 (s.place i) Place.items ++ optItem 1 (s.groupOf i) (fun g => [.n1 g.val]) ++ [.n1 m.state.code]
    ++ optItem 4 m.controllerId (fun c => [.n4 c]) ++ optItem 9 m.capability Capability.items
    ++ optItem 1 m.mode (fun x => [.n1 x.code]) ++ optItem 1 m.running (fun k => [.n1 k])
    ++ optItem 1 m.count (fun c => [.n1 c]) ++ optItem 2 m.position (fun p => [.n2 p])
    ++ optItem 2 m.lastApplied (fun v => [.signed v])
    ++ [.n4 m.observed, .n1 m.noReplies, .n1 (alertByte m.alertSet)] ++ m.deglitchItems
    ++ optItem 8 m.order StandingOrder.items ++ m.transitionItems
    ++ allClasses.flatMap fun c => [.n1 (boolCode (m.faults.get c).standing), .n1 (boolCode (m.faults.get c).latched)]

/-- READ_INTERSECTION (R133). -/
def readIntersectionBlock (n : Nat) (s : State) : State × Answer :=
  match inRange 64 n with
  | none => (s, plain .badArg)
  | some i => (s, (.ok, s.intersectionItems i))

/-- READ_INTERSECTION (R133). -/
def execReadIntersection (f : RequestFrame) (s : State) : Host.Outcome State Fault Refusal :=
  .next (s.request f .readIntersection (parseByte f.payload) (answering readIntersectionBlock)).settle

end Sys2Proof.Machine
end

