-- ==== Sys2Proof/Machine/Arith.lean ====
section
/-! DEFINITION. The arithmetic of the offset transition as functions of its inputs: measurement (R96, R97), limits (R98),
effective method (R99), direction (R101) and corrections (R103). -/

namespace Sys2Proof.Machine

/-- The desired position p* (R96). -/
def desired (e o c : Nat) : Nat := (((e : Int) - (o : Int)) % (c : Int)).toNat

/-- The raw advance (R96). -/
def rawAdvance (pStar p c : Nat) : Nat := (((pStar : Int) - (p : Int)) % (c : Int)).toNat

/-- The nearest multiple of `g`, halves up; C itself counts as 0 (R96). -/
def roundAdvance (aRaw g c : Nat) : Nat :=
  let a := (aRaw + g / 2) / g * g
  if a = c then 0 else a

/-- The advance of a member at position `p` (R96). -/
def advanceOf (e o c p g : Nat) : Nat := roundAdvance (rawAdvance (desired e o c) p c) g c

/-- The signed error of an advance (R97). -/
def signedError (a c : Nat) : Int := if 2 * a ≤ c then (a : Int) else (a : Int) - (c : Int)

/-- Whether an error is within the tolerance (R97). -/
def withinTol (err : Int) (tol : Nat) : Bool := err.natAbs ≤ tol

/-- The largest multiple of `g` not above a limit (R98). -/
def floorTo (x g : Nat) : Nat := x / g * g

/-- The lengthen limit L of one cycle (R98). -/
def lengthenLimit (method : Method) (c cmax lpct g : Nat) : Nat :=
  match method with
  | .step => floorTo (cmax - c) g
  | _ => floorTo (min (c * lpct / 100) (cmax - c)) g

/-- The shorten limit S of one cycle (R98). -/
def shortenLimit (method : Method) (c cmin spct g : Nat) : Nat :=
  match method with
  | .step => floorTo (c - cmin) g
  | _ => floorTo (min (c * spct / 100) (c - cmin)) g

/-- The effective method: STEP falls back to SHORTWAY, SHORTWAY to DELAY, and DELAY is always supported (R99). -/
def effectiveMethod (method : Method) (m : Methods) : Method :=
  match method with
  | .delay => .delay
  | .shortway => if m.shortway then .shortway else .delay
  | .step => if m.step then .step else if m.shortway then .shortway else .delay

/-- The cycles needed at a limit, rounded up; none, that is infinite, when the limit is 0 (R101). -/
def cyclesNeeded (distance limit : Nat) : Option Nat :=
  if limit = 0 then none else some ((distance + limit - 1) / limit)

/-- The choice of a direction with its count of cycles (R101). -/
def chooseDirection (method : Method) (a c l s : Nat) : Option (Direction × Nat) :=
  let nD := cyclesNeeded (c - a) l
  let delay := nD.map fun n => (Direction.delay, n)
  match method with
  | .delay => delay
  | _ =>
    match cyclesNeeded a s, nD with
    | some nA, some n => if nA < n then some (.advance, nA) else some (.delay, n)
    | some nA, none => some (.advance, nA)
    | none, _ => delay

/-- The remaining correction of a direction (R103). -/
def remainingOf (d : Direction) (a c : Nat) : Nat :=
  match d with
  | .advance => a
  | .delay => (c - a) % c
  | .none => 0

/-- The correction for the current cycle (R103). -/
def correctionOf (d : Direction) (remaining l s : Nat) : Int :=
  match d with
  | .advance => -(min remaining s : Nat)
  | .delay => (min remaining l : Nat)
  | .none => 0

/-- The limit that the kept direction uses (R110). -/
def limitOf (d : Direction) (l s : Nat) : Nat :=
  match d with
  | .advance => s
  | .delay => l
  | .none => 0

/-- The expected cycles as stored: at most 255 (R92, R101). -/
def storedCycles (n : Nat) : Nat := min 255 n

/-- A cycle limit reported in whole seconds, as stored: a value above 300 s is taken as 300 s (Table 8-2). -/
def storedLimit (seconds : Nat) : Nat := 10 * min seconds 300

/-- The stored step of a reported step code (Table 8-2). -/
def storedStep (code : Nat) : Nat :=
  if code ≤ 1 then 1 else if code ≤ 4 then 2 else if code ≤ 9 then 5 else 10

/-- The capability record of a QUERY reply (R125). -/
def capabilityOf (q : QueryReply) : Capability where
  cmin := storedLimit q.cmin
  cmax := storedLimit q.cmax
  step := storedStep q.step
  patterns := min q.patterns 32
  methods := { q.methods with delay := true }
  acks := q.acks
  valid := storedLimit q.cmin ≤ storedLimit q.cmax && q.patterns ≠ 0

end Sys2Proof.Machine
end

