-- ==== Sys2Proof/Machine/Transition.lean ====
section
/-! DEFINITION. The transition of one member at a good POLL reply: measurement (R95), transition start (R104), blocking
(R102), recomputation with re-choice and deadline (R109, R110, R112), completion (R111) and a lost plan (R107). -/

namespace Sys2Proof.Machine

/-- The plan a member's group is coordinated to now, with its record. -/
def State.currentPlan (s : State) (i : Ix) : Option (Nat × Plan) :=
  match s.groupOf i with
  | some g =>
      match s.stored.plan (s.group g).current with
      | some p => some ((s.group g).current, p)
      | none => none
  | none => none

/-- The inputs of a measurement at this instant and the advance they give (R95, R96): the plan's record, the capability
record and a. -/
structure Measured where
  plan : Plan
  cap : Capability
  advance : Nat
  deriving DecidableEq, Repr

/-- The measurement of a member against its group's current plan, with its stored position (R95, R96). -/
def State.measure (s : State) (i : Ix) : Option Measured :=
  match s.currentPlan i, (s.member i).capability, (s.member i).position with
  | some (k, p), some cap, some pos =>
      some ⟨p, cap, advanceOf s.tref.e (s.stored.offset k i) p.cycle pos cap.step⟩
  | _, _, _ => none

/-- The signed error a measurement gives (R97). -/
def Measured.err (x : Measured) : Int := signedError x.advance x.plan.cycle

/-- L and S of a member under an effective method, with the parameters of this instant (R98). -/
def State.limits (s : State) (x : Measured) (method : Method) : Nat × Nat :=
  (lengthenLimit method x.plan.cycle x.cap.cmax s.stored.params.lpct x.cap.step,
   shortenLimit method x.plan.cycle x.cap.cmin s.stored.params.spct x.cap.step)

/-- A member in CORRECTING with a direction takes its corrections (R103). -/
def Member.correct (m : Member) (d : Direction) (a c l sh : Nat) : Member :=
  let r := remainingOf d a c
  { m with direction := d, remaining := r, correction := correctionOf d r l sh, correctionCount := m.count }

/-- A member that is blocked: no direction, no correction (R102); the expected cycles are absent, or 255 for a member whose
count was held there (R92). -/
def Member.block (m : Member) (expected : Option Nat) : Member :=
  { m with direction := .none, remaining := 0, correction := 0, correctionCount := m.count, expected := expected }

/-- What a computation makes of the choice of R101. A chosen direction that needs more than 255 cycles has its count held at 255
and the member reported as blocked (R92); DEDUCED, log entry 39. -/
inductive Way where
  | go (d : Direction) (n : Nat)
  | blocked (expected : Option Nat)
  deriving DecidableEq, Repr

/-- The way that a choice gives (R92, R101, R102). -/
def wayOf : Option (Direction × Nat) → Way
  | some (d, n) => if n ≤ 255 then .go d n else .blocked (some (storedCycles n))
  | none => .blocked none

/-- TRANSITION_BLOCKED is raised unless it stands already (R102). -/
def State.raiseBlocked (s : State) (i : Ix) : State :=
  if ((s.member i).faults.get .transitionBlocked).standing then s else s.raise i .transitionBlocked

/-- A member found in step goes to IN_STEP (R104, R111). -/
def Member.inStepNow (m : Member) : Member :=
  { (m.enter .inStep) with
    direction := .none, remaining := 0, correction := 0, correctionCount := m.count, expected := none,
    deadline := none }

/-- Step 5 of a transition start for a member not in step (R101 to R104). -/
def State.startCorrecting (s : State) (i : Ix) (x : Measured) (method : Method) : State :=
  let (l, sh) := s.limits x method
  let s1 := s.modMember i fun m => { m.enter .correcting with method := some method }
  match wayOf (chooseDirection method x.advance x.plan.cycle l sh) with
  | .go d n =>
      s1.modMember i fun m =>
        { (m.correct d x.advance x.plan.cycle l sh) with
          expected := some n
          deadline := some (m.observed + n + s.stored.params.grace) }
  | .blocked held => (s1.modMember i fun m => { m.block held with deadline := none }).raiseBlocked i

/-- A transition start of a member (R104). A failing check clears the transition fields, the effective method of step 1 among
them (R100, R114). -/
def State.transitionStart (s : State) (i : Ix) : State :=
  match s.currentPlan i with
  | none => s
  | some (k, p) =>
      let method := ((s.member i).capability.map fun c => effectiveMethod p.method c.methods).getD .delay
      let s1 := s.modMember i fun m =>
        { m.clearTransitionConds with resync := false, late := false, method := some method }
      if s1.stored.activation (s1.member i) k then
        let s2 := s1.clearCond i .capability
        match s2.measure i with
        | none => s2
        | some x =>
            let s3 := s2.modMember i fun m => { m with error := some x.err }
            let s4 :=
              if withinTol x.err s.stored.params.tol then s3.modMember i Member.inStepNow
              else s3.startCorrecting i x method
            s4.testsOf i
      else (s1.modMember i Member.clearTransition).failCheck i

/-- Completion: a CORRECTING member found in step goes to IN_STEP (R111). -/
def State.complete (s : State) (i : Ix) : State :=
  (s.modMember i fun m => m.clearTransitionConds.inStepNow).testsOf i

/-- The deadline test of a recomputation (R112). -/
def State.deadlineTest (s : State) (i : Ix) : State :=
  let m := s.member i
  if m.state = .correcting ∧ m.late = false ∧ (m.deadline.any fun d => d ≤ m.observed) = true then
    (s.modMember i fun m => { m with late := true }).raise i .transitionLate
  else s

/-- The direction part of a recomputation: the kept direction, a re-choice, or the choice of a blocked member
(R102, R109, R110). -/
def State.redirect (s : State) (i : Ix) (x : Measured) : State :=
  let m := s.member i
  let method := m.method.getD .delay
  let (l, sh) := s.limits x method
  let c := x.plan.cycle
  let again := m.direction = .none || m.remaining + s.stored.params.tol < remainingOf m.direction x.advance c
    || limitOf m.direction l sh = 0
  if again then
    match wayOf (chooseDirection method x.advance c l sh) with
    | .go d n =>
        s.modMember i fun m =>
          { ((m.clearCond .transitionBlocked).correct d x.advance c l sh) with
            expected := some n
            deadline := some (m.deadline.getD (m.observed + n + s.stored.params.grace)) }
    | .blocked held => (s.modMember i (·.block held)).raiseBlocked i
  else s.modMember i fun m => m.correct m.direction x.advance c l sh

/-- The recomputation of a CORRECTING member that is not in step at the first reply of a new cycle (R109). -/
def State.recompute (s : State) (i : Ix) (k : Nat) (x : Measured) : State :=
  if s.stored.activation (s.member i) k then ((s.clearCond i .capability).redirect i x).deadlineTest i
  else s.failCheck i

/-- A coordinated member reports a plan other than its group's current plan: it is ordered again (R107). -/
def State.planLost (s : State) (i : Ix) : State :=
  match s.groupOf i with
  | some g =>
      (s.modMember i fun m => { m with correction := 0, correctionCount := m.count }).orderMember i (s.group g).target
        (s.tref.e + s.leadDs)
  | none => s

/-- Steps 2 to 5 of R106 for a member in CORRECTING or IN_STEP; `newCycle` says that the reply's count differs from the
last reported one. The signed error of step 4 stays recorded when the check of R100 then fails: DEDUCED, log entry 41. -/
def State.follow (s : State) (i : Ix) (newCycle : Bool) : State :=
  match s.groupOf i with
  | none => s
  | some g =>
    let k := (s.group g).current
    let m := s.member i
    if m.running ≠ some k then s.planLost i
    else if m.resync then s.transitionStart i
    else
      match s.measure i with
      | none => s
      | some x =>
          let s1 := s.modMember i fun m => { m with error := some x.err }
          let near := withinTol x.err s.stored.params.tol
          if m.state = .inStep then (if near then s1 else s1.transitionStart i)
          else if near then s1.complete i
          else if newCycle then s1.recompute i k x
          else s1

/-- The measurement of a member in EXCLUDED (R114): the error is recorded, and a member found in step ends
TRANSITION_LATE and TRANSITION_BLOCKED (R113). -/
def State.measureExcluded (s : State) (i : Ix) : State :=
  match s.groupOf i with
  | none => s
  | some g =>
    let r := s.group g
    if (r.state = .transition ∨ r.state = .steady) ∧ (s.member i).running = some r.current then
      match s.measure i with
      | none => s
      | some x =>
          let s1 := s.modMember i fun m => { m with error := some x.err }
          if withinTol x.err s.stored.params.tol then
            (s1.modMember i (·.clearTransitionConds)).tryReadmit i
          else s1
    else s

end Sys2Proof.Machine
end

