-- ==== Sys2Proof/Machine/Replies.lean ====
section
/-! DEFINITION. What the IXT and the GCO do with each completion of a field transaction: the fields of a POLL reply (R93,
R128), the steps common to every good reply (R129, R131, R132), the switching tests (R82 to R84), ORDER replies (R77, R78,
R73), QUERY replies (R126), a no-reply (R130), and the completion of a transaction on its segment (R144, R122, R137). -/

namespace Sys2Proof.Machine

/-! ### Taking the fields of a POLL reply (R93, R128) -/

/-- The position as stored: taken as C - 1 at or above the cycle of a defined running plan (R128). -/
def Stored.clampPosition (t : Stored) (running p : Nat) : Nat :=
  match t.plan running with
  | some pl => if pl.cycle ≤ p then pl.cycle - 1 else p
  | none => p

/-- Whether a reported cycle count differs from the last one reported (R93); there is none to differ from at first. -/
def Member.newCycle (m : Member) (count : Nat) : Bool :=
  match m.count with
  | some c => c ≠ count
  | none => false

/-- The fields of a POLL reply enter the record (R93, R128). That the count of a correction never computed stays absent is a DESIGN
CHOICE (log entry 45). -/
def Stored.takePoll (t : Stored) (m : Member) (r : PollReply) : Member :=
  { m with
    observed := if m.newCycle r.count then m.observed + 1 else m.observed
    mode := some r.mode
    running := some r.running
    count := some r.count
    position := some (t.clampPosition r.running r.position)
    lastApplied := some r.applied }

/-! ### Steps 2 to 4 of R129 -/

/-- The alerts of a good reply: deglitched, with an ALERT_CHANGE notice when the standing set changed and a QUERY when
POWER_RESTORED became standing (R131, R132). -/
def State.takeAlerts (s : State) (i : Ix) (r : GoodReply) : State :=
  let m := s.member i
  let after := deglitch m.alerts (shownAlerts m.state r) s.stored.params.deglitch
  let s1 := s.modMember i fun m => { m with alerts := after }
  let new := (s1.member i).alertSet
  let s2 := if new = m.alertSet then s1 else s1.offer (.alertChange i new m.alertSet)
  if new.powerRestored && !m.alertSet.powerRestored then s2.enqueueQuery i else s2

/-- Whether MANUAL or FLASH has become standing between two alert sets (R132). -/
def alertRaised (prev new : PerAlert Bool) : Bool :=
  (new.manual && !prev.manual) || (new.flash && !prev.flash)

/-- Steps 2 to 4 of R129: the no-reply count and a NO_REPLY condition end, the alerts are taken, an ALERT condition is
raised or ends, and readmission is tested after the last. -/
def State.commonSteps (s : State) (i : Ix) (r : GoodReply) : State :=
  let prev := (s.member i).alertSet
  let hadNoReply := ((s.member i).faults.get .noReply).standing
  let s1 := (s.modMember i fun m => { m with noReplies := 0 }).takeAlerts i r
  let new := (s1.member i).alertSet
  let alertStands := ((s1.member i).faults.get .alert).standing
  let s2 := if hadNoReply then s1.clearCond i .noReply else s1
  let ends := alertStands && !(new.manual || new.flash)
  let s3 :=
    if alertRaised prev new && !alertStands then s2.raise i .alert
    else if ends then s2.clearCond i .alert
    else s2
  if hadNoReply || ends then s3.tryReadmit i else s3

/-! ### Switching tests (R82 to R84) -/

/-- Whether the running cycle of a member began at or after an instant: E - p against it (R82). -/
def State.begunSince (s : State) (i : Ix) (tm : Nat) : Bool :=
  match (s.member i).position with
  | some p => tm + p ≤ s.tref.e
  | none => false

/-- The switching test of a member against its standing ORDER; in a PENDING group it cannot pass, since Ts has not been
taken as reached (R82). -/
def State.switchTest (s : State) (i : Ix) : Bool :=
  match (s.member i).standingOrder, s.groupOf i with
  | some o, some g =>
      ((s.group g).state = .transition || (s.group g).state = .steady)
        && (s.member i).running = some o.payload.plan && s.begunSince i o.payload.tm
  | _, _ => false

/-- A member switches: its standing order is cleared, a queued copy leaves, and a transition start follows (R82). -/
def State.switchMember (s : State) (i : Ix) : State := ((s.clearOrder i).dropOrder i).transitionStart i

/-- A delivered order is seen unswitched after its Tm (R83). That the ORDER is put and becomes OWED before ORDER_MISSED is raised,
so that a latch's RELEASE takes its place, is DEDUCED (log entry 24). -/
def State.notSwitched (s : State) (i : Ix) : State :=
  match (s.member i).standingOrder with
  | some o =>
      if (s.member i).state = .ordered ∧ o.outcome = .delivered ∧ (s.member i).running ≠ some o.payload.plan
          ∧ s.begunSince i o.payload.tm = true ∧ ((s.member i).faults.get .orderMissed).standing = false then
        let s1 :=
          match s.place i with
          | some pl => (s.dropOrder i).modSegment pl.seg (·.join s.tref.e i (.order o.oid o.payload))
          | none => s
        (s1.modMember i fun m => { m with order := some { o with outcome := .owed } }).raise i .orderMissed
          (some .notSwitched)
      else s
  | none => s

/-- The switching tests of a member in ORDERED or EXCLUDED, with the ends of an ORDER_MISSED condition (R82, R83, R84). -/
def State.switchingTests (s : State) (i : Ix) : State :=
  let s1 := if s.switchTest i then s.endCond i .orderMissed else s
  if (s1.member i).state = .ordered ∧ s1.switchTest i = true then s1.switchMember i
  else s1.notSwitched i

/-! ### Replies by their kind (R129, step 5) -/

/-- A good POLL reply after the common steps. -/
def State.handlePoll (s : State) (i : Ix) (newCycle : Bool) : State :=
  match (s.member i).state with
  | .ordered => s.switchingTests i
  | .excluded =>
      let s1 := s.switchingTests i
      if (s1.member i).state = .excluded then s1.measureExcluded i else s1
  | .correcting => s.follow i newCycle
  | .inStep => s.follow i newCycle
  | _ => s

/-- An order goes back to the queue with its place and enqueue time kept (R73, R78, R140). -/
def State.putBackOrder (s : State) (k : SegNo) (t : InFlight) (oid : Nat) (p : OrderPayload) : State :=
  s.modSegment k fun r => { r with queue := insertTxn ⟨.order oid p, t.target, t.enqueued, t.seq⟩ r.queue }

/-- An ORDER_MISSED condition of cause NOT_DELIVERED or REFUSED ends at the delivery of the order (R84). -/
def State.endUndelivered (s : State) (i : Ix) : State :=
  match (s.member i).missCause with
  | some .notDelivered => s.endCond i .orderMissed
  | some .refused => s.endCond i .orderMissed
  | _ => s

/-- A good reply to the member's standing ORDER (R77, R78). -/
def State.orderAnswered (s : State) (i : Ix) (k : SegNo) (o : StandingOrder) (r : OrderReply) : State :=
  let acks := ((s.member i).capability.map (·.acks)).getD false
  if acks && r.answer ≠ 1 then
    let s1 := s.modMember i fun m => { m with order := some { o with outcome := .refused } }
    let s2 := s1.modSegment k (·.join s.tref.e i (.order o.oid o.payload))
    if ((s.member i).faults.get .orderMissed).standing then s2
    else s2.raise i .orderMissed (some .refused) (some (if r.answer = 2 then r.reason else 0))
  else
    (s.modMember i fun m => { m with order := some { o with outcome := .delivered } }).endUndelivered i

/-- A good reply to the member's standing RELEASE (R73). -/
def State.releaseAnswered (s : State) (i : Ix) (k : SegNo) (t : InFlight) (o : StandingOrder) (r : OrderReply) : State :=
  let acks := ((s.member i).capability.map (·.acks)).getD false
  if acks && r.answer ≠ 1 then s.putBackOrder k t o.oid o.payload else s.clearOrder i

/-- A good ORDER reply after the common steps; the completion of an order that no longer stands counts for nothing
(R78). -/
def State.handleOrder (s : State) (i : Ix) (k : SegNo) (t : InFlight) (oid : Nat) (r : OrderReply) : State :=
  match (s.member i).order with
  | some o =>
      if o.oid = oid then
        match o.kind with
        | .order => s.orderAnswered i k o r
        | .release => s.releaseAnswered i k t o r
      else s
  | none => s

/-- Step 1 of R126: another controller stands at the drop, and the member is taken as one in UNKNOWN. -/
def Member.replaceController (m : Member) : Member :=
  let m1 := if m.state.inTransition then m.clearTransition else m
  { m1 with faults := PerClass.all FaultEntry.clear, missCause := none, missReason := none, order := none,
            state := .unknown }

/-- Step 4 of R126: the check of a coordinated member against its new record. -/
def State.recheckCapability (s : State) (i : Ix) : State :=
  let m := s.member i
  let against : Option Nat :=
    match m.state with
    | .ordered => m.standingOrder.map fun o => o.payload.plan
    | .correcting => (s.groupOf i).map fun g => (s.group g).current
    | .inStep => (s.groupOf i).map fun g => (s.group g).current
    | _ => none
  match against with
  | some k => if s.stored.activation m k then s else s.failCheck i
  | none => s

/-- A good QUERY reply after the common steps (R126). At a change of controller the tests of R70 are made once the member has been
placed, not at step 1: DEDUCED, log entry 25. -/
def State.handleQuery (s : State) (i : Ix) (q : QueryReply) : State :=
  let differs := (s.member i).controllerId.any fun c => c ≠ q.controllerId
  let s1 := if differs then (s.dropOrder i).modMember i Member.replaceController else s
  let s2 := s1.modMember i fun m => { m with controllerId := some q.controllerId, capability := some (capabilityOf q) }
  let s3 := s2.endCond i .capability
  let s4 := if (s3.member i).state = .unknown then s3.placeUnknown i else s3.recheckCapability i
  if differs then s4.testsOf i else s4

/-- A good reply to a member, whatever its kind (R129). -/
def State.goodReply (s : State) (i : Ix) (k : SegNo) (t : InFlight) (r : GoodReply) : State :=
  match r with
  | .poll p =>
      let newCycle := (s.member i).newCycle p.count
      ((s.modMember i fun m => s.stored.takePoll m p).commonSteps i r).handlePoll i newCycle
  | .order o =>
      match t.body with
      | .order oid _ => (s.commonSteps i r).handleOrder i k t oid o
      | _ => s.commonSteps i r
  | .query q => (s.commonSteps i r).handleQuery i q

/-! ### No-replies (R130) -/

/-- A no-reply to a member: the count, the NO_REPLY raise at three, and the transaction put back when it still stands
(R73, R78, R124, R130, R140). -/
def State.noReplyTo (s : State) (i : Ix) (k : SegNo) (t : InFlight) : State :=
  let m := s.member i
  let s1 := s.modMember i fun m => { m with noReplies := count8 m.noReplies }
  let s2 :=
    if m.noReplies = 2 ∧ (m.faults.get .noReply).standing = false then s1.raise i .noReply else s1
  match t.body with
  | .poll .. => s2
  | .order oid p => if ((s2.member i).order.map (·.oid)) = some oid then s2.putBackOrder k t oid p else s2
  | .query =>
      if (s2.segment k).queue.any (·.isQueryOf i) then s2
      else s2.modSegment k fun r => { r with queue := insertTxn ⟨.query, i, t.enqueued, t.seq⟩ r.queue }

/-! ### Completion on the segment (R144) -/

/-- The outcomes of Table 9-2, each with its counter. -/
inductive Completion where
  | good (r : GoodReply)
  | badReply
  | waitTimeout
  | noReply
  | stuckEnd
  deriving DecidableEq, Repr

/-- The counter of an outcome (Table 9-2). -/
def SegCounters.completed (c : SegCounters) : Completion → SegCounters
  | .good _ => { c with good := count16 c.good }
  | .badReply => { c with badReply := count16 c.badReply }
  | .waitTimeout => { c with waitTimeout := count16 c.waitTimeout }
  | .noReply => { c with noReply := count16 c.noReply }
  | .stuckEnd => { c with stuckEnd := count16 c.stuckEnd }

/-- The outcome reaches poll scheduling and the IXT, unless the drop is no longer the member's map (R122, R144, R153). -/
def State.deliver (s : State) (k : SegNo) (t : InFlight) (c : Completion) : State :=
  if s.place t.target = some ⟨k, t.drop⟩ then
    let s1 :=
      match t.body with
      | .poll .. => s.modPoll t.target Poll.discharge
      | _ => s
    match c with
    | .good r => s1.goodReply t.target k t r
    | _ => s1.noReplyTo t.target k t
  else s

/-- The in-flight transaction of a segment completes: it is counted, and its outcome is handed on; in CLOSING it is counted
only, and the segment enters OFF (R137, R144). -/
def State.completeTxn (s : State) (k : SegNo) (c : Completion) : State :=
  match (s.segment k).inFlight with
  | none => s
  | some t =>
      let s1 := s.modSegment k fun r => { r with inFlight := none, counters := r.counters.completed c }
      if (s.segment k).state = .closing then s1.enterSegment k .off .closed else s1.deliver k t c

end Sys2Proof.Machine
end

