-- ==== Sys2Proof/Machine/SegmentCommands.lean ====
section
/-! DEFINITION. The segment requests ENABLE_SEGMENT, DISABLE_SEGMENT and READ_SEGMENT (R135, R137, R149, R158), the line
events (R136, R138), the course of a transaction (R141 to R145) and the poll interval counters (R152). -/

namespace Sys2Proof.Machine

/-! ### Enabling and disabling -/

/-- The members mapped to a segment go to UNKNOWN (R120). -/
def State.membersUnknown (s : State) (k : SegNo) : State := (s.mappedTo k).foldl (fun s i => s.enter i .unknown) s

/-- The stored enable of a segment is written. -/
def State.setEnable (s : State) (k : SegNo) (b : Bool) : State :=
  { s with stored := { s.stored with enables := vset s.stored.enables k b } }

/-- ENABLE_SEGMENT (R135). -/
def enableSegmentBlock (n : Nat) (s : State) : State × Answer :=
  unlessCommitting s <|
    match inRange 4 n with
    | none => (s, plain .badArg)
    | some k =>
        match (s.segment k).state with
        | .off =>
            let s1 := (((s.setEnable k true).startChecking k .enable).membersUnknown k)
            (s1, (.ok, [.n1 (s1.segment k).state.code]))
        | .closing => (s, (.inUse, [.n1 SegState.closing.code]))
        | .checking => (s, (.ok, [.n1 SegState.checking.code]))
        | .active => (s, (.ok, [.n1 SegState.active.code]))
        | .stuck => (s, (.ok, [.n1 SegState.stuck.code]))

/-- ENABLE_SEGMENT (R135). -/
def execEnableSegment (f : RequestFrame) (s : State) : Host.Outcome State Fault Refusal :=
  .next (s.request f .enableSegment (parseByte f.payload) (answering enableSegmentBlock)).settle

/-- A segment in CHECKING, ACTIVE or STUCK is disabled: it enters CLOSING, its members go OFFLINE, the candidate is
abandoned and its interval counters stop; with nothing in flight it enters OFF (R137). The members go in ascending order of drop
address: DESIGN CHOICE, log entry 43. -/
def State.disable (s : State) (k : SegNo) : State :=
  let s1 := (s.setEnable k false).enterSegment k .closing .disable
  let s2 := (s1.mappedTo k).foldl State.goOffline s1
  let s3 := s2.modSegment k fun r => { r with candidate := none }
  let s4 := (s3.mappedTo k).foldl (fun s i => s.modPoll i fun _ => stoppedPoll) s3
  if (s4.segment k).inFlight.isNone then s4.enterSegment k .off .closed else s4

/-- DISABLE_SEGMENT; R137 names no item of its reply, so that it has no payload (R187). -/
def disableSegmentBlock (n : Nat) (s : State) : State × Answer :=
  unlessCommitting s <|
    match inRange 4 n with
    | none => (s, plain .badArg)
    | some k =>
        match (s.segment k).state with
        | .off => (s, plain .ok)
        | .closing => (s, plain .ok)
        | _ => (s.disable k, plain .ok)

/-- DISABLE_SEGMENT (R137). -/
def execDisableSegment (f : RequestFrame) (s : State) : Host.Outcome State Fault Refusal :=
  .next (s.request f .disableSegment (parseByte f.payload) (answering disableSegmentBlock)).settle

/-! ### The line (R136, R138) -/

/-- The line of a segment is read at a level from this instant on. -/
def State.lineReads (s : State) (k : SegNo) (l : Level) : State :=
  s.modSegment k fun r => { r with line := l, lineSince := s.crystal }

/-- The part is sending a request on the segment, so that its line watch is suspended (R142). -/
def Segment.sending (k : Segment) : Bool :=
  match k.inFlight with
  | some t => t.phase = .request
  | none => false

/-- 20 ms of unbroken MARK have been read in CHECKING (R136). -/
def State.checkDue (s : State) (k : SegNo) : Bool :=
  (s.segment k).state = .checking && (s.segment k).line = .mark && decide ((s.segment k).lineSince + 20 ≤ s.crystal)

/-- A segment whose check has passed enters ACTIVE: its poll state is loaded and its members in UNKNOWN are queried
(R136, R151). -/
def State.passCheck (s : State) (k : SegNo) : State :=
  let s1 := s.enterSegment k .active .checkPassed
  let s2 := (s1.mappedTo k).foldl (fun t i => t.setPoll i (some (t.loadedPoll k))) s1
  (s2.mappedTo k).foldl (fun t i => if (t.member i).state = .unknown then t.enqueueQuery i else t) s2

/-- Takes CHECK_PASSED of a segment. -/
def execCheckPassed (k : SegNo) (s : State) : Host.Outcome State Fault Refusal :=
  .next (if s.checkDue k then (s.passCheck k).settle else s)

/-- Takes LINE_BREAK: the line of a CHECKING segment reads SPACE (R136). -/
def execLineBreak (k : SegNo) (s : State) : Host.Outcome State Fault Refusal :=
  .next
    (if (s.segment k).state = .checking ∧ (s.segment k).line = .mark then (s.lineReads k .space).settle else s)

/-- A segment whose line is watched for SPACE (R138). -/
def Segment.watched (k : Segment) : Bool := (k.state = .active || k.state = .closing) && !k.sending

/-- The line has read SPACE for more than 40 ms (R138). -/
def State.heldDue (s : State) (k : SegNo) : Bool :=
  (s.segment k).watched && (s.segment k).line = .space && decide ((s.segment k).lineSince + 40 < s.crystal)

/-- NO_REPLY is raised for a member of a segment that enters STUCK, unless it stands (R130, R138). -/
def State.raiseStuck (s : State) (i : Ix) : State :=
  if ((s.member i).faults.get .noReply).standing then s else s.raise i .noReply

/-- An ACTIVE segment goes STUCK: the transaction in flight ends, NO_REPLY is raised for its members, and its counters
stop (R138). -/
def State.goStuck (s : State) (k : SegNo) : State :=
  let s1 := (s.enterSegment k .stuck .lineHeld).modSegment k fun r =>
    { r with candidate := none, counters := { r.counters with stuck := count16 r.counters.stuck } }
  let s2 := s1.completeTxn k .stuckEnd
  let s3 := (s2.mappedTo k).foldl State.raiseStuck s2
  (s3.mappedTo k).foldl (fun t i => t.modPoll i (·.stopAt t.crystal)) s3

/-- Takes LINE_HELD of a segment. -/
def execLineHeld (k : SegNo) (s : State) : Host.Outcome State Fault Refusal :=
  .next
    (if s.heldDue k then
      (if (s.segment k).state = .active then s.goStuck k else s.completeTxn k .stuckEnd).settle
    else s)

/-- Takes LINE_RELEASED: the line of a STUCK segment reads MARK again (R138). -/
def execLineReleased (k : SegNo) (s : State) : Host.Outcome State Fault Refusal :=
  .next (if (s.segment k).state = .stuck then (s.startChecking k .lineReleased).settle else s)

/-- Takes LINE_READS_MARK (R136, R138). -/
def execLineReadsMark (k : SegNo) (s : State) : Host.Outcome State Fault Refusal :=
  .next
    (if ((s.segment k).state = .checking ∨ (s.segment k).watched = true) ∧ (s.segment k).line = .space then
      (s.lineReads k .mark).settle
    else s)

/-- Takes LINE_READS_SPACE (R138). -/
def execLineReadsSpace (k : SegNo) (s : State) : Host.Outcome State Fault Refusal :=
  .next
    (if (s.segment k).watched = true ∧ (s.segment k).line = .mark then (s.lineReads k .space).settle else s)

/-! ### The course of a transaction -/

/-- The turnaround of an ACTIVE segment has ended (R141). -/
def State.turnaroundDue (s : State) (k : SegNo) : Bool :=
  (s.segment k).state = .active && (s.segment k).inFlight.isNone
    && (s.segment k).candidate.any fun c => c.endsAt ≤ s.crystal

/-- Takes TURNAROUND_END of a segment (R141, R142). -/
def execTurnaroundEnd (k : SegNo) (s : State) : Host.Outcome State Fault Refusal :=
  .next
    (match (s.segment k).candidate with
     | some c => if s.turnaroundDue k then (s.recheck k c).settle else s
     | none => s)

/-- The phase of the transaction in flight on a segment is replaced. -/
def State.setPhase (s : State) (k : SegNo) (p : FieldPhase) : State :=
  s.modSegment k fun r => { r with inFlight := r.inFlight.map fun t => { t with phase := p } }

/-- Takes REQUEST_SENT: the reply window opens for RW ms and the line is watched again (R142). -/
def execRequestSent (k : SegNo) (s : State) : Host.Outcome State Fault Refusal :=
  .next
    (if (s.segment k).sending then
      ((s.setPhase k (.window (s.crystal + (vget s.stored.segParams k).rw) false [] s.crystal)).lineReads k .mark).settle
    else s)

/-- The extension of a window, in ms (R143). -/
def SegParams.extension (q : SegParams) : Nat := (q.ext + 1) * 16

/-- The open reply window of a segment: the transaction in flight with its close, whether a marker has moved it, the reply bytes
heard and the instant of the last (R142, R190). -/
structure Window where
  txn : InFlight
  closes : Nat
  waited : Bool
  heard : List Byte
  lastAt : Nat
  deriving DecidableEq, Repr

/-- The open window of a segment, if its transaction in flight has one. -/
def Segment.window (k : Segment) : Option Window :=
  match k.inFlight with
  | some t =>
      match t.phase with
      | .window closes waited heard lastAt => some ⟨t, closes, waited, heard, lastAt⟩
      | .request => none
  | none => none

/-- More than 2 ms have passed since the last byte of a reply frame that has begun (R144). -/
def Window.gap (w : Window) (now : Nat) : Bool := !w.heard.isEmpty && decide (w.lastAt + 2 < now)

/-- Bytes arrive in the open window of a segment, if it has one. A gap that has passed has ended the reply frame under way, and the
bytes that follow it belong to that reply (R144, R145): DESIGN CHOICE, log entry 17. -/
def State.inWindow (s : State) (k : SegNo) (bytesTaken : Window → State) : State :=
  match (s.segment k).window with
  | some w => if w.gap s.crystal then (s.completeTxn k .badReply).settle else bytesTaken w
  | none => s

/-- The reply bytes heard in a window are replaced; the last of them has arrived at this instant. -/
def State.setHeard (s : State) (k : SegNo) (w : Window) (reply : List Byte) : State :=
  s.setPhase k (.window w.closes w.waited reply s.crystal)

/-- The bytes belong to a reply frame under way, or are ignored (R190). -/
def State.listen (s : State) (k : SegNo) (w : Window) (bytes : List Byte) : State :=
  match hear w.heard bytes with
  | (.nothing, reply, _) => if reply = w.heard then s else (s.setHeard k w reply).settle
  | _ => s

/-- A WAIT marker arrives in a window before a reply has begun: the target's first one moves the close, one of another drop ends
the transaction (R143). -/
def State.takeMarker (s : State) (k : SegNo) (w : Window) (d : Drop) : State :=
  if d ≠ w.txn.drop then (s.completeTxn k .badReply).settle
  else if w.waited then s
  else (s.setPhase k (.window (s.crystal + (vget s.stored.segParams k).extension) true [] w.lastAt)).settle

/-- Takes WAIT_MARKER: a byte of the form of a marker is one before a reply frame has begun, and belongs to the reply frame
afterwards (R143, R190). -/
def execWaitMarker (k : SegNo) (bytes : List Byte) (s : State) : Host.Outcome State Fault Refusal :=
  .next
    (s.inWindow k fun w =>
      match hear w.heard bytes with
      | (.marker d, _, []) => s.takeMarker k w d
      | _ => s.listen k w bytes)

/-- What a reply frame received whole is for the transaction in flight (R144, R190). -/
def InFlight.judge (t : InFlight) (bytes : List Byte) : Completion :=
  match judgeReply t.drop t.body.kind bytes with
  | some r => .good r
  | none => .badReply

/-- Takes REPLY_FRAME_RECEIVED (R144). -/
def execReplyFrameReceived (k : SegNo) (bytes : List Byte) (s : State) : Host.Outcome State Fault Refusal :=
  .next
    (s.inWindow k fun w =>
      match hear w.heard bytes with
      | (.whole, reply, []) => (s.completeTxn k (w.txn.judge reply)).settle
      | _ => s.listen k w bytes)

/-- Takes REPLY_LENGTH_BAD (R144, R190). -/
def execReplyLengthBad (k : SegNo) (bytes : List Byte) (s : State) : Host.Outcome State Fault Refusal :=
  .next
    (s.inWindow k fun w =>
      match hear w.heard bytes with
      | (.lengthBad, _, []) => (s.completeTxn k .badReply).settle
      | _ => s.listen k w bytes)

/-- The gap of 2 ms in the reply frame under way on a segment has ended. -/
def State.replyGapDue (s : State) (k : SegNo) : Bool := (s.segment k).window.any (·.gap s.crystal)

/-- A gap that has passed has ended the reply frame under way on a segment (R144). -/
def State.endReplyGap (s : State) (k : SegNo) : State :=
  if s.replyGapDue k then (s.completeTxn k .badReply).settle else s

/-- Takes REPLY_GAP_TIMEOUT (R144). -/
def execReplyGapTimeout (k : SegNo) (s : State) : Host.Outcome State Fault Refusal := .next (s.endReplyGap k)

/-- The outcome of a window that closes without a whole reply (R144). -/
def windowOutcome (waited begun : Bool) : Completion :=
  if begun then .badReply else if waited then .waitTimeout else .noReply

/-- The window of a segment is due to close. -/
def State.windowDue (s : State) (k : SegNo) : Bool := (s.segment k).window.any fun w => decide (w.closes ≤ s.crystal)

/-- Takes REPLY_WINDOW_CLOSE; a reply has begun when the window holds a byte of it (R144). -/
def execReplyWindowClose (k : SegNo) (bytes : List Byte) (s : State) : Host.Outcome State Fault Refusal :=
  .next
    (s.inWindow k fun w =>
      match hear w.heard bytes with
      | (.nothing, reply, _) =>
          if w.closes ≤ s.crystal then (s.completeTxn k (windowOutcome w.waited (!reply.isEmpty))).settle
          else s.listen k w bytes
      | _ => s)

/-- A reply frame that begins while no window is open on a segment is counted (R145). -/
def State.countLate (s : State) (k : SegNo) : State :=
  if (s.segment k).state ≠ .off ∧ (s.segment k).window = none then
    (s.modSegment k fun r =>
      { r with counters := { r.counters with lateReply := count16 r.counters.lateReply } }).settle
  else s

/-- Takes LATE_REPLY, after a gap that has passed has ended the transaction; a segment in OFF is not watched (R145, Table 9-1). That no late reply is held under way, so that those of its
bytes that arrive once a window has opened are that window's, is a DESIGN CHOICE (log entry 46). -/
def execLateReply (k : SegNo) (s : State) : Host.Outcome State Fault Refusal := .next ((s.endReplyGap k).countLate k)

/-! ### Poll intervals (R152) -/

/-- The interval counter of an intersection is running and has reached 0. -/
def State.pollDue (s : State) (i : Ix) : Bool :=
  (s.poll i).any fun p =>
    match p.counter with
    | .running due => decide (due ≤ s.crystal)
    | .stopped _ => false

/-- Takes POLL_INTERVAL_EXPIRY: the counter is reloaded and one poll more is owed. -/
def execPollIntervalExpiry (i : Ix) (s : State) : Host.Outcome State Fault Refusal :=
  .next
    (match s.place i with
     | some pl =>
         if s.pollDue i then
           (s.modPoll i (·.expire (s.crystal + (vget s.stored.segParams pl.seg).poll * 1000))).settle
         else s
     | none => s)

/-! ### READ_SEGMENT (R149, R158) -/

/-- Phases in the order of R149. -/
def FieldPhase.code : FieldPhase → Nat
  | .request => 0
  | .window .. => 1

/-- Whether a WAIT marker has moved the window. -/
def FieldPhase.moved : FieldPhase → Bool
  | .request => false
  | .window _ waited _ _ => waited

/-- The transaction in flight: kind, target, phase, and whether its window has been moved (R149). -/
def InFlight.items (t : InFlight) : List Item :=
  [.n1 t.body.kind.code, .n1 t.target.val, .n1 t.phase.code, .n1 (boolCode t.phase.moved)]

/-- A queued transaction: kind, target, enqueue time, and for an ORDER its plan and Tm (R149). That plan and Tm stand under one
presence byte, absent for a QUERY, is a DESIGN CHOICE (log entry 14). -/
def Txn.items (t : Txn) : List Item :=
  [.n1 t.body.kind.code, .n1 t.target.val, .time t.enqueued]
    ++ optItem 6 (match t.body with | .order _ p => some p | .query => none) (fun p => [.n1 p.plan, .time p.tm])

/-- The counters in the order of Table 9-4. -/
def SegCounters.items (c : SegCounters) : List Item :=
  [.n2 c.sentPoll, .n2 c.sentOrder, .n2 c.sentQuery, .n2 c.good, .n2 c.noReply, .n2 c.badReply, .n2 c.waitTimeout,
    .n2 c.lateReply, .n2 c.stuckEnd, .n2 c.stuck, .n2 c.displaced]

/-- The remaining time of a running interval counter, in ms. -/
def Poll.remaining (p : Poll) (now : Nat) : Option Nat :=
  match p.counter with
  | .running due => some (due - now)
  | .stopped _ => none

/-- The poll state of a drop (R158). -/
def Poll.items (p : Poll) (now : Nat) : List Item :=
  [.n1 p.backlog, .n1 (boolCode p.overdue), .n1 p.urgency.code] ++ optItem 2 (p.remaining now) (fun t => [.n2 t])

/-- One drop of a segment: the intersection mapped to it with its poll state, or none (R158). That intersection and poll state
stand under one presence byte, so that an unmapped drop is seven zero bytes, is a DESIGN CHOICE (log entry 14). -/
def State.dropItems (s : State) (k : SegNo) (d : Drop) : List Item :=
  optItem 7 (s.atDrop k d) fun i => .n1 i.val :: ((s.poll i).getD stoppedPoll).items s.crystal

/-- What READ_SEGMENT carries (R149, R158). That a line which is not watched reads as last recorded, with the time since then, is a
DESIGN CHOICE (log entry 22), and so is one presence byte for the transaction in flight and one for the candidate (log entry 14). -/
def State.segmentItems (s : State) (k : SegNo) : List Item :=
  let r := s.segment k
  [.n1 r.state.code, .n1 (boolCode (vget s.stored.enables k))] ++ (vget s.stored.segParams k).items ++ [.n1 r.line.code]
    ++ optItem 2 (if r.line = .space then some (min 65535 (s.crystal - r.lineSince)) else none) (fun t => [.n2 t])
    ++ optItem 4 r.inFlight InFlight.items
    ++ optItem 2 (r.candidate.filter (s.candidateStands k)) (fun c => [.n1 c.kind.code, .n1 c.target.val])
    ++ listItem r.queue Txn.items ++ r.counters.items ++ allDrops.flatMap (s.dropItems k)

/-- READ_SEGMENT (R149). -/
def readSegmentBlock (n : Nat) (s : State) : State × Answer :=
  match inRange 4 n with
  | none => (s, plain .badArg)
  | some k => (s, (.ok, s.segmentItems k))

/-- READ_SEGMENT (R149). -/
def execReadSegment (f : RequestFrame) (s : State) : Host.Outcome State Fault Refusal :=
  .next (s.request f .readSegment (parseByte f.payload) (answering readSegmentBlock)).settle

end Sys2Proof.Machine
end

