-- ==== Sys2Proof/Machine/Startup.lean ====
section
/-! DEFINITION. Power-on (R4), the cabinet reset (R180, R185), the image load and the completion of start-up (R184). -/

namespace Sys2Proof.Machine

/-- TREF after a cabinet reset (Table 2-3); a LOCKED part becomes HOLDOVER, whose notice waits for start-up (R17). -/
def Tref.cabinetReset (t : Tref) (now : Nat) : Tref :=
  let st : TrefState := if t.state = .locked then .holdover else t.state
  { t with state := st, slew := 0, lastMark := none, timerStart := if st = .holdover then some now else none,
           accepted := 0, early := 0, rejected := 0,
           resetNoticeE := if t.state = .locked then some t.e else t.resetNoticeE }

/-- A cabinet reset: every block's live state takes its reset values; a mapped intersection has a stopped counter (R150); a COMMIT in flight is cut off, its image already not
good (R180, R183). -/
def State.cabinetReset (s : State) : State :=
  { s with
    tref := s.tref.cabinetReset s.crystalDs
    owed := []
    groups := Vector.replicate 16 Group.initial
    members := Vector.replicate 64 Member.initial
    segments := Vector.replicate 4 Segment.initial
    polls := s.stored.maps.map fun pl => pl.map fun _ => stoppedPoll
    ports := ⟨PortState.initial, PortState.initial, PortState.initial⟩
    cfs := { s.cfs with commit := none } }

/-- Start-up begins: its cause is recorded and the load starts (R184, R185). -/
def State.beginStartUp (s : State) (cause : StartCause) : State :=
  { s with phase := .loading s.crystal, cfs := { s.cfs with cause := cause } }

/-- POWER_ON: all live state takes its power-on values; the nonvolatile image and count cell keep theirs (R4, R184). -/
def State.poweredOn (s : State) : State :=
  let fresh := { State.reset with
    pending := s.pending, contactClosed := s.contactClosed, freeUses := s.freeUses
    cfs := { State.reset.cfs with image := s.cfs.image, countCell := s.cfs.countCell } }
  if s.contactClosed then { fresh with phase := .held .powerOn } else fresh

/-- Takes POWER_ON. -/
def execPowerOn (s : State) : Host.Outcome State Fault Refusal := .next s.poweredOn

/-- Takes RESET_LINE_CLOSE: a cabinet reset is taken and the part stays in reset while the contact is closed (R185). -/
def execResetLineClose (s : State) : Host.Outcome State Fault Refusal :=
  .next (if s.contactClosed then s else { s.cabinetReset with contactClosed := true, phase := .held .resetLine })

/-- The contact opens: start-up begins when the part was held in reset by it (R185). -/
def State.openContact (s : State) : State :=
  let s1 := { s with contactClosed := false }
  match s.phase with
  | .held cause => s1.beginStartUp cause
  | _ => s1

/-- Takes RESET_LINE_OPEN. -/
def execResetLineOpen (s : State) : Host.Outcome State Fault Refusal :=
  .next (if s.contactClosed then s.openContact else s)

/-! ### The load and the completion of start-up (R184) -/

/-- The classes of an image (R181). -/
inductive ImageClass where
  | good | blank | bad
  deriving DecidableEq, Repr

/-- The class of the image: good when the CRC of its bytes is the CRC it carries, blank when every byte and the CRC hold all
ones, bad otherwise (R181). -/
def Image.cls : Image → ImageClass
  | .erased => .blank
  | .held bytes crc _ =>
      if crc16 bytes = crc then .good else if (bytes.all (· = 0xFF#8)) && crc = 0xFFFF#16 then .blank else .bad

/-- The items of Table 13-1 that the bytes of an image stand for. -/
def Image.tables : Image → Stored
  | .erased => Stored.empty
  | .held _ _ t => t

/-- The tables a start-up loads from an image of each class. -/
def Image.loaded (g : Image) : Stored :=
  match g.cls with
  | .good => g.tables
  | .bad => Stored.empty
  | .blank => Stored.empty

/-- The store status of each class. -/
def ImageClass.status : ImageClass → StoreStatus
  | .good => .good
  | .bad => .storeBad
  | .blank => .storeBad

/-- The load result of each class. -/
def ImageClass.result : ImageClass → LoadResult
  | .good => .good
  | .bad => .badCrc
  | .blank => .blank

/-- The image is loaded; every mapped intersection has a stopped counter (R150, R184). -/
def State.load (s : State) : State :=
  let t := s.cfs.image.loaded
  { s with
    stored := t
    polls := t.maps.map fun pl => pl.map fun _ => stoppedPoll
    cfs := { s.cfs with status := s.cfs.image.cls.status, loadResult := s.cfs.image.cls.result } }

/-- The ports are opened, and the minute boundaries raised before completion are dropped (R184). -/
def State.openPorts (s : State) : State :=
  { s with phase := .running, cfs := { s.cfs with causeE := s.tref.e },
           tref := { s.tref with minuteOwed := false, resetNoticeE := none } }

/-- Step 2 of the completion: the TIME_STATE notice of a cabinet reset that turned LOCKED into HOLDOVER (R17). -/
def State.offerReset (s : State) (at_ : Option Nat) : State :=
  match at_ with
  | some e => s.offerAt e (.timeState .holdover .locked .reset)
  | none => s

/-- Step 3 of the completion for one segment: an enabled one enters CHECKING and its members go to UNKNOWN (R139). -/
def State.startSegment (s : State) (k : SegNo) : State :=
  if vget s.stored.enables k then (s.startChecking k .start).membersUnknown k else s

/-- The end of the load: the tables are built, the ports opened, the notice of the reset offered, the timers judged against
the limits the load brings (R8), the enabled segments started, and all groups evaluated (R57). -/
def State.completeStartUp (s : State) : State :=
  let s1 := (s.load.openPorts.offerReset s.tref.resetNoticeE).judgeTimers
  (allSegs.foldl State.startSegment s1).evaluate everyGroup

/-- Takes START_UP_COMPLETE. -/
def execStartUpComplete (s : State) : Host.Outcome State Fault Refusal :=
  .next
    (match s.phase with
     | .loading _ => s.completeStartUp.settle
     | _ => s)

end Sys2Proof.Machine
end

