-- ==== Sys2Proof/Machine/PortCommands.lean ====
section
/-! DEFINITION. The ports and the configuration store: SET_NOTICE_MASK (R178), READ_PORTS (R179), COMMIT and its end (R182),
READ_STORE (R186), RESET (R185), the frames a port discards (R170, R171) and the end of a transmission (R172, R173). -/

namespace Sys2Proof.Machine

/-! ### SET_NOTICE_MASK and READ_PORTS -/

/-- A notice mask as two bytes, kind 1 in the least significant bit (Table 14-3). -/
def NoticeMask.code (m : NoticeMask) : Nat :=
  boolCode m.timeState + 2 * boolCode m.switchStarted + 4 * boolCode m.groupSteady + 8 * boolCode m.entryExpired
    + 16 * boolCode m.holdEnded + 32 * boolCode m.fault + 64 * boolCode m.alertChange + 128 * boolCode m.segmentState
    + 256 * boolCode m.storeDone

/-- SET_NOTICE_MASK at a port (R178). -/
def setNoticeMaskBlock (p : Port) (m : NoticeMask) (s : State) : State × Answer :=
  (s.modPort p fun q => { q with mask := m }, (.ok, [.n2 m.code, .n1 (s.port p).queue.length]))

/-- SET_NOTICE_MASK (R178). -/
def execSetNoticeMask (f : RequestFrame) (s : State) : Host.Outcome State Fault Refusal :=
  .next (s.request f .setNoticeMask (parseNoticeMask f.payload) (answering (setNoticeMaskBlock f.port))).settle

/-- The counters in the order of R179. -/
def PortCounters.items (c : PortCounters) : List Item :=
  [.n2 c.request, .n2 c.frameError, .n2 c.busy, .n2 c.overrun, .n2 c.denied, .n2 c.lost, .n2 c.notice]

/-- What READ_PORTS carries of one port (R179). -/
def portItems (p : Port) (q : PortState) : List Item :=
  [.n1 (roleCode p), .n1 (boolCode q.service.isSome)] ++ optItem 1 q.service (fun v => [.n1 v.request.code])
    ++ [.n2 q.mask.code, .n1 q.queue.length, .n1 (boolCode q.lost)] ++ q.counters.items

/-- READ_PORTS (R179). -/
def readPortsBlock (_ : Unit) (s : State) : State × Answer :=
  (s, (.ok, portItems .centre s.ports.centre ++ portItems .event s.ports.event ++ portItems .cabinet s.ports.cabinet))

/-- READ_PORTS (R179). -/
def execReadPorts (f : RequestFrame) (s : State) : Host.Outcome State Fault Refusal :=
  .next (s.request f .readPorts (parseNothing f.payload) (answering readPortsBlock)).settle

/-! ### COMMIT (R182, R183) -/

/-- The commit count as it is read from its cell: a blank cell is 0, and a cell above 100,000 is 100,000 (R184). -/
def Cfs.count (c : Cfs) : Nat :=
  match c.countCell with
  | none => 0
  | some n => min n Config.commitLimit

/-- The bytes that a write of the image leaves: free values. -/
def freeImageBytes (n : Nat) : List Byte := (List.range Config.imageSize).map (Config.imageByte n)

/-- The CRC that a partly written image carries: a free value that is neither the CRC of its bytes nor all ones (R181, R183). -/
def partlyCrc (n : Nat) (bytes : List Byte) : BitVec 16 :=
  let v := BitVec.ofNat 16 (Config.choice n)
  if v ≠ crc16 bytes ∧ v ≠ 0xFFFF#16 then v else if crc16 bytes = 0#16 then 1#16 else 0#16

/-- The image while a write goes on (R183). -/
def Image.partly (n : Nat) (t : Stored) : Image := .held (freeImageBytes n) (partlyCrc n (freeImageBytes n)) t

/-- The image once a write of tables has ended: it carries the CRC of its bytes (R181, R182). -/
def Image.written (n : Nat) (t : Stored) : Image := .held (freeImageBytes n) (crc16 (freeImageBytes n)) t

/-- COMMIT from a port: the snapshot is taken and its writing begins, and from that instant the image is not good; the
outcome comes when the write ends (R182, R183). -/
def commitBlock (p : Port) (_ : Unit) (s : State) : State × Option Answer :=
  if s.cfs.commit.isSome then (s, some (plain .storeBusy))
  else if Config.commitLimit ≤ s.cfs.count then (s, some (plain .storeWorn))
  else
    ({ s with freeUses := s.freeUses + 1
              cfs := { s.cfs with image := Image.partly s.freeUses s.stored, commit := some ⟨s.stored, p, s.crystal⟩ } },
      none)

/-- COMMIT (R182). -/
def execCommit (f : RequestFrame) (s : State) : Host.Outcome State Fault Refusal :=
  .next (s.request f .commit (parseNothing f.payload) (commitBlock f.port)).settle

/-- The write of the image ends (R182). -/
def State.endCommit (s : State) (c : CommitInFlight) : State :=
  let n := s.cfs.count + 1
  let s1 := { s with
    freeUses := s.freeUses + 1
    cfs := { s.cfs with
      image := Image.written s.freeUses c.snapshot, countCell := some n, status := .good, commit := none } }
  (s1.modPort c.port (·.giveReply (.ok, [.n4 n]))).offer (.storeDone n c.port)

/-- Takes COMMIT_WRITE_END. -/
def execCommitWriteEnd (s : State) : Host.Outcome State Fault Refusal :=
  .next
    (match s.cfs.commit with
     | some c => (s.endCommit c).settle
     | none => s)

/-- What READ_STORE carries (R186). That the committing role and the time since the snapshot stand under one presence byte is a
DESIGN CHOICE (log entry 14). -/
def State.storeItems (s : State) : List Item :=
  [.n4 s.cfs.count, .n1 s.cfs.status.code, .n1 s.cfs.loadResult.code, .n1 (boolCode s.cfs.commit.isSome)]
    ++ optItem 3 s.cfs.commit (fun c => [.n1 (roleCode c.port), .n2 (s.crystal - c.since)])
    ++ [.n1 s.cfs.cause.code, .time s.cfs.causeE]

/-- READ_STORE (R186). -/
def readStoreBlock (_ : Unit) (s : State) : State × Answer := (s, (.ok, s.storeItems))

/-- READ_STORE (R186). -/
def execReadStore (f : RequestFrame) (s : State) : Host.Outcome State Fault Refusal :=
  .next (s.request f .readStore (parseNothing f.payload) (answering readStoreBlock)).settle

/-! ### RESET (R185) -/

/-- The RESET request is answered with its start cause and E; the reset is taken when the reply has been sent (R185). -/
def resetBlock (_ : Unit) (s : State) : State × Answer :=
  (s, (.ok, [.n1 StartCause.resetRequest.code, .time s.tref.e]))

/-- RESET (R185). -/
def execReset (f : RequestFrame) (s : State) : Host.Outcome State Fault Refusal :=
  .next (s.request f .reset (parseNothing f.payload) (answering resetBlock)).settle

/-- The Cabinet port is sending the reply to a RESET request. -/
def State.resetReplyLeaving (s : State) : Bool :=
  (s.ports.cabinet.service.any fun v => v.request = .reset)
    && (match s.ports.cabinet.tx with
        | some (.served _) => true
        | _ => false)

/-- The cabinet reset of a RESET request, and start-up at once (R185). -/
def State.requestedReset (s : State) : State := s.cabinetReset.beginStartUp .resetRequest

/-- Takes RESET_REQUEST_TAKEN. -/
def execResetRequestTaken (s : State) : Host.Outcome State Fault Refusal :=
  .next (if s.resetReplyLeaving then s.requestedReset else s)

/-! ### Frames (R170, R171) -/

/-- A good frame of an unknown request code at a port (Table 12-1, orders 1 to 3). -/
def State.unknownCode (s : State) (f : RequestFrame) (code : Byte) : State :=
  let s1 := s.modPort f.port (·.takeFrame s.crystal)
  if s1.phase ≠ .running ∨ (s1.port f.port).service.isSome = true then
    s1.modPort f.port (·.refuseBusy f.tag code.toNat)
  else s1.modPort f.port (·.joinBusy ⟨f.tag, code.toNat, .badArg, []⟩)

/-- Takes UNKNOWN_REQUEST_CODE. -/
def execUnknownRequestCode (f : RequestFrame) (code : Byte) (s : State) : Host.Outcome State Fault Refusal :=
  .next (if knownCode code.toNat then s else (s.unknownCode f code).settle)

/-- The frame under way at a port once further bytes have arrived: they belong to the frame that the port is receiving, and a
hunting port takes them from the frame start on (R170). -/
def PortState.frameSoFar (q : PortState) (bytes : List Byte) : List Byte :=
  match q.rx with
  | .hunting => freshFrame bytes
  | .receiving held _ => held ++ bytes

/-- The verdict on the frame under way at a port once further bytes have arrived (R170). -/
def PortState.judge (q : PortState) (bytes : List Byte) : FrameVerdict := judgeFrame (q.frameSoFar bytes)

/-- A gap that has passed at a port is ended before further bytes are judged (R170). -/
def State.endGap (s : State) (p : Port) : State := s.modPort p (·.endGap s.crystal)

/-- The bytes at a port that end a frame discarded are counted, and bytes that leave a frame incomplete stand received (R170). -/
def State.discardBytes (s : State) (p : Port) (bytes : List Byte) : State :=
  let v := (s.port p).judge bytes
  if v.discarded then s.modPort p (·.frameError .hunting)
  else if v = .partly ∧ bytes ≠ [] then s.modPort p fun q => { q with rx := .receiving (q.frameSoFar bytes) s.crystal }
  else s

/-- Takes FRAME_DISCARDED (R170). That bytes told after a passed gap begin afresh is a DESIGN CHOICE (log entry 17). -/
def execFrameDiscarded (p : Port) (bytes : List Byte) (s : State) : Host.Outcome State Fault Refusal :=
  .next ((s.endGap p).discardBytes p bytes).settle

/-- The receive state after a gap: hunting, with the bytes that have arrived since judged afresh (R170). -/
def afterGap (after : List Byte) (now : Nat) : RxState :=
  if judgeFrame (freshFrame after) = .partly then .receiving (freshFrame after) now else .hunting

/-- The gap of 5 ms in the frame that a port is receiving has ended (R170). -/
def State.gapDue (s : State) (p : Port) : Bool := (s.port p).rx.gap s.crystal

/-- A gap follows the bytes told, in the frame that they continue or begin; bytes that leave no frame under way are followed by
none (R170). -/
def State.gapAfter (s : State) (p : Port) (bytes after : List Byte) : State :=
  if (s.port p).judge bytes = .partly then s.modPort p (·.frameError (afterGap after s.crystal)) else s

/-- Takes FRAME_GAP_TIMEOUT: the part of a frame received so far is discarded (R170). The gap follows the bytes told with the
command; without any, it follows the last byte that the port holds. -/
def execFrameGapTimeout (p : Port) (bytes after : List Byte) (s : State) : Host.Outcome State Fault Refusal :=
  .next
    (if bytes = [] then
      if s.gapDue p then (s.modPort p (·.frameError (afterGap after s.crystal))).settle else s
    else ((s.endGap p).gapAfter p bytes after).settle)

/-! ### The transmitter (R172, R173) -/

/-- The last byte of a port's frame has been sent: a port whose served reply it was returns to IDLE. -/
def PortState.sent (q : PortState) : PortState :=
  match q.tx with
  | some (.served _) => { q with service := none, tx := none }
  | some _ => { q with tx := none }
  | none => q

/-- Takes TRANSMIT_END of a port; the end of a RESET reply takes the cabinet reset (R173, R185). -/
def execTransmitEnd (p : Port) (s : State) : Host.Outcome State Fault Refusal :=
  .next
    (if (s.port p).tx.isNone then s
    else if p = .cabinet ∧ s.resetReplyLeaving = true then s.requestedReset
    else (s.modPort p PortState.sent).settle)

end Sys2Proof.Machine
end

