-- ==== Sys2Proof/Machine/Clock.lean ====
section
/-! DEFINITION. What the part does while no command waits: an event of its own that is due is taken as the next command, and
otherwise 1 ms of crystal time passes (R1, R3). -/

namespace Sys2Proof.Machine

/-- An event as a list, when it is due. -/
def dueIf (b : Bool) (i : Instr) : List Instr := if b then [i] else []

/-- The write of the image has reached its longest time (R182). -/
def State.commitDue (s : State) : Bool := s.cfs.commit.any fun c => decide (c.since + Config.commitMs ≤ s.crystal)

/-- The load has reached its longest time (R184). -/
def State.loadDue (s : State) : Bool :=
  match s.phase with
  | .loading since => decide (since + Config.loadMs ≤ s.crystal)
  | _ => false

/-- The part's own events that are due at this instant; the spec lets those of one instant be taken in either order. -/
def State.dueEvents (s : State) : List Instr :=
  dueIf s.tref.minuteOwed .minuteBoundary
    ++ dueIf s.due2P .timer2pExpiry ++ dueIf s.dueH .timerHExpiry
    ++ (List.range s.owed.length).map .evaluation
    ++ allGroups.flatMap (fun g => dueIf (s.tsDue g) (.tsReached g))
    ++ allIx.flatMap (fun i => dueIf (s.tmDue i) (.tmReached i))
    ++ allSegs.flatMap (fun k => dueIf (s.checkDue k) (.checkPassed k) ++ dueIf (s.heldDue k) (.lineHeld k)
        ++ dueIf (s.turnaroundDue k) (.turnaroundEnd k) ++ dueIf (s.replyGapDue k) (.replyGapTimeout k)
        ++ dueIf (s.windowDue k) (.replyWindowClose k []))
    ++ allIx.flatMap (fun i => dueIf ((s.place i).isSome && s.pollDue i) (.pollIntervalExpiry i))
    ++ ([.centre, .event, .cabinet] : List Port).flatMap (fun p => dueIf (s.gapDue p) (.frameGapTimeout p [] []))
    ++ dueIf s.commitDue .commitWriteEnd ++ dueIf s.loadDue .startUpComplete

/-- The event taken first among those due at one instant: a free choice when there are several. -/
def pickEvent (l : List Instr) (n : Nat) : Option Instr :=
  match l with
  | [] => none
  | [a] => some a
  | a :: rest => (a :: rest)[Config.choice n % (rest.length + 1)]?

/-- 1 ms of crystal time passes; each 100 ms E advances by 1 (R1). -/
def State.tick (s : State) : State :=
  if s.dsEnds then { s with crystal := s.crystal + 1, tref := s.tref.advance 1 } else { s with crystal := s.crystal + 1 }

/-- What the part does on an empty queue (log entries 1 and 2). -/
def State.idle (s : State) : State :=
  match pickEvent s.dueEvents s.freeUses with
  | some ev => { s with pending := [ev], freeUses := s.freeUses + 1 }
  | none =>
      if s.slewDue then { s with pending := [.slewAdjustment] }
      else if s.countEndDue then { s with pending := [.epochCountEnd] }
      else s.tick

end Sys2Proof.Machine
end

