-- ==== Sys2Proof/Machine/FaultCommands.lean ====
section
/-! DEFINITION. The fault policy requests: SET_POLICY (R165), CLEAR_FAULTS (R166, R167, R89) and READ_FAULTS (R168). -/

namespace Sys2Proof.Machine

/-- SET_POLICY (R165). -/
def setPolicyBlock (a : SetPolicyArgs) (s : State) : State × Answer :=
  unlessCommitting s <|
    match FaultClass.ofCode a.cls, Policy.ofCode a.policy, Scope.ofCode a.scope with
    | some c, some p, some sc =>
        ({ s with stored := { s.stored with policies := s.stored.policies.set c ⟨p, sc⟩ } },
          (.ok, [.n1 p.code, .n1 sc.code]))
    | _, _, _ => (s, plain .badArg)

/-- SET_POLICY (R165). -/
def execSetPolicy (f : RequestFrame) (s : State) : Host.Outcome State Fault Refusal :=
  .next (s.request f .setPolicy (parseSetPolicy f.payload) (answering setPolicyBlock)).settle

/-! ### CLEAR_FAULTS -/

/-- MANUAL and FLASH made not standing, with their counters 0 (Table 11-3). -/
def Member.clearModeAlerts (m : Member) : Member :=
  { m with alerts := { m.alerts with manual := ⟨false, 0⟩, flash := ⟨false, 0⟩ } }

/-- The end of the condition of a class whose latched flag is cleared (R167, Table 11-3). That the no-reply count, or MANUAL and FLASH
with their counters, are cleared with the latched flag whether or not a condition of the class still stands: DEDUCED, log entry 49. -/
def State.endLatched (s : State) (i : Ix) (c : FaultClass) : State :=
  let s1 := s.modMember i fun m =>
    let m1 := m.clearCond c
    { m1 with faults := m1.faults.set c { m1.faults.get c with latched := false } }
  match c with
  | .noReply => s1.modMember i fun m => { m with noReplies := 0 }
  | .alert =>
      let prev := (s.member i).alertSet
      let s2 := s1.modMember i Member.clearModeAlerts
      let new := (s2.member i).alertSet
      if new = prev then s2 else s2.offer (.alertChange i new prev)
  | _ => s1

/-- A class of a member is cleared when its latched flag is set. -/
def State.clearClass (i : Ix) (s : State) (c : FaultClass) : State :=
  if ((s.member i).faults.get c).latched then s.endLatched i c else s

/-- One member is cleared: its latched flags and their conditions, then its placing when it is LATCHED (R166, R167). -/
def State.clearMember (s : State) (i : Ix) : State :=
  if (s.member i).anyLatched then
    let s1 := allClasses.foldl (State.clearClass i) s
    if (s1.member i).state = .latched then
      if (s1.member i).anyRecovering then s1.enter i .excluded else s1.readmit i false
    else s1
  else s

/-- A SUSPENDED group goes to FREE and is evaluated (R89). -/
def State.resume (s : State) (g : GroupNo) : State :=
  (s.setGroup g { s.group g with state := .free, suspension := none }).evaluate (oneGroup g)

/-- The state while members and groups are cleared, the number of members cleared and the groups resumed, newest first. -/
structure Clearing where
  s : State
  members : Nat
  groups : List GroupNo
  deriving DecidableEq, Repr

/-- One member of a clear. -/
def Clearing.member (c : Clearing) (i : Ix) : Clearing :=
  { c with s := c.s.clearMember i, members := c.members + (if (c.s.member i).anyLatched then 1 else 0) }

/-- One group of a clear: its members in ascending order, then the group itself (R166). -/
def Clearing.group (c : Clearing) (g : GroupNo) : Clearing :=
  let c1 := (c.s.membersOf g).foldl Clearing.member c
  if (c1.s.group g).state = .suspended then { c1 with s := c1.s.resume g, groups := g :: c1.groups } else c1

/-- What a target of CLEAR_FAULTS clears, in the order of R166; none when the target is out of range. That the number of the target
ALL is disregarded is a DESIGN CHOICE (log entry 40). -/
def clearTarget (a : ClearFaultsArgs) (s : State) : Option Clearing :=
  let c : Clearing := ⟨s, 0, []⟩
  match a.kind with
  | 0 => (inRange 64 a.number).map c.member
  | 1 => (inRange 16 a.number).map c.group
  | 2 => some ((allIx.filter fun i => s.groupOf i = none).foldl Clearing.member (allGroups.foldl Clearing.group c))
  | _ => none

/-- CLEAR_FAULTS (R166). -/
def clearFaultsBlock (a : ClearFaultsArgs) (s : State) : State × Answer :=
  match clearTarget a s with
  | none => (s, plain .badArg)
  | some c => (c.s, (.ok, .n1 c.members :: listItem c.groups.reverse fun g => [.n1 g.val]))

/-- CLEAR_FAULTS (R166). -/
def execClearFaults (f : RequestFrame) (s : State) : Host.Outcome State Fault Refusal :=
  .next (s.request f .clearFaults (parseClearFaults f.payload) (answering clearFaultsBlock)).settle

/-! ### READ_FAULTS -/

/-- The number of members for which a class satisfies a test. -/
def State.countFaults (s : State) (c : FaultClass) (p : FaultEntry → Bool) : Nat :=
  (allIx.filter fun i => p ((s.member i).faults.get c)).length

/-- What READ_FAULTS carries without a number (R168). That the suspension records go as a counted list, the group number before
each, is a DESIGN CHOICE (log entry 14). -/
def State.faultSummary (s : State) : List Item :=
  allClasses.flatMap (fun c => [.n1 (s.stored.policies.get c).policy.code, .n1 (s.stored.policies.get c).scope.code])
    ++ listItem (allGroups.filterMap fun g => (s.group g).suspension.map fun x => (g, x))
        (fun x => .n1 x.1.val :: x.2.items)
    ++ allClasses.flatMap fun c => [.n1 (s.countFaults c (·.standing)), .n1 (s.countFaults c (·.latched))]

/-- One class of a member's fault record (R168). -/
def Member.classItems (m : Member) (c : FaultClass) : List Item :=
  let x := m.faults.get c
  [.n1 (boolCode x.standing), .n1 (boolCode x.latched), .n1 x.count] ++ optItem 1 x.applied (fun p => [.n1 p.code])
    ++ (if c = .orderMissed then
          optItem 1 m.missCause (fun q => [.n1 q.code]) ++ optItem 1 m.missReason (fun r => [.n1 r])
        else [])

/-- What READ_FAULTS carries with a number (R168). -/
def State.faultItems (s : State) (i : Ix) : List Item :=
  .n1 (s.member i).state.code :: optItem 1 (s.groupOf i) (fun g => [.n1 g.val])
    ++ allClasses.flatMap (s.member i).classItems

/-- READ_FAULTS (R168). -/
def readFaultsBlock (n : Option Nat) (s : State) : State × Answer :=
  match n with
  | none => (s, (.ok, s.faultSummary))
  | some k =>
      match inRange 64 k with
      | none => (s, plain .badArg)
      | some i => (s, (.ok, s.faultItems i))

/-- READ_FAULTS (R168). -/
def execReadFaults (f : RequestFrame) (s : State) : Host.Outcome State Fault Refusal :=
  .next (s.request f .readFaults (parseReadFaults f.payload) (answering readFaultsBlock)).settle

end Sys2Proof.Machine
end

