-- ==== Sys2Proof/Machine/Dispatch.lean ====
section
/-! DEFINITION. One arm for each command, in the order of the opcode table. -/

namespace Sys2Proof.Machine

/-- The meaning of a command: its effect on everything but the queue. -/
def exec (i : Instr) (s : State) : Host.Outcome State Fault Refusal :=
  match i with
  | .powerOn => Sys2Proof.Machine.execPowerOn s
  | .resetLineClose => Sys2Proof.Machine.execResetLineClose s
  | .resetLineOpen => Sys2Proof.Machine.execResetLineOpen s
  | .startUpComplete => Sys2Proof.Machine.execStartUpComplete s
  | .minuteBoundary => Sys2Proof.Machine.execMinuteBoundary s
  | .slewAdjustment => Sys2Proof.Machine.execSlewAdjustment s
  | .timer2pExpiry => Sys2Proof.Machine.execTimer2pExpiry s
  | .timerHExpiry => Sys2Proof.Machine.execTimerHExpiry s
  | .mark f => Sys2Proof.Machine.execMark f s
  | .setTime f => Sys2Proof.Machine.execSetTime f s
  | .readTime f => Sys2Proof.Machine.execReadTime f s
  | .writePlan f => Sys2Proof.Machine.execWritePlan f s
  | .deletePlan f => Sys2Proof.Machine.execDeletePlan f s
  | .readPlan f => Sys2Proof.Machine.execReadPlan f s
  | .writeOffset f => Sys2Proof.Machine.execWriteOffset f s
  | .readOffset f => Sys2Proof.Machine.execReadOffset f s
  | .writeParams f => Sys2Proof.Machine.execWriteParams f s
  | .readParams f => Sys2Proof.Machine.execReadParams f s
  | .setEventGroups f => Sys2Proof.Machine.execSetEventGroups f s
  | .addEntry f => Sys2Proof.Machine.execAddEntry f s
  | .removeEntry f => Sys2Proof.Machine.execRemoveEntry f s
  | .readEntry f => Sys2Proof.Machine.execReadEntry f s
  | .listEntries f => Sys2Proof.Machine.execListEntries f s
  | .evaluation k => Sys2Proof.Machine.execEvaluation k s
  | .placeHold f => Sys2Proof.Machine.execPlaceHold f s
  | .releaseHold f => Sys2Proof.Machine.execReleaseHold f s
  | .setMembers f => Sys2Proof.Machine.execSetMembers f s
  | .readGroup f => Sys2Proof.Machine.execReadGroup f s
  | .tsReached g => Sys2Proof.Machine.execTsReached g s
  | .tmReached j => Sys2Proof.Machine.execTmReached j s
  | .setMap f => Sys2Proof.Machine.execSetMap f s
  | .requery f => Sys2Proof.Machine.execRequery f s
  | .readIntersection f => Sys2Proof.Machine.execReadIntersection f s
  | .enableSegment f => Sys2Proof.Machine.execEnableSegment f s
  | .disableSegment f => Sys2Proof.Machine.execDisableSegment f s
  | .checkPassed k => Sys2Proof.Machine.execCheckPassed k s
  | .lineBreak k => Sys2Proof.Machine.execLineBreak k s
  | .lineHeld k => Sys2Proof.Machine.execLineHeld k s
  | .lineReleased k => Sys2Proof.Machine.execLineReleased k s
  | .turnaroundEnd k => Sys2Proof.Machine.execTurnaroundEnd k s
  | .requestSent k => Sys2Proof.Machine.execRequestSent k s
  | .waitMarker k bytes => Sys2Proof.Machine.execWaitMarker k bytes s
  | .replyFrameReceived k bytes => Sys2Proof.Machine.execReplyFrameReceived k bytes s
  | .replyLengthBad k bytes => Sys2Proof.Machine.execReplyLengthBad k bytes s
  | .replyGapTimeout k => Sys2Proof.Machine.execReplyGapTimeout k s
  | .replyWindowClose k bytes => Sys2Proof.Machine.execReplyWindowClose k bytes s
  | .lateReply k => Sys2Proof.Machine.execLateReply k s
  | .pollIntervalExpiry j => Sys2Proof.Machine.execPollIntervalExpiry j s
  | .writeSegmentParams f => Sys2Proof.Machine.execWriteSegmentParams f s
  | .readSegment f => Sys2Proof.Machine.execReadSegment f s
  | .setPolicy f => Sys2Proof.Machine.execSetPolicy f s
  | .clearFaults f => Sys2Proof.Machine.execClearFaults f s
  | .readFaults f => Sys2Proof.Machine.execReadFaults f s
  | .setNoticeMask f => Sys2Proof.Machine.execSetNoticeMask f s
  | .readPorts f => Sys2Proof.Machine.execReadPorts f s
  | .commit f => Sys2Proof.Machine.execCommit f s
  | .commitWriteEnd => Sys2Proof.Machine.execCommitWriteEnd s
  | .readStore f => Sys2Proof.Machine.execReadStore f s
  | .reset f => Sys2Proof.Machine.execReset f s
  | .resetRequestTaken => Sys2Proof.Machine.execResetRequestTaken s
  | .unknownRequestCode f code => Sys2Proof.Machine.execUnknownRequestCode f code s
  | .frameDiscarded p bytes => Sys2Proof.Machine.execFrameDiscarded p bytes s
  | .frameGapTimeout p bytes after => Sys2Proof.Machine.execFrameGapTimeout p bytes after s
  | .transmitEnd p => Sys2Proof.Machine.execTransmitEnd p s
  | .lineReadsMark k => Sys2Proof.Machine.execLineReadsMark k s
  | .lineReadsSpace k => Sys2Proof.Machine.execLineReadsSpace k s
  | .epochCountEnd => Sys2Proof.Machine.execEpochCountEnd s

end Sys2Proof.Machine
end

