-- ==== Sys2Proof/Safety.lean ====
section
/-! DEFINITION. What the spec promises of every state the part can be in, as properties of one state, and the words in which
the statements speak of a request and its reply. -/

namespace Sys2Proof.Machine

/-! ### Network time (R1, R4) -/

/-- E stands on its scale and the slew remaining within its range (R1, R4). -/
def State.ClockInRange (s : State) : Prop := s.tref.e ≤ Config.lastE ∧ -20 ≤ s.tref.slew ∧ s.tref.slew ≤ 20

/-! ### Stored configuration -/

/-- Each part-scope parameter is within its range of Table 1-5 (R29). -/
def Params.InRange (q : Params) : Prop :=
  (60 ≤ q.markPeriod ∧ q.markPeriod ≤ 3600) ∧ (1 ≤ q.holdover ∧ q.holdover ≤ 24) ∧ (10 ≤ q.lead ∧ q.lead ≤ 120)
    ∧ q.lpct ≤ 30 ∧ q.spct ≤ 25 ∧ (1 ≤ q.tol ∧ q.tol ≤ 20) ∧ q.grace ≤ 7 ∧ (1 ≤ q.deglitch ∧ q.deglitch ≤ 4)

/-- Each parameter of a segment is within its range of Table 1-5 (R29). -/
def SegParams.InRange (q : SegParams) : Prop :=
  (1 ≤ q.poll ∧ q.poll ≤ 10) ∧ (1 ≤ q.ta ∧ q.ta ≤ 8) ∧ (10 ≤ q.rw ∧ q.rw ≤ 40) ∧ q.ext ≤ 15

/-- All parameters are in range (R29). -/
def Stored.ParamsInRange (t : Stored) : Prop := t.params.InRange ∧ ∀ k : SegNo, (vget t.segParams k).InRange

/-- The fields of a plan record are within their ranges (R18). -/
def Plan.InRange (p : Plan) : Prop :=
  (300 ≤ p.cycle ∧ p.cycle ≤ 3000 ∧ p.cycle % 10 = 0) ∧ 1 ≤ p.pattern ∧ p.pattern ≤ 32

/-- Every plan record is in range, every offset lies below the cycle of its plan, and the offsets of an undefined plan are
0 (R18, R25). -/
def Stored.OffsetsBelowCycle (t : Stored) : Prop :=
  ∀ j : Fin 48,
    match vget t.plans j with
    | some p => p.InRange ∧ ∀ i : Ix, vget (vget t.offsets j) i < p.cycle
    | none => ∀ i : Ix, vget (vget t.offsets j) i = 0

/-- No two intersections are mapped to one drop (R117). -/
def Stored.MapsUnique (t : Stored) : Prop :=
  ∀ i j : Ix, ∀ pl : Place, vget t.maps i = some pl → vget t.maps j = some pl → i = j

/-- No dated entry's end lies at or before its start (R38). -/
def Entry.EndsAfterStart (x : Entry) : Prop :=
  match x.kind with
  | .dated day (some m) => startInstant day x.startMinute < m.instant
  | _ => True

/-- Each list holds its own kind in the order of its key; at most 256 entries stand, with distinct ids; and no dated entry's
end lies at or before its start (R38). -/
def Stored.TimetableInOrder (t : Stored) : Prop :=
  (t.recurring.Pairwise fun a b => a.before b = true) ∧ (t.dated.Pairwise fun a b => a.before b = true)
    ∧ (∀ x ∈ t.recurring, x.isDated = false) ∧ (∀ x ∈ t.dated, x.isDated = true ∧ x.EndsAfterStart)
    ∧ ((t.recurring ++ t.dated).map (·.id)).Nodup ∧ t.entryCount ≤ Config.timetableSlots

/-- A property of the live tables, of the tables of a good image, and of the snapshot that a COMMIT is writing. -/
def State.EveryImage (P : Stored → Prop) (s : State) : Prop :=
  P s.stored ∧ (s.cfs.image.cls = .good → P s.cfs.image.tables) ∧ (∀ c, s.cfs.commit = some c → P c.snapshot)

/-- While a COMMIT is in flight the image is not good and the commit count stands below its limit (R182, R183). -/
def State.CommitSound (s : State) : Prop :=
  s.cfs.commit.isSome = true → s.cfs.image.cls = .bad ∧ s.cfs.count < Config.commitLimit

/-! ### Groups (Table 6-1, R70) -/

/-- Ts is present in PENDING and TRANSITION only, the suspension record in SUSPENDED only; FREE and SUSPENDED have current
and target plan 0, and TRANSITION and STEADY run their target (R69, R74, R79, R88). -/
def Group.Sound (r : Group) : Prop :=
  (r.ts.isSome = true ↔ r.state = .pending ∨ r.state = .transition)
    ∧ (r.suspension.isSome = true ↔ r.state = .suspended)
    ∧ (r.state = .free ∨ r.state = .suspended → r.current = 0 ∧ r.target = 0)
    ∧ (r.state = .transition ∨ r.state = .steady → r.current = r.target ∧ r.target ≠ 0)

/-- Every group record is sound. -/
def State.GroupsSound (s : State) : Prop := ∀ g, (s.group g).Sound

/-- An ORDERED member belongs to a group in PENDING or TRANSITION, a CORRECTING member to one in TRANSITION, and a member
IN_STEP to one in TRANSITION or STEADY: so no member of a STEADY group is ORDERED or CORRECTING (R70, R74, R79, R85, R88). -/
def State.MembersFollow (s : State) : Prop :=
  ∀ i,
    ((s.member i).state = .ordered →
      ∃ g, s.groupOf i = some g ∧ ((s.group g).state = .pending ∨ (s.group g).state = .transition))
    ∧ ((s.member i).state = .correcting → ∃ g, s.groupOf i = some g ∧ (s.group g).state = .transition)
    ∧ ((s.member i).state = .inStep →
        ∃ g, s.groupOf i = some g ∧ ((s.group g).state = .transition ∨ (s.group g).state = .steady))

/-- Some member of every TRANSITION group is ORDERED or CORRECTING (R70). -/
def State.TransitionsWork (s : State) : Prop :=
  ∀ g, (s.group g).state = .transition → ∃ i, s.groupOf i = some g ∧ (s.member i).state.working = true

/-- Until start-up completes nothing is under way: every group is FREE, every member OFFLINE without a standing order, every
segment OFF with nothing queued or in flight, and no evaluation waits (R69, R71, R117, R134, R184). -/
def State.QuietBeforeService (s : State) : Prop :=
  s.phase ≠ .running →
    s.owed = [] ∧ (∀ g, (s.group g).state = .free)
      ∧ (∀ i, (s.member i).state = .offline ∧ (s.member i).order = none)
      ∧ ∀ k, (s.segment k).state = .off ∧ (s.segment k).queue = [] ∧ (s.segment k).inFlight = none

/-! ### The field link -/

/-- Every segment queue stands in ascending order of enqueue time, then of join sequence number (R140). -/
def State.QueuesInOrder (s : State) : Prop := ∀ k, (s.segment k).queue.Pairwise fun a b => b.before a = false

/-- Every queued transaction's target is mapped to that segment, and of each target at most one ORDER or RELEASE and one QUERY
stand queued (R140). -/
def State.QueuesServe (s : State) : Prop :=
  ∀ k, (∀ x ∈ (s.segment k).queue, ∃ d, s.place x.target = some ⟨k, d⟩)
    ∧ (s.segment k).queue.Pairwise fun a b => ¬ (a.target = b.target ∧ a.body.kind = b.body.kind)

/-- The numbers of the orders tell them apart: every number in use lies below the next one; a standing order that is queued or in
flight is not DELIVERED; and one in flight is on its member's segment, with no ORDER or RELEASE queued for that member (R72, R77,
R78). -/
def State.OrdersApart (s : State) : Prop :=
  (∀ i o, (s.member i).order = some o → o.oid < s.nextOid)
    ∧ (∀ k, ∀ y ∈ (s.segment k).queue, ∀ oid p, y.body = .order oid p →
        oid < s.nextOid ∧ ∀ o, (s.member y.target).order = some o → o.oid = oid → o.outcome ≠ .delivered)
    ∧ ∀ k x oid p, (s.segment k).inFlight = some x → x.body = .order oid p →
        oid < s.nextOid
        ∧ ∀ o, (s.member x.target).order = some o → o.oid = oid →
            o.outcome ≠ .delivered ∧ (∃ d, s.place x.target = some ⟨k, d⟩)
            ∧ ∀ l, ∀ y ∈ (s.segment l).queue, y.target = x.target → y.body.kind ≠ .order

/-- The backlog lies within 0 to 15, a set overdue marker stands at 8 or more, and 12 or more has the marker set
(R150, R154). -/
def Poll.Sound (p : Poll) : Prop :=
  p.backlog ≤ 15 ∧ (p.overdue = true → 8 ≤ p.backlog) ∧ (12 ≤ p.backlog → p.overdue = true)

/-- Every poll state is sound, and an unmapped intersection has none (R150). -/
def State.PollsSound (s : State) : Prop :=
  (∀ i p, s.poll i = some p → p.Sound) ∧ (s.phase = .running → ∀ i, s.place i = none → s.poll i = none)

/-- No segment idles with something to send (R141), and no transmitter with something to send (R173). -/
def State.NoneIdle (s : State) : Prop :=
  (∀ k, (s.segment k).isFree = true → s.arbiter k = none) ∧ ∀ p, (s.port p).pump = s.port p

/-! ### Ports (R169, R177, R179) -/

/-- The counters of a port stay within 16 bits (R179). -/
def PortCounters.InRange (c : PortCounters) : Prop :=
  c.request ≤ 65535 ∧ c.frameError ≤ 65535 ∧ c.busy ≤ 65535 ∧ c.overrun ≤ 65535 ∧ c.denied ≤ 65535 ∧ c.lost ≤ 65535
    ∧ c.notice ≤ 65535

/-- A queue holds at most 16 notices and a busy-reply list at most 4 replies (R169, R177). -/
def PortState.InRange (p : PortState) : Prop :=
  p.queue.length ≤ Config.noticeSlots ∧ p.busyList.length ≤ Config.busySlots ∧ p.counters.InRange

/-- Every port is in range. -/
def State.PortsInRange (s : State) : Prop := ∀ p, (s.port p).InRange

/-! ### A request and its reply -/

/-- The port of a request can serve it: start-up has completed and the port is IDLE (Table 12-1, orders 1 and 2). -/
def State.Serves (s : State) (f : RequestFrame) : Prop := s.phase = .running ∧ (s.port f.port).service = none

/-- The state handed to the owning block: the good frame is counted, the port hunts again and is SERVING (R171). -/
def State.handedOver (s : State) (f : RequestFrame) (rq : Request) : State :=
  s.modPort f.port fun p => { p.takeFrame s.crystal with service := some ⟨f.tag, rq, none⟩ }

/-- Copies of several notices reach a port one after another (R176, R177). -/
def PortState.copies (p : PortState) (ns : List Notice) : PortState := ns.foldl PortState.copy p

/-- The ports after an event has offered notices: each takes its copies, none before start-up completes, and a free
transmitter begins its next frame (R173, R176). -/
def State.announced (s : State) (ns : List Notice) : PerPort PortState :=
  if s.phase = .running then
    ⟨((s.port .centre).copies ns).pump, ((s.port .event).copies ns).pump, ((s.port .cabinet).copies ns).pump⟩
  else s.ports

/-- One port after a request has been served: the frame is counted and handed over, the notices are copied, and the port that
carried the request takes the outcome; a free transmitter begins its next frame (R171 to R173, R176). -/
def State.servedPort (s : State) (f : RequestFrame) (rq : Request) (ns : List Notice) (ans : Answer) (p : Port) : PortState :=
  let q := ((s.handedOver f rq).port p).copies ns
  (if p = f.port then q.giveReply ans else q).pump

/-- The state with its ports as a served request leaves them: nothing else of it is changed (R172, R175). -/
def State.answered (s : State) (f : RequestFrame) (rq : Request) (ns : List Notice) (st : Status) (items : List Item) : State :=
  { s with ports := ⟨s.servedPort f rq ns (st, items) .centre, s.servedPort f rq ns (st, items) .event,
      s.servedPort f rq ns (st, items) .cabinet⟩ }

/-- The reply of the request being served is given: it waits for the transmitter or is being sent (R172, R173). -/
def State.HasReply (s : State) (f : RequestFrame) (rq : Request) (st : Status) (items : List Item) : Prop :=
  (s.port f.port).service.map (·.tag) = some f.tag
    ∧ ((s.port f.port).service.bind (·.reply) = some ⟨f.tag, rq.code, st, items⟩
        ∨ (s.port f.port).tx = some (.served ⟨f.tag, rq.code, st, items⟩))

/-- Time, the stored tables, the store and the queue of commands are the same. -/
def State.SameBase (s t : State) : Prop :=
  t.pending = s.pending ∧ t.crystal = s.crystal ∧ t.phase = s.phase ∧ t.contactClosed = s.contactClosed
    ∧ t.tref = s.tref ∧ t.stored = s.stored ∧ t.cfs = s.cfs

/-- A plan is the current or the target plan of a group in PENDING, TRANSITION or STEADY (R21). -/
def State.InUse (s : State) (k : Nat) : Prop :=
  ∃ g, ((s.group g).state = .pending ∨ (s.group g).state = .transition ∨ (s.group g).state = .steady)
    ∧ ((s.group g).current = k ∨ (s.group g).target = k)

/-- A member is mapped to a drop of a segment. -/
def State.On (s : State) (i : Ix) (k : SegNo) : Prop := ∃ d, s.place i = some ⟨k, d⟩

/-- The timetable governs while TREF is LOCKED or HOLDOVER (R47). -/
def State.Consults (s : State) : Prop := s.tref.state = .locked ∨ s.tref.state = .holdover

/-- The plan that an evaluation of `s` gives group `g`, with its source, when it leaves the timetable as in `t`: a hold's plan;
the plan wanted before when the timetable is not consulted; else the governing entry's plan, or 0 (R15, R51, R52, R59). -/
def State.Wants (s t : State) (g : GroupNo) (w : Nat) (src : WantedSource) : Prop :=
  (∀ h, (s.group g).hold = some h → w = h.plan ∧ src = .hold h.owner h.tag)
    ∧ ((s.group g).hold = none →
        (¬ s.Consults → w = (s.group g).wanted ∧ src = .kept)
        ∧ (s.Consults →
            (∀ x, t.stored.governing g s.tref.e = some x → w = x.plan ∧ src = .entry x.id)
            ∧ (t.stored.governing g s.tref.e = none → w = 0 ∧ src = .none)))

/-- A member is taken by a switch start: it is in FREE, ORDERED, CORRECTING or IN_STEP (R74). -/
def Member.Taken (m : Member) : Prop := m.state = .free ∨ m.state = .ordered ∨ m.state = .correcting ∨ m.state = .inStep

/-- Member `i` is ordered for a plan with a switch time: it is ORDERED with a standing ORDER, outcome OWED, of that plan with the
plan's pattern, cycle and method and the member's offset (R72). -/
def State.Ordered (t : State) (i : Ix) (plan tm : Nat) : Prop :=
  (t.member i).state = .ordered
    ∧ ∃ oid, ∃ p ∈ t.stored.plan plan,
        (t.member i).order = some
          ⟨.order, ⟨plan, p.pattern, p.cycle, t.stored.offset plan i, tm, p.method⟩, .owed, oid, false⟩

/-- Member `i` has a RELEASE with a switch time as its standing order, or none when it is unmapped (R73). -/
def State.Released (t : State) (i : Ix) (tm : Nat) : Prop :=
  (t.place i = none → (t.member i).order = none)
    ∧ (t.place i ≠ none → ∃ oid, (t.member i).order = some ⟨.release, ⟨0, 0, 0, 0, tm, .delay⟩, .owed, oid, false⟩)

/-! ### A reply from a controller -/

/-- No condition stands for a member, and no alert. -/
def Member.Calm (m : Member) : Prop := (∀ c, (m.faults.get c).standing = false) ∧ m.alertSet = PerAlert.all false

/-- A reply shows no alert, and no mode that stands for one (R131). -/
def GoodReply.Quiet : GoodReply → Prop
  | .poll p => p.alerts = PerAlert.all false ∧ p.mode ≠ .manual ∧ p.mode ≠ .flash
  | .order a => a.alerts = PerAlert.all false
  | .query q => q.alerts = PerAlert.all false

/-- With the bytes `bytes` the reply `r` to the transaction in flight on a segment is whole in its window: no gap has broken it off, the
segment is not CLOSING, and the drop it was sent to is still the target's map (R122, R144, R190). -/
def State.ReplyArrives (s : State) (k : SegNo) (x : InFlight) (bytes : List Byte) (r : GoodReply) : Prop :=
  s.NoneIdle ∧ (s.segment k).inFlight = some x ∧ (s.segment k).state ≠ .closing ∧ s.place x.target = some ⟨k, x.drop⟩
    ∧ bytes ≠ []
    ∧ match x.phase with
      | .request => False
      | .window _ _ heard lastAt => (heard = [] ∨ s.crystal ≤ lastAt + 2) ∧ wholeReply (heard ++ bytes) = true
          ∧ judgeReply x.drop x.body.kind (heard ++ bytes) = some r

/-- The live state that a cabinet reset leaves: the time runs on, LOCKED becomes HOLDOVER with the H timer restarted, and
groups, members, segments, ports and the COMMIT in flight take their reset values, a mapped intersection a stopped counter; the image and the commit
count keep theirs (Table 2-3, R58, R69, R117, R134, R150, R169, R180, R183). -/
def State.ResetFrom (s t : State) : Prop :=
  t.crystal = s.crystal ∧ t.tref.e = s.tref.e ∧ t.tref.minuteOwed = s.tref.minuteOwed
    ∧ t.tref.state = (if s.tref.state = .locked then .holdover else s.tref.state)
    ∧ t.tref.timerStart = (if s.tref.state = .locked ∨ s.tref.state = .holdover then some (s.crystal / 100) else none)
    ∧ t.tref.slew = 0 ∧ t.tref.lastMark = none ∧ t.tref.accepted = 0 ∧ t.tref.early = 0 ∧ t.tref.rejected = 0
    ∧ t.owed = [] ∧ (∀ g, t.group g = Group.initial) ∧ (∀ i, t.member i = Member.initial)
    ∧ (∀ k, t.segment k = Segment.initial) ∧ (∀ i, t.poll i = (s.place i).map fun _ => ⟨.stopped 0, 0, false⟩)
    ∧ (∀ p, t.port p = PortState.initial)
    ∧ t.cfs.commit = none ∧ t.cfs.image = s.cfs.image ∧ t.cfs.countCell = s.cfs.countCell

end Sys2Proof.Machine

namespace Sys2Proof

/-- The request that a command is, with its frame, for the 34 commands that are requests (Table 12-2). -/
def Instr.request : Instr → Option (RequestFrame × Machine.Request)
  | .powerOn => none
  | .resetLineClose => none
  | .resetLineOpen => none
  | .startUpComplete => none
  | .minuteBoundary => none
  | .slewAdjustment => none
  | .timer2pExpiry => none
  | .timerHExpiry => none
  | .mark f => some (f, .mark)
  | .setTime f => some (f, .setTime)
  | .readTime f => some (f, .readTime)
  | .writePlan f => some (f, .writePlan)
  | .deletePlan f => some (f, .deletePlan)
  | .readPlan f => some (f, .readPlan)
  | .writeOffset f => some (f, .writeOffset)
  | .readOffset f => some (f, .readOffset)
  | .writeParams f => some (f, .writeParams)
  | .readParams f => some (f, .readParams)
  | .setEventGroups f => some (f, .setEventGroups)
  | .addEntry f => some (f, .addEntry)
  | .removeEntry f => some (f, .removeEntry)
  | .readEntry f => some (f, .readEntry)
  | .listEntries f => some (f, .listEntries)
  | .evaluation _ => none
  | .placeHold f => some (f, .placeHold)
  | .releaseHold f => some (f, .releaseHold)
  | .setMembers f => some (f, .setMembers)
  | .readGroup f => some (f, .readGroup)
  | .tsReached _ => none
  | .tmReached _ => none
  | .setMap f => some (f, .setMap)
  | .requery f => some (f, .requery)
  | .readIntersection f => some (f, .readIntersection)
  | .enableSegment f => some (f, .enableSegment)
  | .disableSegment f => some (f, .disableSegment)
  | .checkPassed _ => none
  | .lineBreak _ => none
  | .lineHeld _ => none
  | .lineReleased _ => none
  | .turnaroundEnd _ => none
  | .requestSent _ => none
  | .waitMarker _ _ => none
  | .replyFrameReceived _ _ => none
  | .replyLengthBad _ _ => none
  | .replyGapTimeout _ => none
  | .replyWindowClose _ _ => none
  | .lateReply _ => none
  | .pollIntervalExpiry _ => none
  | .writeSegmentParams f => some (f, .writeSegmentParams)
  | .readSegment f => some (f, .readSegment)
  | .setPolicy f => some (f, .setPolicy)
  | .clearFaults f => some (f, .clearFaults)
  | .readFaults f => some (f, .readFaults)
  | .setNoticeMask f => some (f, .setNoticeMask)
  | .readPorts f => some (f, .readPorts)
  | .commit f => some (f, .commit)
  | .commitWriteEnd => none
  | .readStore f => some (f, .readStore)
  | .reset f => some (f, .reset)
  | .resetRequestTaken => none
  | .unknownRequestCode _ _ => none
  | .frameDiscarded _ _ => none
  | .frameGapTimeout _ _ _ => none
  | .transmitEnd _ => none
  | .lineReadsMark _ => none
  | .lineReadsSpace _ => none
  | .epochCountEnd => none

/-- Whether the payload of a request fits its form (Table 14-3, R188). -/
def Instr.payloadFits : Instr → Bool
  | .powerOn => true
  | .resetLineClose => true
  | .resetLineOpen => true
  | .startUpComplete => true
  | .minuteBoundary => true
  | .slewAdjustment => true
  | .timer2pExpiry => true
  | .timerHExpiry => true
  | .mark f => (Machine.parseTime f.payload).isSome
  | .setTime f => (Machine.parseTime f.payload).isSome
  | .readTime f => (Machine.parseNothing f.payload).isSome
  | .writePlan f => (Machine.parseWritePlan f.payload).isSome
  | .deletePlan f => (Machine.parseByte f.payload).isSome
  | .readPlan f => (Machine.parseByte f.payload).isSome
  | .writeOffset f => (Machine.parseWriteOffset f.payload).isSome
  | .readOffset f => (Machine.parseReadOffset f.payload).isSome
  | .writeParams f => (Machine.parseParamList f.payload).isSome
  | .readParams f => (Machine.parseNothing f.payload).isSome
  | .setEventGroups f => (Machine.parseMask f.payload).isSome
  | .addEntry f => (Machine.parseAddEntry f.payload).isSome
  | .removeEntry f => (Machine.parseByte f.payload).isSome
  | .readEntry f => (Machine.parseByte f.payload).isSome
  | .listEntries f => (Machine.parseListEntries f.payload).isSome
  | .evaluation _ => true
  | .placeHold f => (Machine.parsePlaceHold f.payload).isSome
  | .releaseHold f => (Machine.parseReleaseHold f.payload).isSome
  | .setMembers f => (Machine.parseSetMembers f.payload).isSome
  | .readGroup f => (Machine.parseByte f.payload).isSome
  | .tsReached _ => true
  | .tmReached _ => true
  | .setMap f => (Machine.parseSetMap f.payload).isSome
  | .requery f => (Machine.parseByte f.payload).isSome
  | .readIntersection f => (Machine.parseByte f.payload).isSome
  | .enableSegment f => (Machine.parseByte f.payload).isSome
  | .disableSegment f => (Machine.parseByte f.payload).isSome
  | .checkPassed _ => true
  | .lineBreak _ => true
  | .lineHeld _ => true
  | .lineReleased _ => true
  | .turnaroundEnd _ => true
  | .requestSent _ => true
  | .waitMarker _ _ => true
  | .replyFrameReceived _ _ => true
  | .replyLengthBad _ _ => true
  | .replyGapTimeout _ => true
  | .replyWindowClose _ _ => true
  | .lateReply _ => true
  | .pollIntervalExpiry _ => true
  | .writeSegmentParams f => (Machine.parseSegParams f.payload).isSome
  | .readSegment f => (Machine.parseByte f.payload).isSome
  | .setPolicy f => (Machine.parseSetPolicy f.payload).isSome
  | .clearFaults f => (Machine.parseClearFaults f.payload).isSome
  | .readFaults f => (Machine.parseReadFaults f.payload).isSome
  | .setNoticeMask f => (Machine.parseNoticeMask f.payload).isSome
  | .readPorts f => (Machine.parseNothing f.payload).isSome
  | .commit f => (Machine.parseNothing f.payload).isSome
  | .commitWriteEnd => true
  | .readStore f => (Machine.parseNothing f.payload).isSome
  | .reset f => (Machine.parseNothing f.payload).isSome
  | .resetRequestTaken => true
  | .unknownRequestCode _ _ => true
  | .frameDiscarded _ _ => true
  | .frameGapTimeout _ _ _ => true
  | .transmitEnd _ => true
  | .lineReadsMark _ => true
  | .lineReadsSpace _ => true
  | .epochCountEnd => true

end Sys2Proof
end

