-- ==== Sys2Proof/Certificates/Slice0/Obligations.lean ====
section
/-! DEFINITION. The statements for the provers. Each docstring names the rules of spec/ that the statement rests on. `s.Serves f`
says that start-up has completed and the port of the frame is IDLE; `s.NoneIdle` that no segment and no transmitter idles with
something to send, which every step keeps (`Obligations.NothingIdlesWithWorkToSend`); `s.answered f rq ns st items` is `s` with
nothing changed but its ports, which have copied the notices `ns` and given the reply. -/

section Statements

open Sys2Proof Sys2Proof.Machine

/-! ### The machine -/

/-- One step takes the command at the front of the queue and gives its outcome over the queue's rest. -/
def Obligations.StepRunsTheFrontCommand : Prop :=
  ∀ (s : State) (c : Instr) (rest : List Instr),
    s.pending = c :: rest → step s = exec c { s with pending := rest }

/-- The model's choice (log entries 1 and 2): with no command waiting, one of the part's own events that are due becomes the
next command; when none is due and the next ms of crystal time completes 100 ds of a slew, or else brings E to its last value, the next
command is SLEW_ADJUSTMENT or EPOCH_COUNT_END, which is that ms; in every other case 1 ms of crystal time passes, and each 100 ms E
advances by 1 ds, stops at its last value, and raises the minute boundary at a multiple of 600 (R1, R3, R11). -/
def Obligations.IdlePartRunsItsClock : Prop :=
  ∀ s : State, s.pending = [] →
    (s.dueEvents ≠ [] → ∃ ev ∈ s.dueEvents, step s = .next { s with pending := [ev], freeUses := s.freeUses + 1 })
    ∧ (s.dueEvents = [] → s.slewDue = false → s.countEndDue = false →
        step s = .next
          { s with
            crystal := s.crystal + 1
            tref :=
              if (s.crystal + 1) % 100 = 0 then
                { s.tref with
                  e := min 56623103999 (s.tref.e + 1)
                  minuteOwed := decide (s.tref.e < 56623103999 ∧ (s.tref.e + 1) % 600 = 0) }
              else s.tref })
    ∧ (s.dueEvents = [] → (s.crystal + 1) % 100 = 0 →
        let slews : Prop := s.tref.slew ≠ 0 ∧ s.tref.slewStart + 100 ≤ (s.crystal + 1) / 100
        (slews → step s = .next { s with pending := [.slewAdjustment] })
        ∧ (¬ slews → s.tref.e = 56623103998 → step s = .next { s with pending := [.epochCountEnd] }))

/-- Every command of the table completes in every state, and leaves the commands that wait as they are. That an event whose
guard fails completes too, with no effect, is the model's choice (log entries 2 and 38). -/
def Obligations.EveryCommandCompletes : Prop :=
  ∀ (c : Instr) (s : State), ∃ t, exec c s = .next t ∧ t.pending = s.pending

/-- The state right after power-on meets every invariant that the statements below say each step keeps. -/
def Obligations.ResetStateMeetsTheInvariants : Prop :=
  State.reset.NoneIdle ∧ State.reset.ClockInRange ∧ State.reset.EveryImage Stored.ParamsInRange
    ∧ State.reset.EveryImage Stored.OffsetsBelowCycle ∧ State.reset.EveryImage Stored.MapsUnique
    ∧ State.reset.EveryImage Stored.TimetableInOrder ∧ State.reset.CommitSound ∧ State.reset.GroupsSound
    ∧ State.reset.QueuesInOrder ∧ State.reset.PollsSound ∧ State.reset.PortsInRange
    ∧ State.reset.QuietBeforeService ∧ State.reset.MembersFollow ∧ State.reset.TransitionsWork ∧ State.reset.QueuesServe
    ∧ State.reset.OrdersApart

/-- POWER_ON: E is 0 and TREF UNSET with nothing accepted and no timer running (Table 2-3); groups, members, segments, poll
states and ports take their power-on values; the image and the commit count cell keep what they hold, and start-up with cause
POWER_ON begins at once, or when the RESET contact opens (R4, R58, R69, R117, R134, R150, R169, R184, R185). That a closed
contact holds the part is the model's choice (log entry 7), as are the reset values the spec does not give (log entry 5). -/
def Obligations.PowerOnGivesTheResetState : Prop :=
  ∀ s : State, ∃ t, exec .powerOn s = .next t
    ∧ t.tref = ⟨0, .unset, 0, 0, none, none, 0, 0, 0, false, none⟩ ∧ t.owed = []
    ∧ (∀ g, t.group g = Group.initial) ∧ (∀ i, t.member i = Member.initial) ∧ (∀ k, t.segment k = Segment.initial)
    ∧ (∀ i, t.poll i = none) ∧ (∀ p, t.port p = PortState.initial)
    ∧ t.cfs.image = s.cfs.image ∧ t.cfs.countCell = s.cfs.countCell ∧ t.cfs.commit = none ∧ t.cfs.cause = .powerOn
    ∧ t.phase = (if s.contactClosed then .held .powerOn else .loading t.crystal) ∧ t.contactClosed = s.contactClosed

/-- A cabinet reset by the RESET line is taken when the contact closes, and start-up begins when it opens; one by the RESET
request is taken when the last byte of its reply has been sent, and start-up begins at once. E holds its value; live state takes
its reset values (R1, R4, R180, R183, R185). That a minute boundary raised and not yet taken stands on until start-up ends
(log entry 8), and that a stopped interval counter holds 0 (log entry 48), are the model's choices. -/
def Obligations.CabinetResetIsTakenFromLineAndRequest : Prop :=
  (∀ s : State, s.contactClosed = false →
    ∃ t, exec .resetLineClose s = .next t ∧ s.ResetFrom t ∧ t.phase = .held .resetLine ∧ t.contactClosed = true)
  ∧ (∀ (s : State) (cause : StartCause), s.contactClosed = true → s.phase = .held cause →
      exec .resetLineOpen s = .next
        { s with contactClosed := false, phase := .loading s.crystal, cfs := { s.cfs with cause := cause } })
  ∧ (∀ (s : State) (v : Serving) (r : Reply), s.ports.cabinet.service = some v → v.request = .reset →
      s.ports.cabinet.tx = some (.served r) →
      ∃ t, exec .resetRequestTaken s = .next t ∧ exec (.transmitEnd .cabinet) s = .next t ∧ s.ResetFrom t
        ∧ t.phase = .loading s.crystal ∧ t.cfs.cause = .resetRequest)

/-- The image is good when the CRC of its bytes is the CRC it carries, else blank when every byte and the CRC hold all ones, else
bad. The end of the image load: the tables are those of a good image, or the empty ones with the defaults; store status, load
result and the E of the start cause record are set; each enabled segment enters CHECKING and the members mapped to it are
UNKNOWN; the part serves from then on (R57, R181, R184). That the tables stand beside the bytes of the image is the model's
choice (log entry 16). -/
def Obligations.StartUpLoadsTheImage : Prop :=
  (Image.erased.cls = .blank
    ∧ ∀ (bytes : List Byte) (crc : BitVec 16) (tab : Stored),
        let ones : Prop := (∀ b ∈ bytes, b = 0xFF#8) ∧ crc = 0xFFFF#16
        ((Image.held bytes crc tab).cls = .good ↔ crc16 bytes = crc)
        ∧ ((Image.held bytes crc tab).cls = .blank ↔ crc16 bytes ≠ crc ∧ ones)
        ∧ ((Image.held bytes crc tab).cls = .bad ↔ crc16 bytes ≠ crc ∧ ¬ ones))
  ∧ ∀ (s : State) (since : Nat), s.phase = .loading since →
    let tab := s.cfs.image.tables
    ∃ t, exec .startUpComplete s = .next t ∧ t.phase = .running ∧ t.tref.e = s.tref.e ∧ t.cfs.causeE = s.tref.e
      ∧ t.cfs.cause = s.cfs.cause ∧ t.cfs.image = s.cfs.image ∧ t.cfs.countCell = s.cfs.countCell
      ∧ (s.cfs.image.cls = .good →
          t.stored = { tab with dated := t.stored.dated } ∧ t.cfs.status = .good ∧ t.cfs.loadResult = .good
          ∧ ((s.tref.state = .unset ∨ s.tref.state = .untimed) → t.stored.dated = tab.dated)
          ∧ (tab.MapsUnique → ∀ i k d, vget tab.maps i = some ⟨k, d⟩ → vget tab.enables k = true →
              (t.segment k).state = .checking ∧ (t.member i).state = .unknown))
      ∧ (s.cfs.image.cls ≠ .good →
          t.stored = Stored.empty ∧ t.cfs.status = .storeBad
          ∧ t.cfs.loadResult = (if s.cfs.image.cls = .bad then .badCrc else .blank))

/-! ### Network time -/

/-- READ_TIME carries the state of TREF at the instant it is taken, in the order R16 names it, and changes nothing but the port
that carries it (R16). -/
def Obligations.ReadTimeReportsTref : Prop :=
  ∀ (s : State) (f : RequestFrame), s.Serves f → s.NoneIdle → f.payload = [] →
    exec (.readTime f) s = .next (s.answered f .readTime [] .ok
      ([.time s.tref.e, .n2 (s.tref.e / 864000), .n2 (s.tref.e % 864000 / 600), .n1 (s.tref.e / 864000 % 7),
          .n1 s.tref.state.code, .signed s.tref.slew]
        ++ (match s.tref.lastMark with
            | none => [.absent 5]
            | some m => [.present, .time m.e])
        ++ [.n4 (match s.tref.timerStart with
              | none => 0
              | some a => (s.crystal / 100 - a) / 10),
            .n2 s.tref.accepted, .n2 s.tref.early, .n2 s.tref.rejected]))

/-- MARK: the cases of Table 2-4 in their order. A refused mark changes its counter alone; an accepted one locks TREF, restarts
both timers and records the last accepted mark; SET and STEPPED are steps, which set the re-sync flag of CORRECTING and IN_STEP
members and trigger one evaluation; a SLEWED mark that leaves UNTIMED triggers one too (R9, R10, R11, R13, R14, R15, R17). That
SET leaves the slew remaining as it is (log entry 34), and that on a free transmitter the reply is begun before a notice of the same instant
(log entry 19), are the model's choices. -/
def Obligations.MarkIsJudgedByItsTable : Prop :=
  ∀ (s : State) (f : RequestFrame) (ec : Nat), s.Serves f → s.NoneIdle → f.port = .centre →
    parseTime f.payload = some ec →
    let delta : Int := (ec : Int) - s.tref.e
    let now := s.crystal / 100
    let early : Nat → Prop := fun d => ∃ m, s.tref.lastMark = some m ∧ now - m.crystalDs = d
      ∧ d < 5 * s.stored.params.markPeriod
    let locked (r : Tref) (e : Nat) : Tref :=
      { r with state := .locked, timerStart := some now, lastMark := some ⟨e, now⟩, accepted := min 65535 (r.accepted + 1) }
    let note (e : Nat) : List Notice :=
      if s.tref.state = .locked then [] else [⟨e, .timeState .locked s.tref.state .mark⟩]
    let synced : State :=
      { s with
        members := s.members.map fun m =>
          if m.state = .correcting ∨ m.state = .inStep then { m with resync := true } else m
        owed := s.owed ++ [⟨everyGroup⟩] }
    (56623104000 ≤ ec →
      exec (.mark f) s = .next
        (State.answered { s with tref := { s.tref with rejected := min 65535 (s.tref.rejected + 1) } } f .mark [] .range []))
    ∧ (ec < 56623104000 → s.tref.state = .unset →
      exec (.mark f) s = .next
        (State.answered { synced with tref := locked { s.tref with e := ec } ec } f .mark (note ec) .ok [.n1 0, .delta delta]))
    ∧ (∀ d, ec < 56623104000 → s.tref.state ≠ .unset → early d →
      exec (.mark f) s = .next
        (State.answered { s with tref := { s.tref with early := min 65535 (s.tref.early + 1) } } f .mark [] .early
          [.delta delta, .n2 d]))
    ∧ (ec < 56623104000 → s.tref.state ≠ .unset → (∀ d, ¬ early d) → 36000 < delta.natAbs →
      exec (.mark f) s = .next
        (State.answered { s with tref := { s.tref with rejected := min 65535 (s.tref.rejected + 1) } } f .mark [] .range
          [.delta delta]))
    ∧ (ec < 56623104000 → s.tref.state ≠ .unset → (∀ d, ¬ early d) → delta.natAbs ≤ 20 →
      exec (.mark f) s = .next
        (State.answered { s with
            tref := locked { s.tref with slew := delta, slewStart := now } s.tref.e
            owed := if s.tref.state = .untimed then s.owed ++ [⟨everyGroup⟩] else s.owed } f .mark
          (note s.tref.e) .ok [.n1 1, .delta delta]))
    ∧ (ec < 56623104000 → s.tref.state ≠ .unset → (∀ d, ¬ early d) → 20 < delta.natAbs → delta.natAbs ≤ 36000 →
      exec (.mark f) s = .next
        (State.answered { synced with tref := locked { s.tref with e := ec, slew := 0 } ec } f .mark (note ec) .ok
          [.n1 2, .delta delta]))

/-- SET_TIME, in any TREF state: a value beyond the epoch is refused BAD_ARG; any other sets E, abandons the slew, makes the
last accepted mark time absent, locks TREF with both timers restarted, and is a step (R12, R13, R14, R17). That on a free transmitter
the reply is begun before the notice of the same instant is the model's choice (log entry 19). -/
def Obligations.SetTimeSetsAndLocks : Prop :=
  ∀ (s : State) (f : RequestFrame) (v : Nat), s.Serves f → s.NoneIdle → f.port ≠ .event → parseTime f.payload = some v →
    (56623104000 ≤ v → exec (.setTime f) s = .next (s.answered f .setTime [] .badArg []))
    ∧ (v < 56623104000 →
      exec (.setTime f) s = .next
        (State.answered { s with
            tref := { s.tref with e := v, slew := 0, lastMark := none, state := .locked, timerStart := some (s.crystal / 100) }
            members := s.members.map fun m =>
              if m.state = .correcting ∨ m.state = .inStep then { m with resync := true } else m
            owed := s.owed ++ [⟨everyGroup⟩] } f .setTime
          (if s.tref.state = .locked then [] else [⟨v, .timeState .locked s.tref.state .setTime⟩]) .ok
          [.time s.tref.e, .time v]))

/-- The mark timers: the 2P timer takes LOCKED to HOLDOVER; the H timer takes HOLDOVER, or LOCKED, to UNTIMED, where no timer
runs; each with a TIME_STATE notice of cause TIMER; a timer that is not running has no effect. The ds that completes 100 ds of a
slew advances E by 2 or by 0 and brings the slew remaining 1 nearer to 0; the ds at which E reaches its last value stops it
there (R1, R3, R5, R6, R7, R11, R17). That these two commands are themselves the tick, the ms of crystal time that ends such a ds, is
the model's choice (log entry 1), as is that a timer that is not running has no effect (log entry 2). -/
def Obligations.TimersSlewAndCountEndRunTheClock : Prop :=
  ∀ s : State, s.NoneIdle →
    (∀ a, s.tref.state = .locked → s.tref.timerStart = some a → a + 20 * s.stored.params.markPeriod ≤ s.crystal / 100 →
      exec .timer2pExpiry s = .next
        { s with tref := { s.tref with state := .holdover }
                 ports := s.announced [⟨s.tref.e, .timeState .holdover .locked .timer⟩] })
    ∧ (∀ a, s.tref.state = .locked ∨ s.tref.state = .holdover → s.tref.timerStart = some a →
        a + 36000 * s.stored.params.holdover ≤ s.crystal / 100 →
      exec .timerHExpiry s = .next
        { s with tref := { s.tref with state := .untimed, timerStart := none }
                 ports := s.announced [⟨s.tref.e, .timeState .untimed s.tref.state .timer⟩] })
    ∧ (s.tref.state ≠ .locked → exec .timer2pExpiry s = .next s)
    ∧ (s.tref.state = .unset ∨ s.tref.state = .untimed → exec .timerHExpiry s = .next s)
    ∧ (s.tref.e ≤ 56623103999 → (s.crystal + 1) % 100 = 0 →
        (s.tref.slewStart + 100 ≤ (s.crystal + 1) / 100 → 0 < s.tref.slew →
          exec .slewAdjustment s = .next
            { s with
              crystal := s.crystal + 1
              tref := { s.tref with
                e := min 56623103999 (s.tref.e + 2), slew := s.tref.slew - 1, slewStart := s.tref.slewStart + 100
                minuteOwed := s.tref.minuteOwed || decide (s.tref.e / 600 < min 56623103999 (s.tref.e + 2) / 600) } })
        ∧ (s.tref.slewStart + 100 ≤ (s.crystal + 1) / 100 → s.tref.slew < 0 →
          exec .slewAdjustment s = .next
            { s with crystal := s.crystal + 1
                     tref := { s.tref with slew := s.tref.slew + 1, slewStart := s.tref.slewStart + 100 } })
        ∧ (s.tref.slew = 0 → s.tref.e = 56623103998 →
          exec .epochCountEnd s = .next { s with crystal := s.crystal + 1, tref := { s.tref with e := 56623103999 } }))

/-- The minute boundary in service: each hold whose end is at or before E leaves its slot, with its HOLD_ENDED notice and the
evaluation of its group, in ascending order of group, and one evaluation of all groups is triggered; nothing else changes (R3,
R47, R65, R67). The order of the evaluations is the model's choice (log entry 3). -/
def Obligations.MinuteBoundaryEndsHolds : Prop :=
  ∀ s : State, s.NoneIdle → s.phase = .running → s.tref.minuteOwed = true →
    let ends (g : GroupNo) : Option Hold :=
      (s.group g).hold.filter fun h =>
        match h.ends with
        | some m => decide (m.day * 864000 + m.minute * 600 ≤ s.tref.e)
        | none => false
    exec .minuteBoundary s = .next
      { s with
        tref := { s.tref with minuteOwed := false }
        groups := Vector.ofFn fun g =>
          if (ends g).isSome then { s.group g with hold := none } else s.group g
        owed := s.owed ++ (allGroups.filter fun g => (ends g).isSome).map (fun g => ⟨oneGroup g⟩) ++ [⟨everyGroup⟩]
        ports := s.announced
          (allGroups.filterMap fun g => (ends g).map fun h => ⟨s.tref.e, .holdEnded g h .ended⟩) }

/-! ### Plans, offsets and parameters -/

/-- WRITE_PLAN with no COMMIT in flight: the checks of Table 3-1, and the write, which replaces the record and, when the cycle
of a defined plan changes, each of its offsets by that offset mod the new cycle. No other plan, offset, member or group changes
(R20, R21, R22). -/
def Obligations.WritePlanReplacesTheRecord : Prop :=
  ∀ (s : State) (f : RequestFrame) (a : WritePlanArgs), s.Serves f → s.NoneIdle → f.port ≠ .event →
    parseWritePlan f.payload = some a → s.cfs.commit = none →
    let c := a.cycle / 10 * 10
    (¬ (1 ≤ a.plan ∧ a.plan ≤ 48 ∧ 300 ≤ c ∧ c ≤ 3000 ∧ 1 ≤ a.pattern ∧ a.pattern ≤ 32 ∧ a.method ≤ 2) →
      exec (.writePlan f) s = .next (s.answered f .writePlan [] .badArg []))
    ∧ (∀ (j : Fin 48) (m : Method), a.plan = j.val + 1 → Method.ofCode a.method = some m → 300 ≤ c → c ≤ 3000 →
        1 ≤ a.pattern → a.pattern ≤ 32 →
        let old := vget s.stored.plans j
        let row := vget s.stored.offsets j
        let same : Prop := ∃ q, old = some q ∧ q.cycle = c ∧ q.pattern = a.pattern
        let recycled : Prop := ∃ q, old = some q ∧ q.cycle ≠ c
        (s.InUse a.plan → ¬ same → exec (.writePlan f) s = .next (s.answered f .writePlan [] .inUse []))
        ∧ (s.InUse a.plan → same → exec (.writePlan f) s = .next
            (State.answered { s with stored := { s.stored with plans := vset s.stored.plans j (some ⟨c, a.pattern, m⟩) } }
              f .writePlan [] .ok [.n2 c, .n1 a.pattern, .n1 m.code, .n1 0]))
        ∧ (¬ s.InUse a.plan → ¬ recycled → exec (.writePlan f) s = .next
            (State.answered { s with stored := { s.stored with plans := vset s.stored.plans j (some ⟨c, a.pattern, m⟩) } }
              f .writePlan [] .ok [.n2 c, .n1 a.pattern, .n1 m.code, .n1 0]))
        ∧ (¬ s.InUse a.plan → recycled → exec (.writePlan f) s = .next
            (State.answered
              { s with stored := { s.stored with
                  plans := vset s.stored.plans j (some ⟨c, a.pattern, m⟩)
                  offsets := vset s.stored.offsets j (row.map fun o => o % c) } }
              f .writePlan [] .ok
              [.n2 c, .n1 a.pattern, .n1 m.code, .n1 (row.toList.filter fun o => decide (o % c ≠ o)).length])))

/-- DELETE_PLAN with no COMMIT in flight: BAD_ARG, NOT_FOUND, IN_USE while a reference stands, else the record becomes undefined
and the plan's 64 offsets 0 (R23). -/
def Obligations.DeletePlanUndefinesUnreferencedPlan : Prop :=
  ∀ (s : State) (f : RequestFrame) (k : Nat), s.Serves f → s.NoneIdle → f.port ≠ .event →
    parseByte f.payload = some k → s.cfs.commit = none →
    let referenced : Prop :=
      s.InUse k ∨ (∃ x ∈ s.stored.recurring ++ s.stored.dated, x.plan = k)
        ∨ (∃ g h, (s.group g).hold = some h ∧ h.plan = k) ∨ (∃ g, (s.group g).wanted = k)
    (¬ (1 ≤ k ∧ k ≤ 48) → exec (.deletePlan f) s = .next (s.answered f .deletePlan [] .badArg []))
    ∧ (∀ j : Fin 48, k = j.val + 1 →
        (vget s.stored.plans j = none → exec (.deletePlan f) s = .next (s.answered f .deletePlan [] .notFound []))
        ∧ (vget s.stored.plans j ≠ none → referenced →
            exec (.deletePlan f) s = .next (s.answered f .deletePlan [] .inUse []))
        ∧ (vget s.stored.plans j ≠ none → ¬ referenced →
            exec (.deletePlan f) s = .next
              (State.answered
                { s with stored := { s.stored with
                    plans := vset s.stored.plans j none
                    offsets := vset s.stored.offsets j (Vector.replicate 64 0) } }
                f .deletePlan [] .ok [])))

/-- WRITE_OFFSET with no COMMIT in flight: the value is stored mod the plan's cycle; when it changes the offset of a CORRECTING
or IN_STEP member in the current plan of its group, that member's re-sync flag is set; nothing else changes (R26, R27). -/
def Obligations.WriteOffsetStoresModCycle : Prop :=
  ∀ (s : State) (f : RequestFrame) (a : WriteOffsetArgs), s.Serves f → s.NoneIdle → f.port ≠ .event →
    parseWriteOffset f.payload = some a → s.cfs.commit = none →
    (¬ (a.intersection ≤ 63 ∧ 1 ≤ a.plan ∧ a.plan ≤ 48) →
      exec (.writeOffset f) s = .next (s.answered f .writeOffset [] .badArg []))
    ∧ (∀ (i : Ix) (j : Fin 48), a.intersection = i.val → a.plan = j.val + 1 →
        (vget s.stored.plans j = none → exec (.writeOffset f) s = .next (s.answered f .writeOffset [] .notFound []))
        ∧ (∀ p, vget s.stored.plans j = some p →
            let o := a.offset % p.cycle
            let resync : Prop := o ≠ vget (vget s.stored.offsets j) i
              ∧ ((s.member i).state = .correcting ∨ (s.member i).state = .inStep)
              ∧ ∃ g, s.groupOf i = some g ∧ (s.group g).current = a.plan
            let stored :=
              { s.stored with offsets := vset s.stored.offsets j (vset (vget s.stored.offsets j) i o) }
            (resync → exec (.writeOffset f) s = .next
              (State.answered
                { s with stored := stored, members := vset s.members i { s.member i with resync := true } }
                f .writeOffset [] .ok [.n2 o]))
            ∧ (¬ resync → exec (.writeOffset f) s = .next
                (State.answered { s with stored := stored } f .writeOffset [] .ok [.n2 o]))))

/-- READ_PLAN: a defined plan's cycle, pattern and method, its in-use marker and its three reference counts. READ_OFFSET: the
plan's cycle and the offsets of the counted intersections in ascending order (R24, R28). That yes and no are coded 1
and 0 (log entry 12), and that the reply for a defined plan begins with a byte 1 for defined, which R24 does not name (log entry 14),
are the model's choices. -/
def Obligations.PlansAndOffsetsAreRead : Prop :=
  (∀ (s : State) (f : RequestFrame) (k : Nat), s.Serves f → s.NoneIdle → parseByte f.payload = some k →
    (¬ (1 ≤ k ∧ k ≤ 48) → exec (.readPlan f) s = .next (s.answered f .readPlan [] .badArg []))
    ∧ (∀ j : Fin 48, k = j.val + 1 →
        (vget s.stored.plans j = none → exec (.readPlan f) s = .next (s.answered f .readPlan [] .ok [.n1 0]))
        ∧ (∀ p b, vget s.stored.plans j = some p → ((b = 1 ∧ s.InUse k) ∨ (b = 0 ∧ ¬ s.InUse k)) →
            exec (.readPlan f) s = .next (s.answered f .readPlan [] .ok
              [.n1 1, .n2 p.cycle, .n1 p.pattern, .n1 p.method.code, .n1 b,
                .n1 (allGroups.filter fun g =>
                  decide ((s.group g).current = k ∨ (s.group g).target = k ∨ (s.group g).wanted = k)).length,
                .n2 ((s.stored.recurring ++ s.stored.dated).filter fun x => decide (x.plan = k)).length,
                .n1 (allGroups.filter fun g => decide (∃ h ∈ (s.group g).hold, h.plan = k)).length]))))
  ∧ (∀ (s : State) (f : RequestFrame) (a : ReadOffsetArgs), s.Serves f → s.NoneIdle → parseReadOffset f.payload = some a →
    let fits : Prop := 1 ≤ a.plan ∧ a.plan ≤ 48 ∧ a.first ≤ 63 ∧ 1 ≤ a.count ∧ a.count ≤ 16 ∧ a.first + a.count ≤ 64
    (¬ fits → exec (.readOffset f) s = .next (s.answered f .readOffset [] .badArg []))
    ∧ (∀ j : Fin 48, fits → a.plan = j.val + 1 →
        (vget s.stored.plans j = none → exec (.readOffset f) s = .next (s.answered f .readOffset [] .notFound []))
        ∧ (∀ p, vget s.stored.plans j = some p →
            exec (.readOffset f) s = .next (s.answered f .readOffset [] .ok
              (.n2 p.cycle :: .n1 a.count
                :: ((allIx.filter fun i => decide (a.first ≤ i.val ∧ i.val < a.first + a.count)).map
                      fun i => .n2 (vget (vget s.stored.offsets j) i)))))))

/-- WRITE_PARAMS with no COMMIT in flight: an empty, too long or repeating list, or an unknown identifier, is refused BAD_ARG;
otherwise each value is clamped into its range of Table 3-2, all are stored at once, and the reply echoes what was stored. A
list that leaves P and H as they were touches nothing else; a changed P or H judges the running timers at once (R8, R29, R30,
R31). When both timers have run out, either is taken first: a free choice (log entry 9). That the reply echoes each value in 2
bytes (log entry 14), and that on a free transmitter the reply is begun before the notices of the same instant (log entry 19), are the
model's choices. -/
def Obligations.WriteParamsClampsAndStores : Prop :=
  ∀ (s : State) (f : RequestFrame) (items : List ParamItem), s.Serves f → s.NoneIdle → f.port ≠ .event →
    parseParamList f.payload = some items → s.cfs.commit = none →
    let fits : Prop := 1 ≤ items.length ∧ items.length ≤ 8 ∧ (∀ x ∈ items, x.ident ≤ 7) ∧ (items.map (·.ident)).Nodup
    let range : Nat → Nat × Nat := fun k =>
      match k with
      | 0 => (60, 3600)
      | 1 => (1, 24)
      | 2 => (10, 120)
      | 3 => (0, 30)
      | 4 => (0, 25)
      | 5 => (1, 20)
      | 6 => (0, 7)
      | _ => (1, 4)
    let clamped (k v : Nat) : Nat := max (range k).1 (min (range k).2 v)
    let value (k old : Nat) : Nat :=
      match items.find? fun x => decide (x.ident = k) with
      | some x => clamped k x.value
      | none => old
    let q := s.stored.params
    let q' : Params :=
      ⟨value 0 q.markPeriod, value 1 q.holdover, value 2 q.lead, value 3 q.lpct, value 4 q.spct, value 5 q.tol,
        value 6 q.grace, value 7 q.deglitch⟩
    let written : State := { s with stored := { s.stored with params := q' } }
    let echo : List Item := .n1 items.length :: items.flatMap fun x => [.n1 x.ident, .n2 (clamped x.ident x.value)]
    let out2P : Prop := s.tref.state = .locked ∧ ∃ a, s.tref.timerStart = some a ∧ a + 20 * q'.markPeriod ≤ s.crystal / 100
    let outH : Prop := (s.tref.state = .locked ∨ s.tref.state = .holdover)
      ∧ ∃ a, s.tref.timerStart = some a ∧ a + 36000 * q'.holdover ≤ s.crystal / 100
    let changed : Prop := q'.markPeriod ≠ q.markPeriod ∨ q'.holdover ≠ q.holdover
    (¬ fits → exec (.writeParams f) s = .next (s.answered f .writeParams [] .badArg []))
    ∧ (fits → (¬ changed ∨ (¬ out2P ∧ ¬ outH)) →
        exec (.writeParams f) s = .next (written.answered f .writeParams [] .ok echo))
    ∧ (fits → changed → out2P → ¬ outH →
        exec (.writeParams f) s = .next
          (State.answered { written with tref := { s.tref with state := .holdover } } f .writeParams
            [⟨s.tref.e, .timeState .holdover .locked .timer⟩] .ok echo))
    ∧ (fits → changed → ¬ out2P → outH →
        exec (.writeParams f) s = .next
          (State.answered { written with tref := { s.tref with state := .untimed, timerStart := none } } f .writeParams
            [⟨s.tref.e, .timeState .untimed s.tref.state .timer⟩] .ok echo))
    ∧ (fits → changed → out2P → outH → ∃ ns,
        (ns = [⟨s.tref.e, .timeState .untimed .locked .timer⟩]
          ∨ ns = [⟨s.tref.e, .timeState .holdover .locked .timer⟩, ⟨s.tref.e, .timeState .untimed .holdover .timer⟩])
        ∧ exec (.writeParams f) s = .next
            (State.answered
              { written with tref := { s.tref with state := .untimed, timerStart := none }, freeUses := s.freeUses + 1 }
              f .writeParams ns .ok echo))

/-- WRITE_SEGMENT_PARAMS with no COMMIT in flight: the same for the four parameters of one segment; values already in use keep
the old value, so nothing but the stored parameters changes (R148). A value echoed goes in 1 byte, since its range lies within 0
to 255 (R187). -/
def Obligations.WriteSegmentParamsClampsAndStores : Prop :=
  ∀ (s : State) (f : RequestFrame) (a : SegParamArgs), s.Serves f → s.NoneIdle → f.port ≠ .event →
    parseSegParams f.payload = some a → s.cfs.commit = none →
    let fits : Prop := a.segment ≤ 3 ∧ 1 ≤ a.items.length ∧ a.items.length ≤ 4 ∧ (∀ x ∈ a.items, x.ident ≤ 3)
      ∧ (a.items.map (·.ident)).Nodup
    let range : Nat → Nat × Nat := fun k =>
      match k with
      | 0 => (1, 10)
      | 1 => (1, 8)
      | 2 => (10, 40)
      | _ => (0, 15)
    let clamped (k v : Nat) : Nat := max (range k).1 (min (range k).2 v)
    let value (k old : Nat) : Nat :=
      match a.items.find? fun x => decide (x.ident = k) with
      | some x => clamped k x.value
      | none => old
    (¬ fits → exec (.writeSegmentParams f) s = .next (s.answered f .writeSegmentParams [] .badArg []))
    ∧ (∀ k : SegNo, fits → a.segment = k.val →
        let q := vget s.stored.segParams k
        exec (.writeSegmentParams f) s = .next
          (State.answered
            { s with stored := { s.stored with
                segParams := vset s.stored.segParams k ⟨value 0 q.poll, value 1 q.ta, value 2 q.rw, value 3 q.ext⟩ } }
            f .writeSegmentParams [] .ok
            (.n1 a.items.length :: a.items.flatMap fun x => [.n1 x.ident, .n1 (clamped x.ident x.value)])))

/-- READ_PARAMS carries the eight part-scope parameters in the order of Table 3-2, the four parameters of each segment in turn,
and the event group set (R32). That the segments go without a count byte, and the widths of the parameters, are the model's choice
(log entry 14). -/
def Obligations.ReadParamsReportsEveryParameter : Prop :=
  ∀ (s : State) (f : RequestFrame), s.Serves f → s.NoneIdle → f.payload = [] →
    let q := s.stored.params
    let seg (k : SegNo) : List Item :=
      [.n1 (vget s.stored.segParams k).poll, .n1 (vget s.stored.segParams k).ta, .n1 (vget s.stored.segParams k).rw,
        .n1 (vget s.stored.segParams k).ext]
    exec (.readParams f) s = .next (s.answered f .readParams [] .ok
      ([.n2 q.markPeriod, .n1 q.holdover, .n1 q.lead, .n1 q.lpct, .n1 q.spct, .n1 q.tol, .n1 q.grace, .n1 q.deglitch]
        ++ seg 0 ++ seg 1 ++ seg 2 ++ seg 3 ++ [.n2 s.stored.eventGroups.toNat]))

/-- SET_EVENT_GROUPS and SET_POLICY with no COMMIT in flight replace the event group set, and the policy and scope of one fault
class; standing entries, holds, conditions, latches and suspensions stay as they are (R33, R165). -/
def Obligations.EventGroupsAndPoliciesAreReplaced : Prop :=
  ∀ (s : State) (f : RequestFrame), s.Serves f → s.NoneIdle → f.port ≠ .event → s.cfs.commit = none →
    (∀ mask, parseMask f.payload = some mask →
      exec (.setEventGroups f) s = .next
        (State.answered { s with stored := { s.stored with eventGroups := mask } } f .setEventGroups [] .ok
          [.n2 mask.toNat]))
    ∧ (∀ (a : SetPolicyArgs), parseSetPolicy f.payload = some a →
        (5 < a.cls ∨ 3 < a.policy ∨ 1 < a.scope →
          exec (.setPolicy f) s = .next (s.answered f .setPolicy [] .badArg []))
        ∧ (∀ (c : FaultClass) (p : Policy) (sc : Scope), a.cls = c.code → a.policy = p.code → a.scope = sc.code →
            exec (.setPolicy f) s = .next
              (State.answered { s with stored := { s.stored with policies := s.stored.policies.set c ⟨p, sc⟩ } } f
                .setPolicy [] .ok [.n1 p.code, .n1 sc.code])))

/-- While a COMMIT is in flight every request that writes stored configuration and reaches its owning block is refused
STORE_BUSY and changes nothing; so is another COMMIT (R19, R182, R183). -/
def Obligations.StoredWritesWaitForTheCommit : Prop :=
  ∀ (s : State) (f : RequestFrame) (c : Instr) (rq : Request), s.Serves f → s.NoneIdle → s.cfs.commit.isSome = true →
    c.request = some (f, rq) → c.payloadFits = true → rq.allowed f.port = true →
    (rq = .writePlan ∨ rq = .deletePlan ∨ rq = .writeOffset ∨ rq = .writeParams ∨ rq = .setEventGroups ∨ rq = .addEntry
      ∨ rq = .removeEntry ∨ rq = .setMembers ∨ rq = .setMap ∨ rq = .enableSegment ∨ rq = .disableSegment
      ∨ rq = .writeSegmentParams ∨ rq = .setPolicy ∨ rq = .commit) →
    exec c s = .next (s.answered f rq [] .storeBusy [])

/-! ### The timetable -/

/-- ADD_ENTRY: the fields of orders 2 to 7 of Table 4-3 that name a kind; and, for an entry that passes every check, the entry
stored with the port's role, its place in its list, the reply and the evaluation of its groups (R38, R40, R41, R42). That the day
mask is the seven low bits of the 2-byte day field is the model's reading (log entry 15). -/
def Obligations.AddEntryStoresTheEntry : Prop :=
  ∀ (s : State) (f : RequestFrame) (a : AddEntryArgs), s.Serves f → s.NoneIdle → parseAddEntry f.payload = some a →
    s.cfs.commit = none →
    let common : Prop := a.groups ≠ 0#16 ∧ a.plan ≤ 48 ∧ a.priority ≤ 7 ∧ a.startMinute ≤ 1439
    let start := a.dayField * 864000 + a.startMinute * 600
    let ofKind : EntryKind → Prop := fun kind =>
      match kind with
      | .recurring d => a.kind = 0 ∧ common ∧ d = BitVec.ofNat 7 a.dayField ∧ d ≠ 0#7 ∧ a.ends = none
      | .dated day ends => a.kind = 1 ∧ common ∧ day = a.dayField ∧ day ≤ 65535 ∧ ends = a.ends
          ∧ ∀ m, a.ends = some m → m.minute ≤ 1439 ∧ m.day ≤ 65535 ∧ start < m.day * 864000 + m.minute * 600
    let rights : EntryKind → Prop := fun kind =>
      f.port = .event → (∃ day ends, kind = .dated day ends) ∧ a.groups &&& ~~~s.stored.eventGroups = 0#16
    let known : Prop := a.plan = 0 ∨ ∃ p, s.stored.plan a.plan = some p
    let taken : Prop := ∃ x ∈ s.stored.recurring ++ s.stored.dated, x.id = a.id
    let count := s.stored.recurring.length + s.stored.dated.length
    let passed : Prop := a.kind = 1 ∧ s.tref.state ≠ .unset
      ∧ ∃ m, a.ends = some m ∧ m.day * 864000 + m.minute * 600 ≤ s.tref.e
    let refused (st : Status) : Prop := exec (.addEntry f) s = .next (s.answered f .addEntry [] st [])
    ((∀ kind, ¬ ofKind kind) → refused .badArg)
    ∧ (∀ kind, ofKind kind → ¬ rights kind → refused .denied)
    ∧ (∀ kind, ofKind kind → rights kind → ¬ known → refused .notFound)
    ∧ (∀ kind, ofKind kind → rights kind → known → taken → refused .inUse)
    ∧ (∀ kind, ofKind kind → rights kind → known → ¬ taken → 256 ≤ count → refused .full)
    ∧ (∀ kind, ofKind kind → rights kind → known → ¬ taken → count < 256 → passed → refused .badArg)
    ∧ (∀ kind, ofKind kind → rights kind → known → ¬ taken → count < 256 → ¬ passed →
        let x : Entry := ⟨a.id, f.port, kind, a.groups, a.plan,
          if f.port = .event ∧ 3 < a.priority then 3 else a.priority, a.startMinute, a.tag⟩
        let list := if a.kind = 1 then s.stored.dated else s.stored.recurring
        let position := (list.takeWhile fun y => !x.before y).length
        let joined := list.take position ++ x :: list.drop position
        exec (.addEntry f) s = .next
          (State.answered
            { s with
              stored := if a.kind = 1 then { s.stored with dated := joined } else { s.stored with recurring := joined }
              owed := s.owed ++ [⟨a.groups⟩] }
            f .addEntry [] .ok [.n1 a.id, .n1 x.priority, .n1 a.kind, .n1 position, .n2 (count + 1)]))

/-- REMOVE_ENTRY with no COMMIT in flight: NOT_FOUND, DENIED below the owner's rank, else the entry leaves its list, the reply
carries its kind, plan, tag and group set, and one evaluation of that set is triggered (R43). -/
def Obligations.RemoveEntryTakesTheEntryOut : Prop :=
  ∀ (s : State) (f : RequestFrame) (id : Nat), s.Serves f → s.NoneIdle → parseByte f.payload = some id →
    s.cfs.commit = none → ((s.stored.recurring ++ s.stored.dated).map (·.id)).Nodup →
    ((∀ x ∈ s.stored.recurring ++ s.stored.dated, x.id ≠ id) →
      exec (.removeEntry f) s = .next (s.answered f .removeEntry [] .notFound []))
    ∧ (∀ x ∈ s.stored.recurring ++ s.stored.dated, x.id = id → rank f.port < rank x.owner →
        exec (.removeEntry f) s = .next (s.answered f .removeEntry [] .denied []))
    ∧ (∀ x ∈ s.stored.recurring ++ s.stored.dated, x.id = id → rank x.owner ≤ rank f.port →
        exec (.removeEntry f) s = .next
          (State.answered
            { s with
              stored := { s.stored with
                recurring := s.stored.recurring.filter fun y => decide (y.id ≠ id)
                dated := s.stored.dated.filter fun y => decide (y.id ≠ id) }
              owed := s.owed ++ [⟨x.groups⟩] }
            f .removeEntry [] .ok
            [.n1 (if x.isDated then 1 else 0), .n1 x.plan, .n2 x.tag.toNat, .n2 x.groups.toNat]))

/-- The latest occurrence of a recurring entry at or before E is the greatest occurrence instant not above E, and it does not
exist when E lies before the first (R39). -/
def Obligations.LatestOccurrenceIsTheGreatest : Prop :=
  ∀ (days : BitVec 7) (minute e : Nat), minute ≤ 1439 → e ≤ 56623103999 →
    let occurrence (o : Nat) : Prop :=
      ∃ d, d ≤ 65535 ∧ days.getLsbD (d % 7) = true ∧ o = d * 864000 + minute * 600
    (∀ o, latestOccurrence days minute e = some o →
      occurrence o ∧ o ≤ e ∧ e < o + 6048000 ∧ ∀ o', occurrence o' → o' ≤ e → o' ≤ o)
    ∧ (latestOccurrence days minute e = none → ∀ o, occurrence o → e < o)

/-- The governing entry of a group: an active dated entry of highest priority, then latest start, then lowest id; with none
active, the covering recurring entry of latest occurrence, then highest priority, then lowest id; with neither, none (R51,
R52). -/
def Obligations.GoverningEntryIsChosenByTheTable : Prop :=
  ∀ (t : Stored) (g : GroupNo) (e : Nat),
    let active (x : Entry) : Prop := x ∈ t.dated ∧ x.groups.getLsbD g.val = true
      ∧ ∃ day ends, x.kind = .dated day ends ∧ day * 864000 + x.startMinute * 600 ≤ e
        ∧ ∀ m, ends = some m → e < m.day * 864000 + m.minute * 600
    let start (x : Entry) : Nat :=
      match x.kind with
      | .dated day _ => day * 864000 + x.startMinute * 600
      | .recurring _ => 0
    let occurs (x : Entry) (o : Nat) : Prop := x ∈ t.recurring ∧ x.groups.getLsbD g.val = true
      ∧ ∃ days, x.kind = .recurring days ∧ latestOccurrence days x.startMinute e = some o
    (∀ x, active x → ∃ w, t.governing g e = some w ∧ active w)
    ∧ (∀ w y, t.governing g e = some w → active w → active y →
        y.priority ≤ w.priority ∧ (y.priority = w.priority → start y ≤ start w
          ∧ (start y = start w → w.id ≤ y.id)))
    ∧ (∀ x o, (∀ y, ¬ active y) → occurs x o → ∃ w o', t.governing g e = some w ∧ occurs w o')
    ∧ (∀ w y o o', (∀ z, ¬ active z) → t.governing g e = some w → occurs w o → occurs y o' →
        o' ≤ o ∧ (o' = o → y.priority ≤ w.priority ∧ (y.priority = w.priority → w.id ≤ y.id)))
    ∧ ((∀ y, ¬ active y) → (∀ y o, ¬ occurs y o) → t.governing g e = none)

/-- An evaluation that is taken: while TREF is LOCKED or HOLDOVER the dated list is tidied first, by end and by supersession, with an
ENTRY_EXPIRED notice for each entry that leaves, and the groups that lose an entry join the scope. Each group of the scope records
the plan it then wants with its source; one whose wanted plan differs from its target and that is not SUSPENDED starts a switch to
it, with Ts at E plus the lead time, its SWITCH_STARTED notice, and its members ordered, released, or left with a failing check. A
member found EXCLUDED loses an ORDER of another plan, with the condition that stood for it, and the conditions of the old transition and
check; one that something else holds out stays, and any other returns: for target 0 it is released to FREE, else it keeps its ORDER of
the target or is ordered, or left with a failing check. Groups outside the scope, members of groups that start no switch, and members
that are in none of these states keep their records (R15, R47 to R53, R59, R72 to R75, R84, R87, R88, R113, R127, R163). That an owed
evaluation may be taken from any place in the queue (log entry 3), what the notice counts as ordered and as waiting (log entry 27), and
that a member excluded by this start is not taken again (log entry 44), are the model's choices. -/
def Obligations.EvaluationRecordsWantedPlans : Prop :=
  ∀ (s : State) (n : Nat) (v : OwedEvaluation), s.NoneIdle → s.owed[n]? = some v →
    let e := s.tref.e
    let ts := e + 10 * s.stored.params.lead
    let consults : Bool := decide (s.tref.state = .locked ∨ s.tref.state = .holdover)
    let ended (x : Entry) : Bool :=
      match x.kind with
      | .dated _ (some m) => decide (m.day * 864000 + m.minute * 600 ≤ e)
      | _ => false
    let superseded (x : Entry) (g : GroupNo) : Bool :=
      match x.kind with
      | .dated day none =>
          s.stored.recurring.any fun y => y.groups.getLsbD g.val
            && (match y.kind with
                | .recurring days =>
                    (latestOccurrence days y.startMinute e).any fun o => decide (day * 864000 + x.startMinute * 600 < o)
                | .dated _ _ => false)
      | _ => false
    let loses (x : Entry) (g : GroupNo) : Bool := x.groups.getLsbD g.val && (ended x || superseded x g)
    let leaves (x : Entry) : Bool :=
      match x.kind with
      | .dated _ none => allGroups.all fun g => !x.groups.getLsbD g.val || superseded x g
      | _ => ended x
    let inScope (g : GroupNo) : Bool := v.scope.getLsbD g.val || (consults && s.stored.dated.any fun x => loses x g)
    ∃ t ns, exec (.evaluation n) s = .next t ∧ t.owed = s.owed.eraseIdx n ∧ t.tref = s.tref ∧ t.cfs = s.cfs
      ∧ t.polls = s.polls ∧ t.stored = { s.stored with dated := t.stored.dated } ∧ t.ports = s.announced ns
      ∧ (consults = false → t.stored = s.stored)
      ∧ (consults = true →
          let kept := s.stored.dated.filter fun x => !leaves x
          t.stored.dated.length = kept.length
            ∧ ∀ (j : Nat) (x y : Entry), kept[j]? = some x → t.stored.dated[j]? = some y →
                y = { x with groups := y.groups }
                ∧ ∀ g : GroupNo, y.groups.getLsbD g.val = (x.groups.getLsbD g.val && !loses x g))
      ∧ (ns.filter fun a => a.body.kind = 4) =
          (if consults then
            (s.stored.dated.filter leaves).map fun x =>
              (⟨e, .entryExpired x.id x.tag (if ended x then .ended else .superseded) x.owner x.plan⟩ : Notice)
          else [])
      ∧ (∀ g, inScope g = true →
          s.Wants t g (t.group g).wanted (t.group g).source ∧ (t.group g).hold = (s.group g).hold)
      ∧ (∀ g, inScope g = false → t.group g = s.group g)
      ∧ (let switches (g : GroupNo) : Bool :=
          inScope g && decide ((t.group g).wanted ≠ (s.group g).target ∧ (s.group g).state ≠ .suspended)
        let ordered (m : Member) (p : Nat → Bool) : Bool :=
          m.order.any fun o => decide (o.kind = .order) && p o.payload.plan
        let held (m : Member) (w : Nat) : Bool := [FaultClass.noReply, .orderMissed, .transitionLate, .transitionBlocked,
            .capability, .alert].any fun c => (m.faults.get c).latched
          || ((m.faults.get c).standing && decide ((m.faults.get c).applied = some .recovering)
              && (decide (c = .noReply ∨ c = .alert)
                  || (decide (c = .orderMissed) && !ordered m fun plan => decide (plan ≠ w))))
        let returns (m : Member) (w : Nat) : Bool := decide (m.state = .excluded) && !held m w
        let passes (m : Member) (w : Nat) : Bool := decide (w = 0) || s.stored.activation m w
        (∀ g, inScope g = true → switches g = false →
          t.group g = { s.group g with wanted := (t.group g).wanted, source := (t.group g).source })
        ∧ (∀ g, switches g = true →
            (s.stored.policies.get .capability = ⟨.latched, .group⟩ ∧ (t.group g).state = .suspended)
            ∨ t.group g =
                { s.group g with
                  wanted := (t.group g).wanted, source := (t.group g).source, target := (t.group g).wanted
                  ts := some ts, state := .pending })
        ∧ (ns.filter fun a => a.body.kind = 2) =
            ((allGroups.filter switches).map fun g =>
              let w := (t.group g).wanted
              (⟨e, .switchStarted g w (s.group g).target (s.group g).current ts (t.group g).source
                (allIx.filter fun i => decide (s.groupOf i = some g)
                  && (((s.member i).state.taken
                        && (passes (s.member i) w || (s.member i).state.eligible || ordered (s.member i) fun _ => true))
                      || (returns (s.member i) w
                        && (passes (s.member i) w || ordered (s.member i) fun plan => decide (plan = w))))).length
                (allIx.filter fun i => decide (s.groupOf i = some g)
                  && !(s.member i).state.taken && !returns (s.member i) w).length⟩ : Notice))
        ∧ (∀ i, (∀ g, s.groupOf i = some g → switches g = false) → t.member i = s.member i)
        ∧ ∀ i g, s.groupOf i = some g → switches g = true → (t.group g).state = .pending →
            let m := s.member i
            let w := (t.group g).wanted
            let old := m.faults.get .capability
            let failed : Prop := ((t.member i).faults.get .capability).count = min 255 (old.count + 1)
              ∧ (t.member i).state =
                  (match (s.stored.policies.get .capability).policy with
                  | .latched => .latched
                  | .recovering => .excluded
                  | _ => .free)
            (m.Taken → w = 0 → (t.member i).state = .ordered ∧ t.Released i ts)
            ∧ (m.Taken → w ≠ 0 → s.stored.activation m w = true → t.Ordered i w ts)
            ∧ (m.Taken → w ≠ 0 → s.stored.activation m w = false → failed)
            ∧ (returns m w = true → w = 0 → (t.member i).state = .free ∧ t.Released i e)
            ∧ (∀ o, returns m w = true → w ≠ 0 → m.order = some o → o.kind = .order → o.payload.plan = w →
                (t.member i).state = .ordered ∧ (t.member i).order = some o)
            ∧ (returns m w = true → w ≠ 0 → (ordered m fun plan => decide (plan = w)) = false →
                (s.stored.activation m w = true → t.Ordered i w ts) ∧ (s.stored.activation m w = false → failed))
            ∧ (m.state = .excluded → held m w = true →
                (t.member i).state = .excluded
                ∧ (t.member i).order = (m.order.filter fun o => decide (o.kind = .order → o.payload.plan = w))
                ∧ ∀ c, c = .transitionLate ∨ c = .transitionBlocked ∨ c = .capability →
                    ((t.member i).faults.get c).standing = false)
            ∧ (¬ m.Taken → m.state ≠ .excluded → t.member i = s.member i))

/-! ### Holds -/

/-- PLACE_HOLD: the checks of Table 5-2 in their order; a placement that passes fills the slot, displaces a standing hold with
its HOLD_ENDED notice of cause REPLACED, and triggers the evaluation of the group. RELEASE_HOLD: BAD_ARG, NOT_FOUND for an empty
slot or another tag, DENIED below the owner's rank, else the slot becomes empty, no notice is offered, and the evaluation of the
group is triggered (R58, R60, R61, R63, R67). That yes and no are coded 1 and 0 (log entry 12), that the replaced hold's role, plan and
tag stand under one presence byte after the replacement marker (log entry 14), and that on a free transmitter the reply is begun before
the notice of the same instant (log entry 19), are the model's choices. -/
def Obligations.HoldsArePlacedAndReleased : Prop :=
  (∀ (s : State) (f : RequestFrame) (a : PlaceHoldArgs), s.Serves f → s.NoneIdle → parsePlaceHold f.payload = some a →
    let fits : Prop := a.group ≤ 15 ∧ a.plan ≤ 48 ∧ ∀ m, a.ends = some m → m.day ≤ 65535 ∧ m.minute ≤ 1439
    let endItems (o : Option EpochMinute) : List Item :=
      match o with
      | none => [.absent 4]
      | some m => [.present, .n2 m.day, .n2 m.minute]
    let refused (st : Status) : Prop := exec (.placeHold f) s = .next (s.answered f .placeHold [] st [])
    (¬ fits → refused .badArg)
    ∧ (∀ g : GroupNo, fits → a.group = g.val →
        let mayEvent : Prop := f.port = .event → s.stored.eventGroups.getLsbD g.val = true
        let known : Prop := a.plan = 0 ∨ ∃ p, s.stored.plan a.plan = some p
        let timed : Prop := a.ends = none ∨ s.tref.state ≠ .unset
        let ahead : Prop := ∀ m, a.ends = some m → s.tref.e < m.day * 864000 + m.minute * 600
        let new : Hold := ⟨f.port, a.plan, a.ends, a.tag, s.tref.e⟩
        let placed : State :=
          { s with groups := vset s.groups g { s.group g with hold := some new }, owed := s.owed ++ [⟨oneGroup g⟩] }
        let reply : List Item := [.n1 g.val, .n1 a.plan] ++ endItems a.ends ++ [.n2 a.tag.toNat]
        (¬ mayEvent → refused .denied)
        ∧ (mayEvent → ¬ known → refused .notFound)
        ∧ (mayEvent → known → ¬ timed → refused .untimed)
        ∧ (mayEvent → known → timed → ¬ ahead → refused .badArg)
        ∧ (∀ h, mayEvent → known → timed → ahead → (s.group g).hold = some h → rank f.port < rank h.owner →
            exec (.placeHold f) s = .next (s.answered f .placeHold [] .heldByOther
              ([.n1 (roleCode h.owner), .n1 h.plan] ++ endItems h.ends)))
        ∧ (∀ h, mayEvent → known → timed → ahead → (s.group g).hold = some h → rank h.owner ≤ rank f.port →
            exec (.placeHold f) s = .next
              (placed.answered f .placeHold [⟨s.tref.e, .holdEnded g h (.replaced f.port)⟩] .ok
                (reply ++ [.n1 1, .present, .n1 (roleCode h.owner), .n1 h.plan, .n2 h.tag.toNat])))
        ∧ (mayEvent → known → timed → ahead → (s.group g).hold = none →
            exec (.placeHold f) s = .next (placed.answered f .placeHold [] .ok (reply ++ [.n1 0, .absent 4])))))
  ∧ (∀ (s : State) (f : RequestFrame) (a : ReleaseHoldArgs), s.Serves f → s.NoneIdle → parseReleaseHold f.payload = some a →
    let refused (st : Status) : Prop := exec (.releaseHold f) s = .next (s.answered f .releaseHold [] st [])
    (15 < a.group → refused .badArg)
    ∧ (∀ g : GroupNo, a.group = g.val →
        ((s.group g).hold = none → refused .notFound)
        ∧ (∀ h t, (s.group g).hold = some h → a.tag = some t → t ≠ h.tag → refused .notFound)
        ∧ (∀ h, (s.group g).hold = some h → (∀ t, a.tag = some t → t = h.tag) → rank f.port < rank h.owner →
            refused .denied)
        ∧ (∀ h, (s.group g).hold = some h → (∀ t, a.tag = some t → t = h.tag) → rank h.owner ≤ rank f.port →
            exec (.releaseHold f) s = .next
              (State.answered
                { s with groups := vset s.groups g { s.group g with hold := none }, owed := s.owed ++ [⟨oneGroup g⟩] }
                f .releaseHold [] .ok
                ([.n1 (roleCode h.owner), .n1 h.plan]
                  ++ (match h.ends with
                      | none => [.absent 4]
                      | some m => [.present, .n2 m.day, .n2 m.minute])
                  ++ [.n2 h.tag.toNat])))))
/-! ### Group coordination -/

/-- SET_MEMBERS with no COMMIT in flight: the written list becomes the group's, listed intersections leave their former groups,
the others of the old list have no group; a list equal to the present one changes nothing; a changed table is followed by one
evaluation for the group and one for each group that lost a member. A member that leaves a coordinating group is released: in FREE,
ORDERED, CORRECTING or IN_STEP to FREE, and in EXCLUDED to FREE when nothing holds it out then; one that leaves in UNKNOWN, LATCHED or
OFFLINE, or leaves another group, keeps its record. A FREE member, and one so freed, that joins a coordinating group is ordered for its
target, at the later of Ts and E plus the lead time while the group is PENDING, else at E plus the lead time; one whose check fails has
CAPABILITY raised; one that joins a group of target 0 stays as it left. Every other member that joins or stays in the group keeps what it
has, unless a failing check suspends the group; members of no concern, and groups that neither gain nor lose a member, keep their records
(R34, R35, R36, R72, R73, R85, R86, R88, R113). That an equal list triggers no evaluation (log entry 21), and that an EXCLUDED leaver
whom nothing holds is FREE (log entry 29), are the model's choices. -/
def Obligations.SetMembersWritesTheTable : Prop :=
  ∀ (s : State) (f : RequestFrame) (a : SetMembersArgs), s.Serves f → s.NoneIdle → f.port ≠ .event →
    parseSetMembers f.payload = some a → s.cfs.commit = none →
    let fits : Prop := a.group ≤ 15 ∧ (∀ n ∈ a.list, n ≤ 63) ∧ a.list.Nodup
    (¬ fits → exec (.setMembers f) s = .next (s.answered f .setMembers [] .badArg []))
    ∧ (∀ g : GroupNo, fits → a.group = g.val →
        let table : Vector (Option GroupNo) 64 := Vector.ofFn fun i =>
          if i.val ∈ a.list then some g else if s.groupOf i = some g then none else s.groupOf i
        let list := allIx.filter fun i => decide (i.val ∈ a.list)
        let taken := allIx.filterMap fun i =>
          match s.groupOf i with
          | some h => if i.val ∈ a.list ∧ h ≠ g then some (i, h) else none
          | none => none
        let gone := allIx.filter fun i => decide (s.groupOf i = some g ∧ i.val ∉ a.list)
        let reply : List Item :=
          (.n1 list.length :: list.map fun i => .n1 i.val)
            ++ (.n1 taken.length :: taken.flatMap fun x => [.n1 x.1.val, .n1 x.2.val])
            ++ (.n1 gone.length :: gone.map fun i => .n1 i.val)
        (table = s.stored.groupOf → exec (.setMembers f) s = .next (s.answered f .setMembers [] .ok reply))
        ∧ (table ≠ s.stored.groupOf →
            ∃ t, exec (.setMembers f) s = .next t ∧ t.stored = { s.stored with groupOf := table } ∧ t.tref = s.tref
              ∧ t.cfs = s.cfs ∧ t.polls = s.polls ∧ t.HasReply f .setMembers .ok reply
              ∧ t.owed = s.owed ++ [⟨oneGroup g⟩]
                  ++ (allGroups.filter fun h => decide (∃ x ∈ taken, x.2 = h)).map (fun h => ⟨oneGroup h⟩)
              ∧ (∀ h, h ≠ g → (∀ x ∈ taken, x.2 ≠ h) → t.group h = s.group h)
              ∧ ∀ i,
                  let m := s.member i
                  let m' := t.member i
                  let pair := s.stored.policies.get .capability
                  let suspended : Prop := pair = ⟨.latched, .group⟩ ∧ (s.group g).state ≠ .suspended
                    ∧ (t.group g).state = .suspended
                  let leaves : Bool := (s.groupOf i).any fun h =>
                    (i.val ∉ a.list || decide (h ≠ g)) && (s.group h).state.coordinating
                  let heldStill : Bool := [FaultClass.noReply, .orderMissed, .transitionLate, .transitionBlocked, .capability,
                      .alert].any fun c => (m.faults.get c).latched
                    || ((m.faults.get c).standing && decide ((m.faults.get c).applied = some .recovering)
                        && decide (c = .noReply ∨ c = .capability ∨ c = .alert))
                  let freed : Bool := leaves && (m.state.taken || (decide (m.state = .excluded) && !heldStill))
                  (i.val ∉ a.list → s.groupOf i ≠ some g → m' = m)
                  ∧ (s.groupOf i = some g → i.val ∉ a.list →
                      (freed = true → m'.state = .free ∧ t.Released i s.tref.e)
                      ∧ (leaves = true → m.state = .excluded → heldStill = true →
                          m'.state = .excluded ∧ t.Released i s.tref.e)
                      ∧ (leaves = false ∨ m.state = .unknown ∨ m.state = .latched ∨ m.state = .offline → m' = m))
                  ∧ (s.groupOf i = some g → i.val ∈ a.list → suspended ∨ m' = m)
                  ∧ (s.groupOf i ≠ some g → i.val ∈ a.list →
                      let plan := (s.group g).target
                      let soon := s.tref.e + 10 * s.stored.params.lead
                      let old := m.faults.get .capability
                      (m.state = .unknown ∨ m.state = .latched ∨ m.state = .offline
                          ∨ (leaves = false ∧ m.state ≠ .free) → suspended ∨ m' = m)
                      ∧ (leaves = true → m.state = .excluded → heldStill = true →
                          suspended ∨ (m'.state = .excluded ∧ t.Released i s.tref.e))
                      ∧ ((s.group g).state = .free ∨ (s.group g).state = .suspended
                            ∨ ((s.group g).state = .pending ∧ plan = 0) →
                          (freed = true → m'.state = .free ∧ t.Released i s.tref.e)
                          ∧ (leaves = false → m' = m))
                      ∧ ∀ tm, m.state = .free ∨ freed = true →
                        ((s.group g).state = .pending ∧ plan ≠ 0 ∧ ∃ ts, (s.group g).ts = some ts ∧ tm = max ts soon)
                          ∨ (((s.group g).state = .transition ∨ (s.group g).state = .steady) ∧ tm = soon) →
                        (s.stored.activation m plan = true → suspended ∨ t.Ordered i plan tm)
                        ∧ (s.stored.activation m plan = false → suspended
                            ∨ (m'.faults.get .capability).count = min 255 (old.count + 1)
                              ∧ m'.state =
                                  (match pair.policy with | .latched => .latched | .recovering => .excluded | _ => .free)))))

/-- Ts of a PENDING group is reached: with target 0 the group goes to FREE and its ORDERED members to FREE; with an ORDERED
member it goes to TRANSITION on the target; with none it goes straight to STEADY with a GROUP_STEADY notice; before Ts, and
outside PENDING, nothing happens (R79, R91). That a TS_REACHED which comes there has no effect is the model's choice (log entry
2). -/
def Obligations.ReachingTsChangesTheCurrentPlan : Prop :=
  ∀ (s : State) (g : GroupNo), s.NoneIdle →
    let r := s.group g
    let reached : Prop := r.state = .pending ∧ ∃ x, r.ts = some x ∧ x ≤ s.tref.e
    let ordered (i : Ix) : Prop := s.groupOf i = some g ∧ (s.member i).state = .ordered
    (¬ reached → exec (.tsReached g) s = .next s)
    ∧ (reached → r.target = 0 →
        exec (.tsReached g) s = .next
          { s with
            groups := vset s.groups g { r with state := .free, current := 0, ts := none }
            members := Vector.ofFn fun i =>
              if s.groupOf i = some g ∧ (s.member i).state = .ordered then (s.member i).enter .free else s.member i })
    ∧ (reached → r.target ≠ 0 → (∃ i, ordered i) →
        exec (.tsReached g) s = .next { s with groups := vset s.groups g { r with state := .transition, current := r.target } })
    ∧ (reached → r.target ≠ 0 → (∀ i, ¬ ordered i) →
        exec (.tsReached g) s = .next
          { s with
            groups := vset s.groups g { r with state := .steady, current := r.target, ts := none }
            ports := s.announced [⟨s.tref.e, .groupSteady g r.target
              (allIx.filter fun i => decide (s.groupOf i = some g ∧ (s.member i).state = .inStep)).length
              (allIx.filter fun i => decide (s.groupOf i = some g ∧ (s.member i).state ≠ .ordered
                ∧ (s.member i).state ≠ .correcting ∧ (s.member i).state ≠ .inStep)).length⟩] })

/-- Tm of an ORDERED member's ORDER is reached: an outcome other than OWED, or a standing ORDER_MISSED condition, changes
nothing but the record that Tm has been judged; an OWED one raises ORDER_MISSED with cause NOT_DELIVERED and keeps the order,
and the member goes where the policy of the class puts it (R80, R84, R160, R162). The record is the model's own (log entry
32). -/
def Obligations.ReachingTmJudgesTheDelivery : Prop :=
  ∀ (s : State) (i : Ix) (o : StandingOrder), s.NoneIdle → (s.member i).state = .ordered → (s.member i).order = some o →
    o.kind = .order → o.payload.tm ≤ s.tref.e → o.judged = false →
    let old := (s.member i).faults.get .orderMissed
    let policy := (s.stored.policies.get .orderMissed).policy
    (o.outcome ≠ .owed ∨ old.standing = true →
      exec (.tmReached i) s = .next
        { s with members := vset s.members i { s.member i with order := some { o with judged := true } } })
    ∧ (o.outcome = .owed → old.standing = false →
        ∃ t, exec (.tmReached i) s = .next t ∧ s.SameBase t ∧ t.polls = s.polls ∧ (∀ j, j ≠ i → policy ≠ .latched →
            t.member j = s.member j)
          ∧ ((t.member i).faults.get .orderMissed).count = min 255 (old.count + 1)
          ∧ (policy ≠ .latched →
              t.member i =
                { s.member i with
                  order := some { o with judged := true }
                  state := if policy = .recovering then .excluded else .ordered
                  faults := (s.member i).faults.set .orderMissed
                    ⟨true, old.latched, min 255 (old.count + 1), some policy⟩
                  missCause := some .notDelivered, missReason := none })
          ∧ (policy = .latched →
              (t.member i).state = .latched ∧ ((t.member i).faults.get .orderMissed).latched = true
              ∧ ((t.member i).faults.get .orderMissed).standing = false))

/-! ### The offset transition -/

/-- The measurement of a member at position p: the advance is the raw advance rounded to the nearest multiple of g, halves up, C
itself taken as 0; the signed error is the advance up to C/2 and the advance less C above it (R96, R97). -/
def Obligations.MeasurementRoundsTheAdvance : Prop :=
  ∀ (e o c p g : Nat), 300 ≤ c → c ≤ 3000 → c % 10 = 0 → p < c → (g = 1 ∨ g = 2 ∨ g = 5 ∨ g = 10) →
    let raw : Int := (((e : Int) - o) % c - p) % c
    let a := advanceOf e o c p g
    let err := signedError a c
    a < c ∧ a % g = 0
      ∧ (∃ d : Int, -(g : Int) < 2 * d ∧ 2 * d ≤ g ∧ ((a : Int) = raw + d ∨ (a = 0 ∧ raw + d = c)))
      ∧ (2 * a ≤ c → err = a) ∧ (c < 2 * a → err = (a : Int) - c) ∧ -(c : Int) < 2 * err ∧ 2 * err ≤ c

/-- The limits of one cycle are the largest multiples of g within their bounds, and every cycle length ordered in a direction, C
plus the correction, lies within [Cmin, Cmax], under SHORTWAY and DELAY also within the percentages; the remaining correction is
below C, and all are multiples of g (R98, R103). -/
def Obligations.CorrectionsKeepTheCycleWithinLimits : Prop :=
  ∀ (method : Method) (d : Direction) (c cmin cmax lpct spct g a : Nat), cmin ≤ c → c ≤ cmax → 0 < g → c % g = 0 →
    a % g = 0 → a < c →
    let l := lengthenLimit method c cmax lpct g
    let sh := shortenLimit method c cmin spct g
    let most := if method = .step then cmax - c else min (c * lpct / 100) (cmax - c)
    let least := if method = .step then c - cmin else min (c * spct / 100) (c - cmin)
    let r := remainingOf d a c
    let x := correctionOf d r l sh
    l % g = 0 ∧ l ≤ most ∧ most < l + g ∧ sh % g = 0 ∧ sh ≤ least ∧ least < sh + g
      ∧ r < c ∧ r % g = 0 ∧ x % (g : Int) = 0
      ∧ (cmin : Int) ≤ c + x ∧ (c : Int) + x ≤ cmax
      ∧ (method ≠ .step → (c : Int) - (c * spct / 100 : Nat) ≤ c + x ∧ (c : Int) + x ≤ c + (c * lpct / 100 : Nat))
      ∧ (d = .advance → r = a ∧ x = -((min a sh : Nat) : Int)) ∧ (d = .delay → r = (c - a) % c ∧ x = (min r l : Nat))

/-- The direction of a transition: ADVANCE when it needs strictly fewer cycles, else DELAY, and none when neither limit lets it
move; under DELAY only DELAY. The effective method falls back from STEP to SHORTWAY to DELAY (R99, R101). -/
def Obligations.DirectionTakesTheQuickerWay : Prop :=
  (∀ (method : Method) (a c l sh n : Nat), 0 < a → a < c →
    let enough (total limit k : Nat) : Prop := 0 < limit ∧ total ≤ k * limit
    let fewest (total limit k : Nat) : Prop := enough total limit k ∧ ∀ k', enough total limit k' → k ≤ k'
    (chooseDirection method a c l sh = some (.advance, n) ↔
      method ≠ .delay ∧ fewest a sh n ∧ ∀ k, enough (c - a) l k → n < k)
    ∧ (chooseDirection method a c l sh = some (.delay, n) ↔
        fewest (c - a) l n ∧ (method = .delay ∨ ∀ k, enough a sh k → n ≤ k))
    ∧ chooseDirection method a c l sh ≠ some (.none, n)
    ∧ (chooseDirection method a c l sh = none ↔ l = 0 ∧ (method = .delay ∨ sh = 0)))
  ∧ (∀ m : Methods,
      effectiveMethod .delay m = .delay
      ∧ effectiveMethod .shortway m = (if m.shortway then .shortway else .delay)
      ∧ effectiveMethod .step m = (if m.step then .step else if m.shortway then .shortway else .delay))

/-! ### Intersection records -/

/-- SET_MAP with no COMMIT in flight: BAD_ARG; IN_USE with the other intersection's number; the same map changes nothing;
another one is written, an unmapped member is OFFLINE without poll state, a mapped one is UNKNOWN on a reachable segment and
OFFLINE otherwise, owed a poll interval on an ACTIVE one, where it is also queried (R119, R120, R121, R124, R151). That a
stopped interval counter holds 0 is the model's choice (log entry 48). -/
def Obligations.SetMapMovesTheMember : Prop :=
  ∀ (s : State) (f : RequestFrame) (a : SetMapArgs), s.Serves f → s.NoneIdle → f.port ≠ .event →
    parseSetMap f.payload = some a → s.cfs.commit = none → s.stored.MapsUnique →
    let none_ : Prop := a.segment = 255
    let some_ : Prop := a.segment ≤ 3 ∧ 1 ≤ a.drop ∧ a.drop ≤ 16
    (¬ (a.intersection ≤ 63 ∧ (none_ ∨ some_)) → exec (.setMap f) s = .next (s.answered f .setMap [] .badArg []))
    ∧ (∀ (i : Ix) (pl : Option Place), a.intersection = i.val →
        ((none_ ∧ pl = none) ∨ ∃ k d, pl = some ⟨k, d⟩ ∧ a.segment = k.val ∧ a.drop = d.val + 1) →
        let former : List Item :=
          match s.place i with
          | none => [.absent 2]
          | some q => [.present, .n1 q.seg.val, .n1 (q.drop.val + 1)]
        (∀ j, j ≠ i → pl ≠ none → s.place j = pl →
          exec (.setMap f) s = .next (s.answered f .setMap [] .inUse [.n1 j.val]))
        ∧ ((∀ j, j ≠ i → pl ≠ none → s.place j ≠ pl) → s.place i = pl →
            exec (.setMap f) s = .next (s.answered f .setMap [] .ok (former ++ [.n1 (s.member i).state.code])))
        ∧ ((∀ j, j ≠ i → pl ≠ none → s.place j ≠ pl) → s.place i ≠ pl →
            ∃ t, exec (.setMap f) s = .next t ∧ t.stored = { s.stored with maps := vset s.stored.maps i pl }
              ∧ t.tref = s.tref ∧ t.cfs = s.cfs ∧ t.owed = s.owed
              ∧ t.HasReply f .setMap .ok (former ++ [.n1 (t.member i).state.code])
              ∧ (∀ j, j ≠ i → t.member j = s.member j ∧ t.poll j = s.poll j)
              ∧ (pl = none → (t.member i).state = .offline ∧ t.poll i = none ∧ (t.member i).capability = none
                  ∧ (t.member i).order = none ∧ (t.member i).controllerId = (s.member i).controllerId)
              ∧ (∀ k d, pl = some ⟨k, d⟩ →
                  ((s.segment k).state = .active →
                    (t.member i).state = .unknown
                    ∧ t.poll i = some ⟨.running (s.crystal + (vget s.stored.segParams k).poll * 1000), 0, false⟩
                    ∧ ∃ x ∈ (t.segment k).queue, x.target = i ∧ x.body = .query)
                  ∧ ((s.segment k).state = .checking ∨ (s.segment k).state = .stuck →
                      (t.member i).state = .unknown ∧ t.poll i = some ⟨.stopped 0, 0, false⟩)
                  ∧ ((s.segment k).state = .off ∨ (s.segment k).state = .closing →
                      t.poll i = some ⟨.stopped 0, 0, false⟩
                      ∧ ((s.member i).state = .offline ∨ s.place i ≠ none → (t.member i).state = .offline)))))

/-- REQUERY: BAD_ARG; NOT_FOUND for an unmapped or OFFLINE member; ALREADY_QUEUED, with nothing changed; QUEUED on an ACTIVE
segment, with a QUERY of the present E enqueued; DEFERRED otherwise (R123, R124). ALREADY_QUEUED before DEFERRED is the model's
choice (log entry 30). -/
def Obligations.RequeryAsksForAQuery : Prop :=
  ∀ (s : State) (f : RequestFrame) (n : Nat), s.Serves f → s.NoneIdle → f.port ≠ .event → parseByte f.payload = some n →
    (63 < n → exec (.requery f) s = .next (s.answered f .requery [] .badArg []))
    ∧ (∀ i : Ix, n = i.val →
        (s.place i = none ∨ (s.member i).state = .offline →
          exec (.requery f) s = .next (s.answered f .requery [] .notFound []))
        ∧ (∀ k d, s.place i = some ⟨k, d⟩ → (s.member i).state ≠ .offline →
            let stands : Prop := ∃ x ∈ (s.segment k).queue, x.target = i ∧ x.body = .query
            (stands → exec (.requery f) s = .next (s.answered f .requery [] .ok [.n1 1]))
            ∧ (¬ stands → (s.segment k).state ≠ .active →
                exec (.requery f) s = .next (s.answered f .requery [] .ok [.n1 2]))
            ∧ (¬ stands → (s.segment k).state = .active →
                ∃ t, exec (.requery f) s = .next t ∧ t.HasReply f .requery .ok [.n1 0] ∧ s.SameBase t
                  ∧ t.members = s.members ∧ t.groups = s.groups ∧ t.polls = s.polls ∧ t.owed = s.owed
                  ∧ (∀ x, x ∈ (t.segment k).queue ↔ x ∈ (s.segment k).queue
                      ∨ x = ⟨.query, i, s.tref.e, (s.segment k).nextSeq⟩)
                  ∧ ∀ j, j ≠ k → t.segment j = s.segment j)))

/-- The capability record of a QUERY reply, by Table 8-2, and the activation check against a plan (R125, R127). -/
def Obligations.CapabilityRecordFollowsItsTable : Prop :=
  (∀ q : QueryReply,
    (capabilityOf q).cmin = 10 * min q.cmin 300 ∧ (capabilityOf q).cmax = 10 * min q.cmax 300
      ∧ (q.step ≤ 1 → (capabilityOf q).step = 1) ∧ (2 ≤ q.step → q.step ≤ 4 → (capabilityOf q).step = 2)
      ∧ (5 ≤ q.step → q.step ≤ 9 → (capabilityOf q).step = 5) ∧ (10 ≤ q.step → (capabilityOf q).step = 10)
      ∧ (capabilityOf q).patterns = min q.patterns 32 ∧ (capabilityOf q).methods = { q.methods with delay := true }
      ∧ (capabilityOf q).acks = q.acks
      ∧ ((capabilityOf q).valid = true ↔ (capabilityOf q).cmin ≤ (capabilityOf q).cmax ∧ q.patterns ≠ 0))
  ∧ (∀ (t : Stored) (m : Member) (k : Nat),
      t.activation m k = true ↔
        ∃ cap p, m.capability = some cap ∧ t.plan k = some p ∧ cap.valid = true ∧ cap.cmin ≤ p.cycle ∧ p.cycle ≤ cap.cmax
          ∧ p.pattern ≤ cap.patterns)

/-- An alert becomes standing, and ends, at the n-th consecutive good reply that disagrees with it, n the deglitch count; before
that only its counter rises, and a reply that agrees sets the counter to 0 (R131). -/
def Obligations.AlertsChangeAtTheDeglitchCount : Prop :=
  ∀ (a : AlertWatch) (n : Nat), 1 ≤ n →
    let contrary : Nat → AlertWatch := fun k => Nat.repeat (fun x => x.after (!a.standing) n) k a
    a.after a.standing n = ⟨a.standing, 0⟩
    ∧ (a.counter = 0 → (∀ k, k < n → contrary k = ⟨a.standing, k⟩) ∧ contrary n = ⟨!a.standing, 0⟩)
    ∧ (n ≤ a.counter + 1 → contrary 1 = ⟨!a.standing, 0⟩)

/-! ### Field segments -/

/-- ENABLE_SEGMENT and DISABLE_SEGMENT with no COMMIT in flight: an OFF segment is enabled and enters CHECKING with its members
UNKNOWN; one in CLOSING refuses ENABLE_SEGMENT IN_USE with its state; one in service enters CLOSING with its queue empty, its
candidate abandoned, its members OFFLINE and their interval counters stopped, and OFF at once when nothing is in flight; in the other
states nothing changes; the reply to DISABLE_SEGMENT has no payload (R119, R120, R135, R137, R139, R151, R187). That the line is taken
as MARK on entering CHECKING (log entry 22), that on a free transmitter the reply is begun before the notice of the same instant
(log entry 19), and that a stopped interval counter holds 0 (log entry 48), are the model's choices. -/
def Obligations.SegmentsAreEnabledAndDisabled : Prop :=
  ∀ (s : State) (f : RequestFrame) (n : Nat), s.Serves f → s.NoneIdle → f.port ≠ .event → parseByte f.payload = some n →
    s.cfs.commit = none → s.stored.MapsUnique →
    (3 < n → exec (.enableSegment f) s = .next (s.answered f .enableSegment [] .badArg [])
      ∧ exec (.disableSegment f) s = .next (s.answered f .disableSegment [] .badArg []))
    ∧ (∀ k : SegNo, n = k.val →
        let r := s.segment k
        (r.state = .off →
          exec (.enableSegment f) s = .next
            (State.answered
              { s with
                stored := { s.stored with enables := vset s.stored.enables k true }
                segments := vset s.segments k { r with state := .checking, line := .mark, lineSince := s.crystal }
                members := Vector.ofFn fun i =>
                  if ((s.place i).any fun p => decide (p.seg = k)) = true then (s.member i).enter .unknown else s.member i }
              f .enableSegment [⟨s.tref.e, .segmentState k .checking .off .enable⟩] .ok [.n1 1])
          ∧ exec (.disableSegment f) s = .next (s.answered f .disableSegment [] .ok []))
        ∧ (r.state = .closing →
            exec (.enableSegment f) s = .next (s.answered f .enableSegment [] .inUse [.n1 4])
            ∧ exec (.disableSegment f) s = .next (s.answered f .disableSegment [] .ok []))
        ∧ (r.state = .checking ∨ r.state = .active ∨ r.state = .stuck →
            exec (.enableSegment f) s = .next (s.answered f .enableSegment [] .ok [.n1 r.state.code])
            ∧ ((∀ x ∈ r.queue, s.On x.target k) →
                ∃ t, exec (.disableSegment f) s = .next t
                  ∧ t.stored = { s.stored with enables := vset s.stored.enables k false } ∧ t.tref = s.tref
                  ∧ t.cfs = s.cfs ∧ t.owed = s.owed
                  ∧ t.segment k =
                      { r with state := if r.inFlight = none then .off else .closing, queue := [], candidate := none }
                  ∧ t.HasReply f .disableSegment .ok []
                  ∧ (∀ j, j ≠ k → t.segment j = s.segment j)
                  ∧ ∀ i, (s.On i k →
                        (t.member i).state = .offline ∧ (t.member i).order = none ∧ (t.member i).capability = none
                        ∧ t.poll i = (s.poll i).map fun _ => ⟨.stopped 0, 0, false⟩)
                      ∧ (¬ s.On i k → t.member i = s.member i ∧ t.poll i = s.poll i))))

/-- What a segment's line reads is recorded with its instant: a break in CHECKING, SPACE and MARK while the line is watched in
ACTIVE and CLOSING. A STUCK segment whose line reads MARK again enters CHECKING with its notice (R134, R136, R138, R139). That
the line is taken as MARK on entering CHECKING is the model's choice (log entry 22). -/
def Obligations.LineLevelsAreWatched : Prop :=
  ∀ (s : State) (k : SegNo), s.NoneIdle →
    let r := s.segment k
    let watched : Prop := (r.state = .active ∨ r.state = .closing) ∧ ∀ x, r.inFlight = some x → x.phase ≠ .request
    let reads (l : Level) : State :=
      { s with segments := vset s.segments k { r with line := l, lineSince := s.crystal } }
    (r.state = .checking → r.line = .mark → exec (.lineBreak k) s = .next (reads .space))
    ∧ (watched → r.line = .mark → exec (.lineReadsSpace k) s = .next (reads .space))
    ∧ (r.state = .checking ∨ watched → r.line = .space → exec (.lineReadsMark k) s = .next (reads .mark))
    ∧ (r.state = .stuck →
        exec (.lineReleased k) s = .next
          { s with
            segments := vset s.segments k { r with state := .checking, line := .mark, lineSince := s.crystal }
            ports := s.announced [⟨s.tref.e, .segmentState k .checking .stuck .lineReleased⟩] })

/-- 20 ms of unbroken MARK take a CHECKING segment to ACTIVE: its members' backlogs are 0 and their counters loaded, its UNKNOWN
members are queried, what stood queued stays, and the segment makes its first choice (R124, R136, R141, R151). -/
def Obligations.PassedCheckActivatesTheSegment : Prop :=
  ∀ (s : State) (k : SegNo), s.NoneIdle → s.stored.MapsUnique → (s.segment k).state = .checking →
    (s.segment k).line = .mark → (s.segment k).lineSince + 20 ≤ s.crystal →
    ∃ t, exec (.checkPassed k) s = .next t ∧ s.SameBase t ∧ t.members = s.members ∧ t.groups = s.groups ∧ t.owed = s.owed
      ∧ (t.segment k).state = .active ∧ (t.segment k).inFlight = (s.segment k).inFlight
      ∧ (t.segment k).counters = (s.segment k).counters
      ∧ (∀ x ∈ (s.segment k).queue, x ∈ (t.segment k).queue)
      ∧ (∀ i, s.On i k → (s.member i).state = .unknown → ∃ x ∈ (t.segment k).queue, x.target = i ∧ x.body = .query)
      ∧ (∀ i, s.On i k →
          t.poll i = some ⟨.running (s.crystal + (vget s.stored.segParams k).poll * 1000), 0, false⟩)
      ∧ (∀ i, ¬ s.On i k → t.poll i = s.poll i)
      ∧ ((s.segment k).inFlight = none → (s.segment k).candidate = none →
          ((t.segment k).candidate.isSome = true ↔ (t.segment k).queue ≠ []))
      ∧ ∀ j, j ≠ k → t.segment j = s.segment j

/-- A line that has read SPACE for more than 40 ms: an ACTIVE segment goes STUCK, its transaction in flight ends and its
candidate is abandoned, NO_REPLY stands for every member mapped to it, and its interval counters stop; a CLOSING one ends its
transaction and enters OFF (R130, R138, R151). -/
def Obligations.HeldLineStopsTheSegment : Prop :=
  ∀ (s : State) (k : SegNo), s.NoneIdle → s.stored.MapsUnique → (s.segment k).line = .space →
    (s.segment k).lineSince + 40 < s.crystal → (∀ x, (s.segment k).inFlight = some x → x.phase ≠ .request) →
    let c := (s.segment k).counters
    let ended := if (s.segment k).inFlight = none then c.stuckEnd else min 65535 (c.stuckEnd + 1)
    ((s.segment k).state = .active →
      ∃ t, exec (.lineHeld k) s = .next t ∧ s.SameBase t ∧ (t.segment k).state = .stuck ∧ (t.segment k).inFlight = none
        ∧ (t.segment k).candidate = none
        ∧ (t.segment k).counters = { c with stuckEnd := ended, stuck := min 65535 (c.stuck + 1) }
        ∧ (∀ i, s.On i k → ((t.member i).faults.get .noReply).standing = true)
        ∧ (∀ i p, s.On i k → t.poll i = some p → ∃ ms, p.counter = .stopped ms)
        ∧ (∀ i, ¬ s.On i k → t.poll i = s.poll i))
    ∧ ((s.segment k).state = .closing → (s.segment k).inFlight ≠ none →
        ∃ t, exec (.lineHeld k) s = .next t ∧ s.SameBase t ∧ (t.segment k).state = .off ∧ (t.segment k).inFlight = none
          ∧ (t.segment k).counters = { c with stuckEnd := ended }
          ∧ t.members = s.members ∧ t.groups = s.groups ∧ t.polls = s.polls)

/-- The end of the turnaround: the arbiter is asked again. What it names leaves the queue, with its body, enqueue time and join
sequence number, or is built from the member record, and is in flight to its drop, counted by its kind, and DISPLACED is counted when
it is another than a candidate that still stands; when it names nothing the segment is idle (R78, R94, R141, R142, R146, R147). That
DISPLACED needs the candidate to stand still is the model's choice (log entry 23), as is the line taken as MARK (log entry 22). -/
def Obligations.RecheckSendsWhatTheArbiterNames : Prop :=
  ∀ (s : State) (k : SegNo) (c : Candidate), s.NoneIdle → (s.segment k).state = .active → (s.segment k).inFlight = none →
    (s.segment k).candidate = some c → c.endsAt ≤ s.crystal → (∀ x ∈ (s.segment k).queue, s.On x.target k) →
    (s.arbiter k = none →
      exec (.turnaroundEnd k) s = .next { s with segments := vset s.segments k ({ s.segment k with candidate := none }) })
    ∧ (∀ n, s.arbiter k = some n →
        ∃ t x, exec (.turnaroundEnd k) s = .next t
          ∧ t = { s with segments := vset s.segments k (t.segment k) }
          ∧ (t.segment k).inFlight = some x ∧ x.body.kind = n.kind ∧ x.target = n.target
          ∧ s.place n.target = some ⟨k, x.drop⟩ ∧ x.builtE = s.tref.e ∧ x.phase = .request
          ∧ (n.kind = .poll → x.body = .poll (s.member n.target).correction (s.member n.target).correctionCount)
          ∧ (n.kind ≠ .poll →
              ∃ y ∈ (s.segment k).queue, y.target = n.target ∧ y.seq = n.seq ∧ y.body.kind = n.kind
                ∧ x.body = (match y.body with | .order oid p => .order oid p | .query => .query)
                ∧ x.enqueued = y.enqueued ∧ x.seq = y.seq)
          ∧ (t.segment k).candidate = none ∧ (t.segment k).state = .active
          ∧ (t.segment k).queue = ((s.segment k).queue.filter fun y =>
              !(y.seq = n.seq && y.target = n.target && y.body.kind = n.kind))
          ∧ (t.segment k).counters.displaced =
              (if s.candidateStands k c = true ∧ ¬ (n.kind = c.kind ∧ n.target = c.target ∧ n.seq = c.seq) then
                min 65535 ((s.segment k).counters.displaced + 1)
              else (s.segment k).counters.displaced)
          ∧ (n.kind = .poll → (t.segment k).counters.sentPoll = min 65535 ((s.segment k).counters.sentPoll + 1))
          ∧ (n.kind = .order → (t.segment k).counters.sentOrder = min 65535 ((s.segment k).counters.sentOrder + 1))
          ∧ (n.kind = .query → (t.segment k).counters.sentQuery = min 65535 ((s.segment k).counters.sentQuery + 1)))

/-- The last byte of a request opens the reply window for RW ms. Before a reply frame has begun, every byte but a frame start and a
WAIT marker is ignored, and the target's first WAIT marker moves the close to (EXT+1) x 16 ms after it, a later one does not; inside a
reply frame that no gap has broken off a byte of the form of a marker belongs to the frame. A reply that begins with no window open
is counted and ignored (R142, R143, R145, R189, R190). That the line is taken as MARK when its watch resumes (log entry 22), the states
in which a late reply counts (log entry 35), and that none is held under way (log entry 46), are the model's choices. -/
def Obligations.ReplyWindowOpensAndIsMovedOnce : Prop :=
  ∀ (s : State) (k : SegNo), s.NoneIdle →
    let r := s.segment k
    let phased (x : InFlight) (p : FieldPhase) : State :=
      { s with segments := vset s.segments k { r with inFlight := some { x with phase := p } } }
    (∀ x, r.inFlight = some x → x.phase = .request →
      exec (.requestSent k) s = .next
        { s with
          segments := vset s.segments k
            { r with
              inFlight := some { x with phase := .window (s.crystal + (vget s.stored.segParams k).rw) false [] s.crystal }
              line := .mark, lineSince := s.crystal } })
    ∧ (∀ x closes waited lastAt noise, r.inFlight = some x → x.phase = .window closes waited [] lastAt →
        (∀ b ∈ noise, b ≠ 0x5A#8 ∧ b.toNat < 240) →
        let marker := noise ++ [BitVec.ofNat 8 (240 + x.drop.val)]
        (waited = false →
          exec (.waitMarker k marker) s = .next
            (phased x (.window (s.crystal + ((vget s.stored.segParams k).ext + 1) * 16) true [] lastAt)))
        ∧ (waited = true → exec (.waitMarker k marker) s = .next s))
    ∧ (∀ x closes waited heard lastAt b, r.inFlight = some x → x.phase = .window closes waited heard lastAt → heard ≠ [] →
        s.crystal ≤ lastAt + 2 → heard.length ≠ 2 → 240 ≤ b.toNat → wholeReply (heard ++ [b]) = false →
        exec (.waitMarker k [b]) s = .next (phased x (.window closes waited (heard ++ [b]) s.crystal)))
    ∧ (r.state ≠ .off → (∀ x, r.inFlight = some x → x.phase = .request) →
        exec (.lateReply k) s = .next
          { s with
            segments := vset s.segments k
              { r with counters := { r.counters with lateReply := min 65535 (r.counters.lateReply + 1) } } })

/-- A transaction in its window completes: with a good reply, or as a no-reply for a reply whose check, drop, kind or length is
wrong, a bad length byte, a gap of more than 2 ms, a WAIT marker of another drop before a reply has begun, or the close of the window
with or without a reply begun. A gap that has passed ends it before any byte told after it is read, and a reply that begins
then is a late one. The completion is counted once by Table 9-2; a CLOSING segment enters OFF; an outcome whose drop is no longer the
member's map is discarded; otherwise the member's no-reply count is set to 0 or advances (R122, R129, R130, R137, R143, R144, R145,
R190). That a REPLY_GAP_TIMEOUT without such a gap changes nothing (log entry 2), what bytes told after a passed gap do (log entry 17),
and that a late reply is counted in every segment state but OFF (log entry 35), are the model's choices. -/
def Obligations.TransactionsCompleteByTheirTable : Prop :=
  ∀ (s : State) (k : SegNo) (x : InFlight) (closes : Nat) (waited : Bool) (heard : List Byte) (lastAt : Nat)
    (noise more : List Byte), s.NoneIdle →
    (s.segment k).inFlight = some x → x.phase = .window closes waited heard lastAt →
    (∀ b ∈ noise, b ≠ 0x5A#8 ∧ b.toNat < 240) → (heard ≠ [] → noise = []) →
    let r := s.segment k
    let bytes := noise ++ more
    let reply := heard ++ more
    let begun : Prop := match reply with
      | a :: _ :: m :: rest => a = 0x5A#8 ∧ 1 ≤ m.toNat ∧ m.toNat ≤ 20 ∧ rest.length < m.toNat + 2
      | _ => reply[0]? = some 0x5A#8
    let ends (c : Instr) (o : Completion) : Prop :=
      ∃ t, exec c s = .next t ∧ s.SameBase t ∧ (t.segment k).inFlight = none
        ∧ (t.segment k).counters = r.counters.completed o
        ∧ (t.segment k).state = (if r.state = .closing then .off else r.state)
        ∧ (r.state = .closing ∨ s.place x.target ≠ some ⟨k, x.drop⟩ →
            t.members = s.members ∧ t.groups = s.groups ∧ t.polls = s.polls)
        ∧ (r.state ≠ .closing → s.place x.target = some ⟨k, x.drop⟩ →
            (∀ g, o = .good g → (t.member x.target).noReplies = 0)
            ∧ ((∀ g, o ≠ .good g) → (t.member x.target).noReplies = min 255 ((s.member x.target).noReplies + 1)))
    let gap : Prop := heard ≠ [] ∧ lastAt + 2 < s.crystal
    (¬ gap → more ≠ [] → wholeReply reply = true →
      (∀ g, judgeReply x.drop x.body.kind reply = some g → ends (.replyFrameReceived k bytes) (.good g))
      ∧ (judgeReply x.drop x.body.kind reply = none → ends (.replyFrameReceived k bytes) .badReply))
    ∧ (∀ d m, ¬ gap → more ≠ [] → reply = [0x5A#8, d, m] → m.toNat = 0 ∨ 20 < m.toNat → ends (.replyLengthBad k bytes) .badReply)
    ∧ (gap → ends (.replyGapTimeout k) .badReply ∧ ∀ told, ends (.replyFrameReceived k told) .badReply
        ∧ ends (.replyLengthBad k told) .badReply ∧ ends (.waitMarker k told) .badReply
        ∧ ends (.replyWindowClose k told) .badReply)
    ∧ (gap → ∃ t, exec (.lateReply k) s = .next t ∧ (t.segment k).inFlight = none
        ∧ (t.segment k).counters =
            (let c := r.counters.completed .badReply
            if r.state = .closing ∨ r.state = .off then c else { c with lateReply := min 65535 (c.lateReply + 1) }))
    ∧ (¬ gap → exec (.replyGapTimeout k) s = .next s)
    ∧ (∀ d : Drop, heard = [] → d ≠ x.drop → ends (.waitMarker k (noise ++ [BitVec.ofNat 8 (240 + d.val)])) .badReply)
    ∧ (closes ≤ s.crystal →
        (begun → ends (.replyWindowClose k bytes) .badReply)
        ∧ (heard = [] → waited = true → ends (.replyWindowClose k noise) .waitTimeout)
        ∧ (heard = [] → waited = false → ends (.replyWindowClose k noise) .noReply))

/-- A good reply enters the member record. A POLL reply: its mode, plan, cycle count, position (C - 1 when it is at or above the
cycle of a defined plan) and correction applied, one observed cycle more when the count differs, and one poll owed discharged. For
a member for which no condition stands and a reply that shows none: an ORDERED member switches when its group's Ts has been reached
and it reports its order's plan with a cycle begun since Tm, and ORDER_MISSED with cause NOT_SWITCHED is raised when it reports
another plan after a delivered order; a member whose plan is lost is ordered again; a switch, a re-sync and a drift out of the
tolerance are transition starts; a CORRECTING member completes, keeps or chooses again its direction, is blocked or is late; a
failing check releases it. An ORDER reply makes a standing ORDER DELIVERED, or, when the controller acknowledges orders and does not
accept, REFUSED with a new ORDER queued and ORDER_MISSED raised; a RELEASE is then taken as done, or put back with its place. A QUERY
reply renews the controller id and the capability record (R70, R73, R77, R78, R82, R83, R93, R100 to R112, R126, R128, R153). That a
count of cycles above 255 blocks the member (log entry 39), that an answer other than ACCEPT and REFUSE has reason 0 (log entry 13),
and that a member of a PENDING group does not switch (log entry 26), are the model's readings. -/
def Obligations.GoodRepliesEnterTheRecord : Prop :=
  ∀ (s : State) (k : SegNo) (x : InFlight) (bytes : List Byte) (r : GoodReply), s.ReplyArrives k x bytes r →
    let i := x.target
    let m := s.member i
    let e := s.tref.e
    let lead := 10 * s.stored.params.lead
    let policy (c : FaultClass) : Policy := (s.stored.policies.get c).policy
    let mild (c : FaultClass) : Prop := policy c = .off ∨ policy c = .reportOnly
    let acks : Bool := (m.capability.map (·.acks)).getD false
    let undisturbed : Prop := m.Calm ∧ r.Quiet
    ∃ t, exec (.replyFrameReceived k bytes) s = .next t
      ∧ (let raised (c : FaultClass) : Prop := ((t.member i).faults.get c).count = min 255 ((m.faults.get c).count + 1)
        let stands (c : FaultClass) (before : MemberState) : Prop :=
          (t.member i).state = (match policy c with | .latched => .latched | .recovering => .excluded | _ => before)
        let cleared : Prop :=
          (t.member i).direction = .none ∧ (t.member i).remaining = 0 ∧ (t.member i).correction = 0
            ∧ (t.member i).method = none ∧ (t.member i).expected = none ∧ (t.member i).deadline = none
            ∧ (t.member i).late = false ∧ (t.member i).resync = false
        let failed : Prop := t.Released i e ∧ raised .capability ∧ stands .capability .free ∧ cleared
        (∀ p, r = .poll p →
          let pos := match s.stored.plan p.running with
            | some q => if q.cycle ≤ p.position then q.cycle - 1 else p.position
            | none => p.position
          let newCycle : Prop := ∃ c, m.count = some c ∧ c ≠ p.count
          let observed := if ∃ c, m.count = some c ∧ c ≠ p.count then m.observed + 1 else m.observed
          (t.member i).mode = some p.mode ∧ (t.member i).running = some p.running ∧ (t.member i).count = some p.count
          ∧ (t.member i).lastApplied = some p.applied ∧ (t.member i).position = some pos
          ∧ (t.member i).observed = observed ∧ t.poll i = (s.poll i).map Poll.discharge
          ∧ (undisturbed → m.state = .unknown ∨ m.state = .free ∨ m.state = .latched ∨ m.state = .offline →
              (t.member i).state = m.state ∧ (t.member i).order = m.order)
          ∧ (∀ g, undisturbed → s.groupOf i = some g →
              let cur := (s.group g).current
              let coordinated : Prop := m.state = .correcting ∨ m.state = .inStep
              let switches (o : StandingOrder) : Prop :=
                ((s.group g).state = .transition ∨ (s.group g).state = .steady) ∧ o.payload.plan = p.running
                  ∧ o.payload.tm + pos ≤ e
              let unswitched (o : StandingOrder) : Prop :=
                o.outcome = .delivered ∧ o.payload.plan ≠ p.running ∧ o.payload.tm + pos ≤ e
              (∀ o, m.state = .ordered → m.order = some o → o.kind = .order →
                (¬ switches o → ¬ unswitched o → (t.member i).state = .ordered ∧ (t.member i).order = some o)
                ∧ (unswitched o → raised .orderMissed)
                ∧ (unswitched o → policy .orderMissed ≠ .latched →
                    stands .orderMissed .ordered ∧ (t.member i).order = some { o with outcome := .owed }
                    ∧ (t.member i).missCause = some .notSwitched
                    ∧ ⟨.order o.oid o.payload, i, e, (s.segment k).nextSeq⟩ ∈ (t.segment k).queue))
              ∧ (coordinated → p.running ≠ cur →
                  (s.stored.activation m (s.group g).target = true →
                    t.Ordered i (s.group g).target (e + lead) ∧ cleared)
                  ∧ (s.stored.activation m (s.group g).target = false → failed))
              ∧ (∀ q cap, s.stored.plan cur = some q → m.capability = some cap → p.running = cur →
                  let c := q.cycle
                  let a := advanceOf e (s.stored.offset cur i) c pos cap.step
                  let err := signedError a c
                  let near : Prop := err.natAbs ≤ s.stored.params.tol
                  let lengthen (w : Method) : Nat := lengthenLimit w c cap.cmax s.stored.params.lpct cap.step
                  let shorten (w : Method) : Nat := shortenLimit w c cap.cmin s.stored.params.spct cap.step
                  let chooses (w : Method) (d : Direction) (n : Nat) : Prop :=
                    chooseDirection w a c (lengthen w) (shorten w) = some (d, n) ∧ n ≤ 255
                  let blocks (w : Method) (held : Option Nat) : Prop :=
                    (chooseDirection w a c (lengthen w) (shorten w) = none ∧ held = none)
                      ∨ (held = some 255
                          ∧ ∃ d n, chooseDirection w a c (lengthen w) (shorten w) = some (d, n) ∧ 255 < n)
                  let steered (w : Method) (d : Direction) (expected deadline : Option Nat) : Prop :=
                    (t.member i).state = .correcting ∧ (t.member i).error = some err ∧ (t.member i).direction = d
                      ∧ (t.member i).remaining = remainingOf d a c
                      ∧ (t.member i).correction = correctionOf d (remainingOf d a c) (lengthen w) (shorten w)
                      ∧ (t.member i).correctionCount = some p.count ∧ (t.member i).expected = expected
                      ∧ (t.member i).deadline = deadline
                  let settled : Prop :=
                    (t.member i).state = .inStep ∧ (t.member i).error = some err ∧ (t.member i).direction = .none
                      ∧ (t.member i).remaining = 0 ∧ (t.member i).correction = 0
                      ∧ (t.member i).correctionCount = some p.count ∧ (t.member i).expected = none
                      ∧ (t.member i).deadline = none
                      ∧ ((s.group g).state = .transition →
                          (∀ j, j ≠ i → s.groupOf j = some g → (s.member j).state.working = false) →
                          (t.group g).state = .steady ∧ (t.group g).ts = none)
                  let drifts : Prop := m.state = .inStep ∧ m.resync = false ∧ ¬ near
                  let starts : Prop :=
                    (m.state = .ordered ∧ ∃ o, m.order = some o ∧ o.kind = .order ∧ switches o)
                      ∨ (coordinated ∧ m.resync = true) ∨ drifts
                  let fits : Prop := s.stored.activation m cur = true
                  let w := effectiveMethod q.method cap.methods
                  (starts → ¬ fits → failed)
                  ∧ (starts → fits → near →
                      settled ∧ (t.member i).method = some w ∧ (t.member i).late = false ∧ (t.member i).resync = false
                      ∧ (m.state = .ordered → (t.member i).order = none))
                  ∧ (∀ d n, starts → fits → ¬ near → chooses w d n →
                      steered w d (some n) (some (observed + n + s.stored.params.grace))
                      ∧ (t.member i).method = some w ∧ (t.member i).late = false ∧ (t.member i).resync = false
                      ∧ (m.state = .ordered → (t.member i).order = none)
                      ∧ ((s.group g).state = .transition ∨ (s.group g).state = .steady →
                          (t.group g).state = .transition))
                  ∧ (∀ held, starts → fits → ¬ near → blocks w held →
                      raised .transitionBlocked ∧ stands .transitionBlocked .correcting
                      ∧ (mild .transitionBlocked → steered w .none held none ∧ (t.member i).method = some w))
                  ∧ (m.state = .inStep → m.resync = false → near →
                      (t.member i).state = .inStep ∧ (t.member i).error = some err
                      ∧ (t.member i).correction = m.correction)
                  ∧ (m.state = .correcting → m.resync = false → near → settled)
                  ∧ (m.state = .correcting → m.resync = false → ¬ near → ¬ newCycle →
                      (t.member i).state = .correcting ∧ (t.member i).error = some err
                      ∧ (t.member i).direction = m.direction ∧ (t.member i).remaining = m.remaining
                      ∧ (t.member i).correction = m.correction ∧ (t.member i).correctionCount = m.correctionCount
                      ∧ (t.member i).expected = m.expected ∧ (t.member i).deadline = m.deadline)
                  ∧ (m.state = .correcting → m.resync = false → ¬ near → newCycle →
                      let w := m.method.getD .delay
                      let again : Prop := m.direction = .none
                        ∨ m.remaining + s.stored.params.tol < remainingOf m.direction a c
                        ∨ limitOf m.direction (lengthen w) (shorten w) = 0
                      let course (d : Direction) (expected deadline : Option Nat) : Prop :=
                        let late : Prop := m.late = false ∧ ∃ n, deadline = some n ∧ n ≤ observed
                        (late → raised .transitionLate ∧ stands .transitionLate .correcting)
                          ∧ (¬ late → (t.member i).faults.get .transitionLate = m.faults.get .transitionLate)
                          ∧ (¬ late ∨ mild .transitionLate →
                              steered w d expected deadline ∧ ((t.member i).late = true ↔ m.late = true ∨ late))
                      (¬ fits → failed)
                      ∧ (fits → ¬ again → course m.direction m.expected m.deadline)
                      ∧ (∀ d n, fits → again → chooses w d n →
                          course d (some n) (some (m.deadline.getD (observed + n + s.stored.params.grace))))
                      ∧ (∀ held, fits → again → blocks w held →
                          raised .transitionBlocked
                          ∧ (mild .transitionBlocked → course .none held m.deadline)
                          ∧ (¬ mild .transitionBlocked → stands .transitionBlocked .correcting))))))
        ∧ (∀ a oid pay o, r = .order a → undisturbed → x.body = .order oid pay → m.order = some o → o.oid = oid →
            (o.kind = .order → acks = false ∨ a.answer = 1 →
              (t.member i).order = some { o with outcome := .delivered } ∧ (t.member i).state = m.state)
            ∧ (o.kind = .order → acks = true → a.answer ≠ 1 → raised .orderMissed)
            ∧ (o.kind = .order → acks = true → a.answer ≠ 1 → policy .orderMissed ≠ .latched →
                (t.member i).order = some { o with outcome := .refused }
                ∧ (t.member i).missCause = some .refused
                ∧ (t.member i).missReason = some (if a.answer = 2 then a.reason else 0)
                ∧ ⟨.order oid o.payload, i, e, (s.segment k).nextSeq⟩ ∈ (t.segment k).queue)
            ∧ (o.kind = .release → acks = false ∨ a.answer = 1 → (t.member i).order = none)
            ∧ (o.kind = .release → acks = true → a.answer ≠ 1 →
                (t.member i).order = some o ∧ ⟨.order oid o.payload, i, x.enqueued, x.seq⟩ ∈ (t.segment k).queue))
        ∧ (∀ q, r = .query q →
            (t.member i).controllerId = some q.controllerId ∧ (t.member i).capability = some (capabilityOf q)))

/-! ### Poll scheduling -/

/-- The urgency of an owed poll by Table 10-2, for every poll state that the part can hold (R154). -/
def Obligations.UrgencyFollowsBacklogAndMarker : Prop :=
  ∀ p : Poll, p.Sound →
    (p.overdue = true → p.urgency = .overdue ∧ 8 ≤ p.backlog ∧ p.backlog ≤ 15)
    ∧ (p.overdue = false →
        p.backlog ≤ 11 ∧ (p.backlog = 0 → p.urgency = .none) ∧ (1 ≤ p.backlog → p.backlog ≤ 3 → p.urgency = .defer)
        ∧ (4 ≤ p.backlog → p.backlog ≤ 7 → p.urgency = .offer) ∧ (8 ≤ p.backlog → p.urgency = .due))

/-- An interval counter that has reached 0 is reloaded and one poll more is owed, at most 15, with the overdue marker at 12; a
free segment then begins the turnaround of that POLL. A POLL that completes discharges one, and at 7 clears the marker (R141,
R152, R153). -/
def Obligations.PollsOwedAreCounted : Prop :=
  (∀ (s : State) (i : Ix) (k : SegNo) (d : Drop) (p : Poll) (due : Nat), s.NoneIdle → s.stored.MapsUnique →
    s.place i = some ⟨k, d⟩ → s.poll i = some p → p.backlog ≤ 15 → p.counter = .running due → due ≤ s.crystal →
    ∃ t, exec (.pollIntervalExpiry i) s = .next t ∧ s.SameBase t ∧ t.members = s.members ∧ t.groups = s.groups
      ∧ t.ports = s.ports ∧ t.owed = s.owed
      ∧ t.poll i = some ⟨.running (s.crystal + (vget s.stored.segParams k).poll * 1000), min 15 (p.backlog + 1),
          p.overdue || decide (p.backlog + 1 = 12)⟩
      ∧ (∀ j, j ≠ i → t.poll j = s.poll j)
      ∧ t.segment k =
          (if (s.segment k).state = .active ∧ (s.segment k).inFlight = none ∧ (s.segment k).candidate = none then
            { s.segment k with candidate := some ⟨.poll, i, 0, s.crystal + (vget s.stored.segParams k).ta⟩ }
          else s.segment k)
      ∧ ∀ j, j ≠ k → t.segment j = s.segment j)
  ∧ (∀ p : Poll, p.discharge.counter = p.counter ∧ p.discharge.backlog = p.backlog - 1
      ∧ (p.discharge.overdue = true ↔ p.overdue = true ∧ 7 < p.backlog - 1))

/-- The arbiter names the first of the first class of Table 10-3 that is not empty: OVERDUE polls, urgent ORDERs, DUE polls,
other ORDERs, OFFER polls, QUERYs, DEFER polls; polls by highest backlog, then lowest drop; queued transactions in queue order
(R155). -/
def Obligations.ArbiterNamesTheFirstOfTheFirstClass : Prop :=
  ∀ (s : State) (k : SegNo), s.stored.MapsUnique →
    let pollClass (p : Poll) : Nat :=
      if p.overdue = true then 1 else if 8 ≤ p.backlog then 3 else if 4 ≤ p.backlog then 5 else 7
    let txnClass (x : Txn) : Nat :=
      match x.body with
      | .order _ p => if p.tm ≤ s.tref.e + 100 then 2 else 4
      | .query => 6
    let owed (i : Ix) (d : Drop) (p : Poll) : Prop := s.place i = some ⟨k, d⟩ ∧ s.poll i = some p ∧ 1 ≤ p.backlog
    (s.arbiter k = none ↔ (s.segment k).queue = [] ∧ ∀ i d p, ¬ owed i d p)
    ∧ (∀ n, s.arbiter k = some n → n.kind = .poll →
        ∃ d p, owed n.target d p
          ∧ (∀ j e q, owed j e q → pollClass p < pollClass q
              ∨ (pollClass p = pollClass q ∧ (q.backlog < p.backlog ∨ (q.backlog = p.backlog ∧ d ≤ e))))
          ∧ ∀ x ∈ (s.segment k).queue, pollClass p < txnClass x)
    ∧ (∀ n, s.arbiter k = some n → n.kind ≠ .poll →
        ∃ front x rest, (s.segment k).queue = front ++ x :: rest ∧ n.kind = x.body.kind ∧ n.target = x.target ∧ n.seq = x.seq
          ∧ (∀ y ∈ front, txnClass x < txnClass y) ∧ (∀ y ∈ rest, txnClass x ≤ txnClass y)
          ∧ ∀ j e q, owed j e q → txnClass x < pollClass q)

/-! ### Faults -/

/-- A raise, under every policy, sets the condition, counts it to at most 255 and records the policy and, for ORDER_MISSED, the
cause and reason. OFF does no more; every other policy offers the FAULT notice, which says whether the group is suspended, and a group
that its consequences take from TRANSITION to STEADY the GROUP_STEADY notice after it; REPORT_ONLY does no more; RECOVERING puts a
member in service in EXCLUDED and keeps its order; LATCHED sets the latched flag, puts a member in service or EXCLUDED in LATCHED with a RELEASE of the present E,
and under group scope suspends its group. No member outside such a group is touched (R70, R88, R91, R160, R161, R162). -/
def Obligations.RaisesFollowTheirPolicy : Prop :=
  ∀ (s : State) (i : Ix) (c : FaultClass) (cause : Option MissCause) (reason : Option Nat),
    let t := s.raise i c cause reason
    let m := s.member i
    let old := m.faults.get c
    let pair := s.stored.policies.get c
    let count := min 255 (old.count + 1)
    let recorded : Member :=
      { m with
        faults := m.faults.set c ⟨true, old.latched, count, some pair.policy⟩
        missCause := if c = .orderMissed then cause else m.missCause
        missReason := if c = .orderMissed then reason else m.missReason }
    let inService : Prop := m.state = .free ∨ m.state = .ordered ∨ m.state = .correcting ∨ m.state = .inStep
    let suspends (g : GroupNo) : Prop :=
      pair = ⟨.latched, .group⟩ ∧ s.groupOf i = some g ∧ (s.group g).state ≠ .suspended
    s.SameBase t ∧ t.polls = s.polls ∧ t.owed = s.owed
      ∧ (pair.policy = .off → t = { s with members := vset s.members i recorded })
      ∧ (pair.policy = .reportOnly → t = { s with members := vset s.members i recorded, ports := t.ports })
      ∧ (pair.policy ≠ .off → s.phase = .running →
          let suspending : Bool := decide (pair = ⟨.latched, .group⟩)
            && (s.groupOf i).any fun g => decide ((s.group g).state ≠ .suspended)
          let fault : Notice := ⟨s.tref.e, .fault i (s.groupOf i) c pair.policy pair.scope count
            (if c = .orderMissed then cause else none) (if c = .orderMissed then reason else none) suspending⟩
          let count (g : GroupNo) (p : MemberState → Bool) : Nat :=
            (allIx.filter fun j => decide (s.groupOf j = some g) && p (t.member j).state).length
          let ns : List Notice := fault :: (s.groupOf i).toList.filterMap fun g =>
            if (s.group g).state = .transition ∧ (t.group g).state = .steady then
              some ⟨s.tref.e, .groupSteady g (s.group g).current (count g fun st => decide (st = .inStep))
                (count g fun st => decide (st ≠ .ordered ∧ st ≠ .correcting ∧ st ≠ .inStep))⟩
            else none
          t.ports = ⟨(s.port .centre).copies ns, (s.port .event).copies ns, (s.port .cabinet).copies ns⟩)
      ∧ (pair.policy = .off ∨ s.phase ≠ .running → t.ports = s.ports)
      ∧ (pair.policy = .recovering →
          (inService → (t.member i).state = .excluded ∧ (t.member i).order = m.order
            ∧ (t.member i).faults = recorded.faults)
          ∧ (¬ inService → t.member i = recorded)
          ∧ ∀ j, j ≠ i → t.member j = s.member j)
      ∧ (pair.policy = .latched →
          ((t.member i).faults.get c).latched = true ∧ ((t.member i).faults.get c).count = count
          ∧ (inService ∨ m.state = .excluded →
              (t.member i).state = .latched
              ∧ (s.place i = none → (t.member i).order = none)
              ∧ (s.place i ≠ none → ∃ oid,
                  (t.member i).order = some ⟨.release, ⟨0, 0, 0, 0, s.tref.e, .delay⟩, .owed, oid, false⟩))
          ∧ (¬ (inService ∨ m.state = .excluded) → (t.member i).state = m.state)
          ∧ (∀ g, suspends g →
              t.group g =
                { s.group g with
                  state := .suspended, current := 0, target := 0, ts := none, suspension := some ⟨c, i, s.tref.e⟩ }
              ∧ (∀ h, h ≠ g → t.group h = s.group h)
              ∧ (∀ j, s.groupOf j = some g → j ≠ i →
                  ((s.member j).state = .free ∨ (s.member j).state = .ordered ∨ (s.member j).state = .correcting
                    ∨ (s.member j).state = .inStep → (t.member j).state = .free))
              ∧ ∀ j, s.groupOf j ≠ some g → j ≠ i → t.member j = s.member j)
          ∧ ((∀ g, ¬ suspends g) → ∀ j, j ≠ i → t.member j = s.member j))

/-- CLEAR_FAULTS: a target kind other than 0, 1, 2 or a number out of range is refused BAD_ARG. Any other target, an intersection, a
group or ALL, is answered OK with the number of its members that had a latched flag (under ALL the switch that a resumed group starts
may latch one more before its turn) and the groups resumed. Each latched class loses its flag and its condition, with the no-reply
count and the MANUAL and FLASH alerts of those classes. A LATCHED member goes to EXCLUDED while a condition of policy RECOVERING
stands, else to FREE, and from there is ordered for the target of a coordinating group, unless it holds the ORDER of that target
already or fails the check. A SUSPENDED group that is a target, or any under ALL, becomes FREE and is evaluated at once: it stays FREE
when the plan it then wants is its target, else a switch to that plan starts, or its failing check suspends it again (R59, R74, R87,
R89, R166, R167). That the clear ends every standing condition of a latched class (log entry 31), clears the no-reply count and the alerts
of a latched class of which no condition stands (log entry 49), and disregards the number byte of the target ALL (log entry 40) are
the model's choices. -/
def Obligations.ClearFaultsEndsLatchedConditions : Prop :=
  ∀ (s : State) (f : RequestFrame) (a : ClearFaultsArgs), s.Serves f → s.NoneIdle → f.port ≠ .event →
    parseClearFaults f.payload = some a →
    let soon := s.tref.e + 10 * s.stored.params.lead
    let pair := s.stored.policies.get .capability
    let latched (i : Ix) : Bool := allClasses.any fun c => ((s.member i).faults.get c).latched
    let held (i : Ix) : Prop := ∃ c, ((s.member i).faults.get c).standing = true
      ∧ ((s.member i).faults.get c).latched = false ∧ ((s.member i).faults.get c).applied = some .recovering
    let covers (i : Ix) : Bool :=
      decide ((a.kind = 0 ∧ a.number = i.val) ∨ (a.kind = 1 ∧ (s.groupOf i).map (·.val) = some a.number) ∨ a.kind = 2)
    let resumable (g : GroupNo) : Prop := (a.kind = 1 ∧ a.number = g.val) ∨ a.kind = 2
    let known : Prop := (a.kind = 0 ∧ a.number ≤ 63) ∨ (a.kind = 1 ∧ a.number ≤ 15) ∨ a.kind = 2
    (¬ known → exec (.clearFaults f) s = .next (s.answered f .clearFaults [] .badArg []))
    ∧ (known → ∃ (t : State) (resumed : List GroupNo) (count : Nat), exec (.clearFaults f) s = .next t
        ∧ t.HasReply f .clearFaults .ok (.n1 count :: .n1 resumed.length :: resumed.map fun g => .n1 g.val)
        ∧ (a.kind ≠ 2 ∨ pair.policy ≠ .latched → count = (allIx.filter fun i => covers i && latched i).length)
        ∧ (allIx.filter fun i => covers i && latched i).length ≤ count
        ∧ t.tref = s.tref ∧ t.cfs = s.cfs ∧ t.polls = s.polls ∧ t.owed = s.owed
        ∧ t.stored = { s.stored with dated := t.stored.dated }
        ∧ (resumed.Pairwise fun g h => g.val < h.val) ∧ (∀ g ∈ resumed, resumable g)
        ∧ (∀ g, resumable g → (s.group g).state = .suspended → g ∈ resumed)
        ∧ (∀ g ∈ resumed, (s.group g).state = .suspended ∨ pair = ⟨.latched, .group⟩)
        ∧ (∀ i c, covers i = true → ((s.member i).faults.get c).latched = true → c ≠ .capability →
            (t.member i).faults.get c = ⟨false, false, ((s.member i).faults.get c).count, none⟩)
        ∧ (∀ i c, covers i = true → ((s.member i).faults.get c).latched = true → pair.policy ≠ .latched →
            ((t.member i).faults.get c).latched = false)
        ∧ (∀ i, covers i = true → latched i = true →
            (t.member i).noReplies =
              (if ((s.member i).faults.get .noReply).latched = true then 0 else (s.member i).noReplies)
            ∧ (t.member i).alerts =
                (if ((s.member i).faults.get .alert).latched = true then
                  { (s.member i).alerts with manual := ⟨false, 0⟩, flash := ⟨false, 0⟩ }
                else (s.member i).alerts))
        ∧ (resumed = [] → t.stored = s.stored ∧ ∀ i, covers i = false ∨ latched i = false →
            pair ≠ ⟨.latched, .group⟩ → t.member i = s.member i)
        ∧ (∀ i, covers i = true → latched i = true → (s.member i).state = .latched → held i →
            (∀ g, s.groupOf i = some g → (s.group g).state ≠ .suspended ∨ a.kind = 0) → pair ≠ ⟨.latched, .group⟩ →
            resumed = [] → (t.member i).state = .excluded)
        ∧ (∀ i, covers i = true → latched i = true → (s.member i).state ≠ .latched → pair ≠ ⟨.latched, .group⟩ →
            resumed = [] → (t.member i).state = (s.member i).state)
        ∧ (∀ i, covers i = true → latched i = true → (s.member i).state = .latched → ¬ held i →
            (∀ g, s.groupOf i = some g → (s.group g).state = .free ∨ ((s.group g).state = .suspended ∧ a.kind = 0)
              ∨ ((s.group g).state = .pending ∧ (s.group g).target = 0)) → pair ≠ ⟨.latched, .group⟩ → resumed = [] →
            (t.member i).state = .free ∧ (t.member i).order = (s.member i).order)
        ∧ (∀ i g tm, covers i = true → latched i = true → (s.member i).state = .latched → ¬ held i →
            s.groupOf i = some g →
            ((s.group g).state = .pending ∧ (s.group g).target ≠ 0
                ∧ ∃ ts, (s.group g).ts = some ts ∧ tm = max ts soon)
              ∨ (((s.group g).state = .transition ∨ (s.group g).state = .steady) ∧ tm = soon) →
            let plan := (s.group g).target
            let kept (o : StandingOrder) : Prop := (s.member i).order = some o ∧ o.kind = .order ∧ o.payload.plan = plan
            pair ≠ ⟨.latched, .group⟩ → resumed = [] →
            (∀ o, kept o → (t.member i).state = .ordered ∧ (t.member i).order = some o)
            ∧ ((∀ o, ¬ kept o) → s.stored.activation (s.member i) plan = true → t.Ordered i plan tm)
            ∧ ((∀ o, ¬ kept o) → s.stored.activation (s.member i) plan = false →
                ((t.member i).faults.get .capability).count = min 255 (((s.member i).faults.get .capability).count + 1)
                ∧ (t.member i).state =
                    (match pair.policy with | .latched => .latched | .recovering => .excluded | _ => .free)))
        ∧ (∀ g, resumable g → (s.group g).state = .suspended →
            (t.group g).hold = (s.group g).hold ∧ s.Wants t g (t.group g).wanted (t.group g).source
            ∧ ((t.group g).wanted = (s.group g).target →
                t.group g =
                  { s.group g with
                    state := .free, suspension := none, wanted := (t.group g).wanted, source := (t.group g).source }
                ∧ ∀ i, s.groupOf i = some g → latched i = true → (s.member i).state = .latched → ¬ held i →
                    (t.member i).state = .free)
            ∧ ((t.group g).wanted ≠ (s.group g).target →
                (pair = ⟨.latched, .group⟩ ∧ (t.group g).state = .suspended)
                ∨ (t.group g =
                    { s.group g with
                      state := .pending, suspension := none, wanted := (t.group g).wanted, source := (t.group g).source
                      target := (t.group g).wanted, ts := some soon }
                  ∧ ∀ i, s.groupOf i = some g →
                      (s.member i).Taken ∨ (latched i = true ∧ (s.member i).state = .latched ∧ ¬ held i) →
                      ((t.group g).wanted = 0 → (t.member i).state = .ordered ∧ t.Released i soon)
                      ∧ ((t.group g).wanted ≠ 0 → s.stored.activation (s.member i) (t.group g).wanted = true →
                          t.Ordered i (t.group g).wanted soon)))))

/-! ### Ports -/

/-- A good frame is judged in the order of Table 12-1 before any block has it: BUSY while the port serves or start-up has not
completed, BAD_ARG for a code outside Table 12-2 and for a payload that does not fit, DENIED for a role without the right. Each
reply joins the busy-reply list, or, when four stand there, is counted OVERRUN and not given; a request that reaches order 6 is
handed over. A part of a frame that a gap of more than 5 ms has broken off before is counted as a frame discarded. Nothing but the port
changes (R170, R171, R174, R179). What is counted when the list is full is the model's choice (log entry 18), as is that
UNKNOWN_REQUEST_CODE with a code that Table 12-2 has changes nothing (log entries 2 and 17). -/
def Obligations.FramesAreJudgedInOrder : Prop :=
  ∀ (s : State) (f : RequestFrame), s.NoneIdle →
    let turned (c : Instr) (code : Nat) (st : Status) (extra : PortCounters → PortCounters) : Prop :=
      exec c s = .next
        (s.modPort f.port fun q =>
          let stale : Bool := match q.rx with
            | .hunting => false
            | .receiving _ lastAt => decide (lastAt + 5 < s.crystal)
          let n : PortCounters := extra { q.counters with
            request := min 65535 (q.counters.request + 1)
            frameError := if stale then min 65535 (q.counters.frameError + 1) else q.counters.frameError }
          PortState.pump (if q.busyList.length < 4 then
            { q with
              rx := .hunting, busyList := q.busyList ++ [⟨f.tag, code, st, []⟩]
              counters := if st = .busy then { n with busy := min 65535 (n.busy + 1) } else n }
          else { q with rx := .hunting, counters := { n with overrun := min 65535 (n.overrun + 1) } }))
    let right (rq : Request) : Prop :=
      (rq = .mark → f.port = .centre) ∧ (rq = .reset → f.port = .cabinet)
        ∧ (f.port = .event → rq ∈ ([.readTime, .readPlan, .readOffset, .readParams, .addEntry, .removeEntry, .readEntry,
            .listEntries, .placeHold, .releaseHold, .readGroup, .readIntersection, .readSegment, .readFaults,
            .setNoticeMask, .readPorts, .readStore] : List Request))
    (∀ c rq, c.request = some (f, rq) →
      (¬ s.Serves f → turned c rq.code .busy id)
      ∧ (s.Serves f → c.payloadFits = false → turned c rq.code .badArg id)
      ∧ (s.Serves f → c.payloadFits = true → ¬ right rq →
          turned c rq.code .denied fun n => { n with denied := min 65535 (n.denied + 1) })
      ∧ (s.Serves f → c.payloadFits = true → right rq → ∃ t, exec c s = .next t
          ∧ (t.port f.port).service.map (fun v => (v.tag, v.request)) = some (f.tag, rq)))
    ∧ (∀ code : Byte,
        (code.toNat = 0 ∨ 34 < code.toNat →
          (¬ s.Serves f → turned (.unknownRequestCode f code) code.toNat .busy id)
          ∧ (s.Serves f → turned (.unknownRequestCode f code) code.toNat .badArg id))
        ∧ (1 ≤ code.toNat → code.toNat ≤ 34 → exec (.unknownRequestCode f code) s = .next s))

/-- The read requests change nothing but the port that carries their reply: READ_ENTRY and LIST_ENTRIES the timetable,
READ_GROUP, READ_INTERSECTION, READ_SEGMENT and READ_FAULTS the record of the object they name, READ_PORTS all three ports,
READ_STORE the store (R45, R46, R90, R116, R133, R149, R158, R168, R175, R179, R186). The layout of the items where Section 14 leaves
it open (log entries 12 and 14), the level and the time of a line that is not watched (log entry 22), and that a candidate is one only
while it stands (log entry 23), are the model's choices. -/
def Obligations.ReadsReportAndChangeNothing : Prop :=
  ∀ (s : State) (f : RequestFrame), s.Serves f → s.NoneIdle →
    let answers (c : Instr) (rq : Request) (items : List Item) : Prop :=
      exec c s = .next (s.answered f rq [] .ok items)
    let refuses (c : Instr) (rq : Request) (st : Status) : Prop := exec c s = .next (s.answered f rq [] st [])
    let yes (b : Bool) : Item := .n1 (if b then 1 else 0)
    let may (width : Nat) (o : Option (List Item)) : List Item :=
      match o with
      | none => [.absent width]
      | some l => .present :: l
    let counted (l : List (List Item)) : List Item := .n1 l.length :: l.flatten
    let endItems (ends : Option EpochMinute) : List Item := may 4 (ends.map fun m => [.n2 m.day, .n2 m.minute])
    let placeItems (i : Ix) : List Item := may 2 ((s.place i).map fun p => [.n1 p.seg.val, .n1 (p.drop.val + 1)])
    let orderItems (i : Ix) : List Item :=
      may 8 ((s.member i).order.map fun o =>
        [.n1 o.kind.code, .n1 o.payload.plan, .time o.payload.tm, .n1 o.outcome.code])
    let suspensionItems (x : Suspension) : List Item := [.n1 x.cls.code, .n1 x.intersection.val, .time x.e]
    let perClass (p : FaultClass → List Item) : List Item :=
      p .noReply ++ p .orderMissed ++ p .transitionLate ++ p .transitionBlocked ++ p .capability ++ p .alert
    (∀ id, parseByte f.payload = some id →
      ((∀ x ∈ s.stored.recurring ++ s.stored.dated, x.id ≠ id) → refuses (.readEntry f) .readEntry .notFound)
      ∧ (∀ before x after, x.id = id →
          let common (x : Entry) (kind : Nat) : List Item :=
            [.n1 x.id, .n1 (roleCode x.owner), .n1 kind, .n2 x.groups.toNat, .n1 x.plan, .n1 x.priority]
          (∀ days, s.stored.recurring = before ++ x :: after → (∀ y ∈ before, y.id ≠ id) → x.kind = .recurring days →
            answers (.readEntry f) .readEntry
              (common x 0 ++ [.present, .n1 days.toNat, .absent 2, .n2 x.startMinute, .absent 4, .n2 x.tag.toNat, .n1 0,
                  .n1 before.length, .absent 1]
                ++ may 5 ((latestOccurrence days x.startMinute s.tref.e).map fun o => [.time o])))
          ∧ (∀ day ends, s.stored.dated = before ++ x :: after → (∀ y ∈ s.stored.recurring ++ before, y.id ≠ id) →
              x.kind = .dated day ends →
              let active : Bool := x.groups ≠ 0#16 && decide (day * 864000 + x.startMinute * 600 ≤ s.tref.e)
                && (match ends with
                    | none => true
                    | some m => decide (s.tref.e < m.day * 864000 + m.minute * 600))
              answers (.readEntry f) .readEntry
                (common x 1 ++ [.absent 1, .present, .n2 day, .n2 x.startMinute] ++ endItems ends
                  ++ [.n2 x.tag.toNat, .n1 1, .n1 before.length, .present, yes active, .absent 5]))))
    ∧ (∀ a, parseListEntries f.payload = some a →
        let page (l : List Entry) : List Item :=
          [.n2 l.length, .n2 (s.stored.recurring.length + s.stored.dated.length)]
            ++ counted (((l.drop (8 * a.page)).take 8).map fun x =>
                [.n1 x.id, .n1 (roleCode x.owner), .n2 x.groups.toNat, .n1 x.plan, .n1 x.priority]
                  ++ (match x.kind with
                      | .recurring days => [.n1 days.toNat, .n2 x.startMinute]
                      | .dated day ends => [.n2 day, .n2 x.startMinute] ++ endItems ends))
        (a.selector = 0 → answers (.listEntries f) .listEntries (page s.stored.recurring))
        ∧ (a.selector = 1 → answers (.listEntries f) .listEntries (page s.stored.dated))
        ∧ (1 < a.selector → refuses (.listEntries f) .listEntries .badArg))
    ∧ (∀ n, parseByte f.payload = some n →
        (15 < n → refuses (.readGroup f) .readGroup .badArg)
        ∧ (63 < n → refuses (.readIntersection f) .readIntersection .badArg)
        ∧ (3 < n → refuses (.readSegment f) .readSegment .badArg)
        ∧ (∀ g : GroupNo, n = g.val →
            let r := s.group g
            let members := allIx.filter fun i => decide (s.groupOf i = some g)
            let inState (st : MemberState) : Nat := (members.filter fun i => decide ((s.member i).state = st)).length
            answers (.readGroup f) .readGroup
              ([.n1 r.state.code, .n1 r.current, .n1 r.target, .n1 r.wanted]
                ++ (match r.source with
                    | .hold role tag => [.n1 0, .present, .n1 (roleCode role), .n2 tag.toNat, .absent 1]
                    | .entry id => [.n1 1, .absent 3, .present, .n1 id]
                    | .none => [.n1 2, .absent 3, .absent 1]
                    | .kept => [.n1 3, .absent 3, .absent 1])
                ++ may 5 (r.ts.map fun x => [.time x])
                ++ may 14 (r.hold.map fun h =>
                    [.n1 (roleCode h.owner), .n1 h.plan] ++ endItems h.ends ++ [.n2 h.tag.toNat, .time h.placedAt])
                ++ may 7 (r.suspension.map suspensionItems)
                ++ counted (members.map fun i => [.n1 i.val, .n1 (s.member i).state.code] ++ orderItems i)
                ++ [.n1 (inState .ordered), .n1 (inState .correcting), .n1 (inState .inStep),
                    .n1 (inState .unknown + inState .free + inState .excluded + inState .latched + inState .offline)]))
        ∧ (∀ i : Ix, n = i.val →
            let m := s.member i
            answers (.readIntersection f) .readIntersection
              (placeItems i ++ may 1 ((s.groupOf i).map fun g => [.n1 g.val]) ++ [.n1 m.state.code]
                ++ may 4 (m.controllerId.map fun c => [.n4 c])
                ++ may 9 (m.capability.map fun c =>
                    [.n2 c.cmin, .n2 c.cmax, .n1 c.step, .n1 c.patterns,
                      .n1 ((if c.methods.shortway then 1 else 0) + (if c.methods.delay then 2 else 0)
                        + (if c.methods.step then 4 else 0)),
                      yes c.acks, .n1 (if c.valid then 0 else 1)])
                ++ may 1 (m.mode.map fun x => [.n1 x.code]) ++ may 1 (m.running.map fun x => [.n1 x])
                ++ may 1 (m.count.map fun x => [.n1 x]) ++ may 2 (m.position.map fun x => [.n2 x])
                ++ may 2 (m.lastApplied.map fun x => [.signed x])
                ++ [.n4 m.observed, .n1 m.noReplies, .n1 (alertByte m.alertSet),
                    .n1 m.alerts.manual.counter, .n1 m.alerts.flash.counter, .n1 m.alerts.door.counter,
                    .n1 m.alerts.detector.counter, .n1 m.alerts.localPlan.counter, .n1 m.alerts.powerRestored.counter]
                ++ orderItems i ++ may 2 (m.error.map fun x => [.signed x])
                ++ [.n1 m.direction.code, .n2 m.remaining, .signed m.correction]
                ++ may 1 (m.correctionCount.map fun x => [.n1 x]) ++ may 1 (m.method.map fun x => [.n1 x.code])
                ++ may 1 (m.expected.map fun x => [.n1 x]) ++ may 4 (m.deadline.map fun x => [.n4 x])
                ++ [yes m.late, yes m.resync, .n4 m.observed]
                ++ perClass fun c => [yes (m.faults.get c).standing, yes (m.faults.get c).latched]))
        ∧ (∀ k : SegNo, n = k.val →
            let r := s.segment k
            let q := vget s.stored.segParams k
            let c := r.counters
            let pollItems (p : Poll) : List Item :=
              [.n1 p.backlog, yes p.overdue, .n1 p.urgency.code]
                ++ (match p.counter with
                    | .running due => [.present, .n2 (due - s.crystal)]
                    | .stopped _ => [.absent 2])
            let drop (d : Drop) : List Item :=
              may 7 ((allIx.find? fun i => decide (s.place i = some ⟨k, d⟩)).map fun i =>
                .n1 i.val :: pollItems ((s.poll i).getD ⟨.stopped 0, 0, false⟩))
            answers (.readSegment f) .readSegment
              ([.n1 r.state.code, yes (vget s.stored.enables k), .n1 q.poll, .n1 q.ta, .n1 q.rw, .n1 q.ext, .n1 r.line.code]
                ++ (if r.line = .space then [.present, .n2 (min 65535 (s.crystal - r.lineSince))] else [.absent 2])
                ++ may 4 (r.inFlight.map fun x =>
                    [.n1 x.body.kind.code, .n1 x.target.val]
                      ++ (match x.phase with
                          | .request => [.n1 0, yes false]
                          | .window _ waited _ _ => [.n1 1, yes waited]))
                ++ may 2 ((r.candidate.filter (s.candidateStands k)).map fun x => [.n1 x.kind.code, .n1 x.target.val])
                ++ counted (r.queue.map fun x =>
                    [.n1 x.body.kind.code, .n1 x.target.val, .time x.enqueued]
                      ++ (match x.body with
                          | .order _ p => [.present, .n1 p.plan, .time p.tm]
                          | .query => [.absent 6]))
                ++ [.n2 c.sentPoll, .n2 c.sentOrder, .n2 c.sentQuery, .n2 c.good, .n2 c.noReply, .n2 c.badReply,
                    .n2 c.waitTimeout, .n2 c.lateReply, .n2 c.stuckEnd, .n2 c.stuck, .n2 c.displaced]
                ++ drop 0 ++ drop 1 ++ drop 2 ++ drop 3 ++ drop 4 ++ drop 5 ++ drop 6 ++ drop 7 ++ drop 8 ++ drop 9
                ++ drop 10 ++ drop 11 ++ drop 12 ++ drop 13 ++ drop 14 ++ drop 15)))
    ∧ (∀ o, parseReadFaults f.payload = some o →
        let count (c : FaultClass) (p : FaultEntry → Bool) : Item :=
          .n1 (allIx.filter fun i => p ((s.member i).faults.get c)).length
        (o = none →
          answers (.readFaults f) .readFaults
            (perClass (fun c => [.n1 (s.stored.policies.get c).policy.code, .n1 (s.stored.policies.get c).scope.code])
              ++ counted (allGroups.filterMap fun g => (s.group g).suspension.map fun x => .n1 g.val :: suspensionItems x)
              ++ perClass fun c => [count c (·.standing), count c (·.latched)]))
        ∧ (∀ n, o = some n → 63 < n → refuses (.readFaults f) .readFaults .badArg)
        ∧ (∀ i : Ix, o = some i.val →
            let m := s.member i
            let entry (c : FaultClass) : List Item :=
              let x := m.faults.get c
              [yes x.standing, yes x.latched, .n1 x.count] ++ may 1 (x.applied.map fun p => [.n1 p.code])
            answers (.readFaults f) .readFaults
              (.n1 m.state.code :: may 1 ((s.groupOf i).map fun g => [.n1 g.val]) ++ entry .noReply ++ entry .orderMissed
                ++ may 1 (m.missCause.map fun x => [.n1 x.code]) ++ may 1 (m.missReason.map fun x => [.n1 x])
                ++ entry .transitionLate ++ entry .transitionBlocked ++ entry .capability ++ entry .alert)))
    ∧ (f.payload = [] →
        let count : Nat := match s.cfs.countCell with
          | none => 0
          | some n => min n 100000
        let portEntry (p : Port) : List Item :=
          let q := s.port p
          let c := q.counters
          let stale : Bool := decide (p = f.port) && (match q.rx with
            | .hunting => false
            | .receiving _ lastAt => decide (lastAt + 5 < s.crystal))
          let mask (l : List Bool) : Nat := l.foldr (fun b n => 2 * n + (if b then 1 else 0)) 0
          [.n1 (roleCode p)]
            ++ (if p = f.port then [yes true, .present, .n1 31]
                else yes q.service.isSome :: may 1 (q.service.map fun v => [.n1 v.request.code]))
            ++ [.n2 (mask [q.mask.timeState, q.mask.switchStarted, q.mask.groupSteady, q.mask.entryExpired,
                  q.mask.holdEnded, q.mask.fault, q.mask.alertChange, q.mask.segmentState, q.mask.storeDone]),
                .n1 q.queue.length, yes q.lost,
                .n2 (if p = f.port then min 65535 (c.request + 1) else c.request),
                .n2 (if stale then min 65535 (c.frameError + 1) else c.frameError), .n2 c.busy,
                .n2 c.overrun, .n2 c.denied, .n2 c.lost, .n2 c.notice]
        answers (.readPorts f) .readPorts (portEntry .centre ++ portEntry .event ++ portEntry .cabinet)
        ∧ answers (.readStore f) .readStore
            ([.n4 count, .n1 s.cfs.status.code, .n1 s.cfs.loadResult.code, yes s.cfs.commit.isSome]
              ++ may 3 (s.cfs.commit.map fun c => [.n1 (roleCode c.port), .n2 (s.crystal - c.since)])
              ++ [.n1 s.cfs.cause.code, .time s.cfs.causeE]))

/-- SET_NOTICE_MASK replaces the mask of its own port whole, keeps the queued notices and the lost marker, and echoes the mask
with the number of notices waiting. A hunting port ignores what comes before a frame start. A frame whose length or CRC is wrong, and
one broken off by a gap of more than 5 ms, after its frame start alone or later, is counted and dropped; the bytes after a gap are
judged afresh and begin a new frame from a frame start on (R170, R178, R179). The bytes told by one of these commands go on from
those the port holds unless a gap has passed, and bytes that make none of its events leave the frame under way: the model's choice
(log entries 2 and 17). -/
def Obligations.MasksAreSetAndBadFramesDropped : Prop :=
  ∀ s : State, s.NoneIdle →
    (∀ (f : RequestFrame) (a b : Byte), s.Serves f → f.payload = [a, b] →
      let v := (a.toNat * 256 + b.toNat) % 512
      let mask : NoticeMask :=
        ⟨v.testBit 0, v.testBit 1, v.testBit 2, v.testBit 3, v.testBit 4, v.testBit 5, v.testBit 6, v.testBit 7, v.testBit 8⟩
      exec (.setNoticeMask f) s = .next
        (State.answered (s.modPort f.port fun q => { q with mask := mask }) f .setNoticeMask [] .ok
          [.n2 v, .n1 (s.port f.port).queue.length]))
    ∧ (∀ (p : Port) (noise more after : List Byte),
        let held : Option (List Byte × Nat) := match (s.port p).rx with
          | .hunting => none
          | .receiving b at_ => some (b, at_)
        let passed : Bool := held.any fun h => decide (h.2 + 5 < s.crystal)
        let live : Option (List Byte) := if passed then none else held.map (·.1)
        let counted (u : State) (rx : RxState) : State :=
          u.modPort p fun q =>
            { q with rx := rx, counters := { q.counters with frameError := min 65535 (q.counters.frameError + 1) } }
        let aged : State := if passed then counted s .hunting else s
        let dropped (c : Instr) (rx : RxState) : Prop := exec c s = .next (counted aged rx)
        let bytes := noise ++ more
        let frame := live.getD [] ++ more
        let begins (l : List Byte) : Prop := match l with
          | _ :: l1 :: l0 :: rest =>
              l[0]? = some 0xA5#8 ∧ 3 ≤ l1.toNat * 256 + l0.toNat ∧ l1.toNat * 256 + l0.toNat ≤ 300
                ∧ rest.length < l1.toNat * 256 + l0.toNat + 2
          | _ => l[0]? = some 0xA5#8
        let goesOn (then_ : RxState → Prop) : Prop :=
          ((∀ x ∈ after, x ≠ 0xA5#8) → then_ .hunting)
          ∧ ∀ junk fresh, after = junk ++ fresh → (∀ x ∈ junk, x ≠ 0xA5#8) → begins fresh →
              then_ (.receiving fresh s.crystal)
        (passed = true → goesOn fun rx => exec (.frameGapTimeout p [] after) s = .next (counted s rx))
        ∧ (passed = false → exec (.frameGapTimeout p [] after) s = .next s)
        ∧ ((∀ x ∈ noise, x ≠ 0xA5#8) → (live ≠ none → noise = []) →
          (begins frame → bytes ≠ [] →
            goesOn (dropped (.frameGapTimeout p bytes after))
            ∧ exec (.frameDiscarded p bytes) s
                = .next (aged.modPort p fun q => { q with rx := .receiving frame s.crystal }))
          ∧ ∀ l1 l0 rest, frame = 0xA5#8 :: l1 :: l0 :: rest →
              let len := l1.toNat * 256 + l0.toNat
              (len < 3 ∨ 300 < len → dropped (.frameDiscarded p bytes) .hunting)
              ∧ ∀ body c1 c0, 3 ≤ len → len ≤ 300 → rest = body ++ [c1, c0] → body.length = len →
                  ((crc16 (l1 :: l0 :: body)).toNat ≠ c1.toNat * 256 + c0.toNat →
                    dropped (.frameDiscarded p bytes) .hunting)
                  ∧ ((crc16 (l1 :: l0 :: body)).toNat = c1.toNat * 256 + c0.toNat →
                      exec (.frameDiscarded p bytes) s = .next aged
                      ∧ exec (.frameGapTimeout p bytes after) s = .next aged)))

/-- The last byte of a frame has been sent: the port whose served reply it was is IDLE, and its transmitter begins the next
frame: the reply of the served request, else the oldest of the busy-reply list, else the oldest notice, with the lost marker,
which is then cleared (R172, R173, R177). That a TRANSMIT_END with nothing being sent changes nothing is the model's choice (log
entry 2). -/
def Obligations.TransmitterTakesTheNextFrame : Prop :=
  ∀ (s : State) (p : Port), s.NoneIdle →
    let next (q : PortState) : PortState :=
      match q.service, q.busyList, q.queue with
      | some ⟨tag, rq, some r⟩, _, _ => { q with service := some ⟨tag, rq, none⟩, tx := some (.served r) }
      | _, r :: rest, _ => { q with busyList := rest, tx := some (.busy r) }
      | _, [], n :: rest =>
          { q with
            queue := rest, lost := false, tx := some (.notice n q.lost)
            counters := { q.counters with notice := min 65535 (q.counters.notice + 1) } }
      | _, [], [] => q
    ((s.port p).tx = none → exec (.transmitEnd p) s = .next s)
    ∧ (∀ r, (s.port p).tx = some (.served r) →
        (p = .cabinet → ∀ v, (s.port p).service = some v → v.request ≠ .reset) →
        exec (.transmitEnd p) s = .next (s.modPort p fun q => next { q with service := none, tx := none }))
    ∧ (∀ x, (s.port p).tx = some x → (∀ r, x ≠ .served r) →
        exec (.transmitEnd p) s = .next (s.modPort p fun q => next { q with tx := none }))

/-! ### The configuration store -/

/-- COMMIT: STORE_WORN at a commit count of 100,000, else the snapshot is taken, the image is not good while it is written, and the
port goes on SERVING without a reply. The end of the write leaves an image of the snapshot that carries the CRC of its bytes, counts
it, and gives the reply and the STORE_DONE notice with the new count. RESET is answered with its start cause and E (R181, R182,
R183, R185). The bytes written are free values, with the tables they stand for beside them (log entry 16); that a COMMIT_WRITE_END
with no COMMIT in flight changes nothing (log entry 2), and that on a free transmitter the reply is begun before the notice of the
same instant (log entry 19), are the model's choices. -/
def Obligations.CommitWritesTheSnapshot : Prop :=
  ∀ s : State, s.NoneIdle → s.phase = .running →
    let count : Nat := match s.cfs.countCell with
      | none => 0
      | some n => min n 100000
    (∀ f : RequestFrame, s.Serves f → f.payload = [] → f.port ≠ .event → s.cfs.commit = none →
      (100000 ≤ count → exec (.commit f) s = .next (s.answered f .commit [] .storeWorn []))
      ∧ (count < 100000 → ∃ image : Image, image.cls = .bad
          ∧ exec (.commit f) s = .next
            { s.handedOver f .commit with
              freeUses := s.freeUses + 1
              cfs := { s.cfs with image := image, commit := some ⟨s.stored, f.port, s.crystal⟩ } }))
    ∧ (∀ c, s.cfs.commit = some c → ∃ bytes : List Byte,
        let done : State :=
          { s with
            freeUses := s.freeUses + 1
            cfs := { s.cfs with
              image := .held bytes (crc16 bytes) c.snapshot, countCell := some (count + 1), status := .good, commit := none } }
        exec .commitWriteEnd s = .next
          { done with
            ports := (done.modPort c.port (·.giveReply (.ok, [.n4 (count + 1)]))).announced
              [⟨s.tref.e, .storeDone (count + 1) c.port⟩] })
    ∧ (s.cfs.commit = none → exec .commitWriteEnd s = .next s)
    ∧ (∀ f : RequestFrame, s.Serves f → f.payload = [] → f.port = .cabinet →
        exec (.reset f) s = .next (s.answered f .reset [] .ok [.n1 2, .time s.tref.e]))

/-! ### Frames and fields -/

/-- What a master builds by Tables 14-1 and 14-3 is what the part reads: a request frame of any tag, code and payload up to 297
bytes, and the payload of each request with fields, at every value the fields admit; and a reply frame built by Tables 14-4 and
14-5 is judged good for its drop and kind alone and read with its fields, for each of the three kinds (R187, R188, R190). -/
def Obligations.FramesAndFieldsRoundTrip : Prop :=
  (∀ (tag : BitVec 16) (code : Byte) (payload : List Byte), payload.length ≤ 297 →
    judgeFrame (requestFrameBytes tag code payload) = .good tag code payload)
  ∧ (∀ ec, ec < 1099511627776 → parseTime (timePayload ec) = some ec)
  ∧ (∀ n, n < 256 → parseByte (u8 n) = some n)
  ∧ (∀ a : WritePlanArgs, a.plan < 256 → a.cycle < 65536 → a.pattern < 256 → a.method < 256 →
      parseWritePlan a.payload = some a)
  ∧ (∀ a : WriteOffsetArgs, a.intersection < 256 → a.plan < 256 → a.offset < 65536 →
      parseWriteOffset a.payload = some a)
  ∧ (∀ a : ReadOffsetArgs, a.plan < 256 → a.first < 256 → a.count < 256 → parseReadOffset a.payload = some a)
  ∧ (∀ g : GroupSet, parseMask (maskPayload g) = some g)
  ∧ (∀ a : AddEntryArgs, a.id < 256 → a.kind < 256 → a.plan < 256 → a.priority < 256 → a.dayField < 65536 →
      a.startMinute < 65536 → (∀ m, a.ends = some m → m.day < 65536 ∧ m.minute < 65536) →
      parseAddEntry a.payload = some a)
  ∧ (∀ a : ListEntriesArgs, a.selector < 256 → a.page < 256 → parseListEntries a.payload = some a)
  ∧ (∀ a : PlaceHoldArgs, a.group < 256 → a.plan < 256 → (∀ m, a.ends = some m → m.day < 65536 ∧ m.minute < 65536) →
      parsePlaceHold a.payload = some a)
  ∧ (∀ a : ReleaseHoldArgs, a.group < 256 → parseReleaseHold a.payload = some a)
  ∧ (∀ a : SetMembersArgs, a.group < 256 → a.list.length < 256 → (∀ n ∈ a.list, n < 256) →
      parseSetMembers a.payload = some a)
  ∧ (∀ a : SetMapArgs, a.intersection < 256 → a.segment < 256 → a.drop < 256 → parseSetMap a.payload = some a)
  ∧ (∀ items : List ParamItem, items.length < 256 → (∀ x ∈ items, x.ident < 256 ∧ x.value < 65536) →
      parseParamList (paramListPayload items) = some items
      ∧ ∀ k, k < 256 → parseSegParams (SegParamArgs.payload ⟨k, items⟩) = some ⟨k, items⟩)
  ∧ (∀ a : SetPolicyArgs, a.cls < 256 → a.policy < 256 → a.scope < 256 → parseSetPolicy a.payload = some a)
  ∧ (∀ a : ClearFaultsArgs, a.kind < 256 → a.number < 256 → parseClearFaults a.payload = some a)
  ∧ (∀ o : Option Nat, (∀ n, o = some n → n < 256) → parseReadFaults (readFaultsPayload o) = some o)
  ∧ (∀ m : NoticeMask, parseNoticeMask m.payload = some m)
  ∧ (∀ (d : Drop) (kind : TxnKind) (body : List Byte), body.length ≤ 19 →
      wholeReply (fieldFrame d kind body) = true
      ∧ judgeReply d kind (fieldFrame d kind body) = parseReplyBody kind body
      ∧ (∀ e, e ≠ d → judgeReply e kind (fieldFrame d kind body) = none)
      ∧ ∀ other, other ≠ kind → judgeReply d other (fieldFrame d kind body) = none)
  ∧ (∀ r : PollReply, r.running < 256 → r.count < 256 → r.position < 65536 → -32768 ≤ r.applied → r.applied < 32768 →
      parseReplyBody .poll r.body = some (.poll r))
  ∧ (∀ r : OrderReply, r.answer < 256 → r.reason < 256 → parseReplyBody .order r.body = some (.order r))
  ∧ (∀ r : QueryReply, r.controllerId < 4294967296 → r.cmin < 65536 → r.cmax < 65536 → r.step < 256 → r.patterns < 256 →
      parseReplyBody .query r.body = some (.query r))

/-! ### What every step keeps -/

/-- No step leaves a free segment with something to send, or a free transmitter with a frame to send (R141, R173). -/
def Obligations.NothingIdlesWithWorkToSend : Prop :=
  ∀ s t : State, s.NoneIdle → step s = .next t → t.NoneIdle

/-- Every step keeps what the spec promises of the live tables, of a good image and of a snapshot being written: parameters in
range, offsets below the cycle of their plan, no drop with two intersections, and both timetable lists in order with distinct
ids; and of the store: a COMMIT in flight has made the image not good, and the commit count never falls, rises by at most 1 and
ends at 100,000 (R18, R25, R29, R38, R117, R182, R183). -/
def Obligations.StoredImagesKeepTheirForm : Prop :=
  ∀ s t : State, step s = .next t →
    (s.EveryImage Stored.ParamsInRange → t.EveryImage Stored.ParamsInRange)
    ∧ (s.EveryImage Stored.OffsetsBelowCycle → t.EveryImage Stored.OffsetsBelowCycle)
    ∧ (s.EveryImage Stored.MapsUnique → t.EveryImage Stored.MapsUnique)
    ∧ (s.EveryImage Stored.TimetableInOrder → t.EveryImage Stored.TimetableInOrder)
    ∧ (s.CommitSound → t.CommitSound ∧ s.cfs.count ≤ t.cfs.count ∧ t.cfs.count ≤ min 100000 (s.cfs.count + 1))

/-- Every step keeps the group records sound: Ts stands in PENDING and TRANSITION alone, the suspension record in SUSPENDED
alone, FREE and SUSPENDED have current and target 0, TRANSITION and STEADY run their target, which is not 0; that nothing is under
way before start-up completes; that an ORDERED member's group is PENDING or TRANSITION, a CORRECTING one's TRANSITION and an IN_STEP
one's TRANSITION or STEADY, so that no STEADY group has a member ORDERED or CORRECTING; and that a TRANSITION group has one (R69, R70,
R71, R74, R79, R85, R88, R134, R184). -/
def Obligations.GroupRecordsStaySound : Prop :=
  ∀ s t : State, step s = .next t →
    (s.GroupsSound → t.GroupsSound)
    ∧ (s.QuietBeforeService → t.QuietBeforeService)
    ∧ (s.GroupsSound → s.QuietBeforeService → s.MembersFollow → t.MembersFollow ∧ (s.TransitionsWork → t.TransitionsWork))

/-- Every step keeps E on its scale and the slew within 20 ds, the segment queues in queue order, the backlogs and overdue
markers consistent, and the queues, lists and counters of the ports within their sizes; and, with nothing under way before start-up
completes, that every queued transaction's target is mapped to its segment, with at most one ORDER or RELEASE and one QUERY queued of
each, and that a standing order queued or in flight is not DELIVERED, nor in flight and queued at once (R1, R4, R72, R77, R78, R140,
R150, R154, R169, R177, R179). The numbers that tell the orders apart are the model's own. -/
def Obligations.LiveTablesKeepTheirForm : Prop :=
  ∀ s t : State, step s = .next t →
    (s.ClockInRange → t.ClockInRange) ∧ (s.QueuesInOrder → t.QueuesInOrder) ∧ (s.PollsSound → t.PollsSound)
    ∧ (s.PortsInRange → t.PortsInRange)
    ∧ (s.QuietBeforeService → s.QueuesServe → s.OrdersApart → t.QueuesServe ∧ t.OrdersApart)

end Statements
end

