-- ==== Sys2Proof/Laws/State.lean ====
section
/-! SUPPORT. What one update of the state leaves alone, field by field, and what reading a table after writing it gives. -/

namespace Sys2Proof.Machine

/-! ### Tables -/

@[simp] theorem vget_vset_self {α : Type} {n : Nat} (v : Vector α n) (i : Fin n) (a : α) : vget (vset v i a) i = a := by
  simp [vget, vset]

theorem vget_vset_ne {α : Type} {n : Nat} (v : Vector α n) (i j : Fin n) (a : α) (h : j ≠ i) :
    vget (vset v i a) j = vget v j := by
  have : i.val ≠ j.val := fun e => h (Fin.ext e.symm)
  simp [vget, vset, this]

theorem vget_vset {α : Type} {n : Nat} (v : Vector α n) (i j : Fin n) (a : α) :
    vget (vset v i a) j = if j = i then a else vget v j := by
  by_cases h : j = i
  · subst h; simp
  · simp [h, vget_vset_ne]

@[simp] theorem PerPort.get_set_self {α : Type} (t : PerPort α) (p : Port) (a : α) : (t.set p a).get p = a := by
  cases p <;> rfl

theorem PerPort.get_set_ne {α : Type} (t : PerPort α) (p q : Port) (a : α) (h : q ≠ p) :
    (t.set p a).get q = t.get q := by
  cases p <;> cases q <;> first | rfl | exact absurd rfl h

@[simp] theorem PerPort.set_get {α : Type} (t : PerPort α) (p : Port) : t.set p (t.get p) = t := by cases p <;> rfl

@[simp] theorem PerPort.set_set {α : Type} (t : PerPort α) (p : Port) (a b : α) : (t.set p a).set p b = t.set p b := by
  cases p <;> rfl

@[simp] theorem PerClass.get_set_self {α : Type} (t : PerClass α) (c : FaultClass) (a : α) : (t.set c a).get c = a := by
  cases c <;> rfl

theorem PerClass.get_set_ne {α : Type} (t : PerClass α) (c d : FaultClass) (a : α) (h : d ≠ c) :
    (t.set c a).get d = t.get d := by
  cases c <;> cases d <;> first | rfl | exact absurd rfl h

/-! ### Reading after writing -/

@[simp] theorem State.group_setGroup_self (s : State) (g : GroupNo) (r : Group) : (s.setGroup g r).group g = r := by
  simp [State.group, State.setGroup]

theorem State.group_setGroup_ne (s : State) (g h : GroupNo) (r : Group) (ne : h ≠ g) :
    (s.setGroup g r).group h = s.group h := by simp [State.group, State.setGroup, vget_vset_ne, ne]

@[simp] theorem State.member_setMember_self (s : State) (i : Ix) (m : Member) : (s.setMember i m).member i = m := by
  simp [State.member, State.setMember]

theorem State.member_setMember_ne (s : State) (i j : Ix) (m : Member) (ne : j ≠ i) :
    (s.setMember i m).member j = s.member j := by simp [State.member, State.setMember, vget_vset_ne, ne]

@[simp] theorem State.member_modMember_self (s : State) (i : Ix) (f : Member → Member) :
    (s.modMember i f).member i = f (s.member i) := by simp [State.modMember]

theorem State.member_modMember_ne (s : State) (i j : Ix) (f : Member → Member) (ne : j ≠ i) :
    (s.modMember i f).member j = s.member j := by simp [State.modMember, State.member_setMember_ne, ne]

@[simp] theorem State.segment_setSegment_self (s : State) (k : SegNo) (r : Segment) :
    (s.setSegment k r).segment k = r := by simp [State.segment, State.setSegment]

theorem State.segment_setSegment_ne (s : State) (k l : SegNo) (r : Segment) (ne : l ≠ k) :
    (s.setSegment k r).segment l = s.segment l := by simp [State.segment, State.setSegment, vget_vset_ne, ne]

@[simp] theorem State.segment_modSegment_self (s : State) (k : SegNo) (f : Segment → Segment) :
    (s.modSegment k f).segment k = f (s.segment k) := by simp [State.modSegment]

theorem State.segment_modSegment_ne (s : State) (k l : SegNo) (f : Segment → Segment) (ne : l ≠ k) :
    (s.modSegment k f).segment l = s.segment l := by simp [State.modSegment, State.segment_setSegment_ne, ne]

@[simp] theorem State.poll_setPoll_self (s : State) (i : Ix) (p : Option Poll) : (s.setPoll i p).poll i = p := by
  simp [State.poll, State.setPoll]

theorem State.poll_setPoll_ne (s : State) (i j : Ix) (p : Option Poll) (ne : j ≠ i) :
    (s.setPoll i p).poll j = s.poll j := by simp [State.poll, State.setPoll, vget_vset_ne, ne]

@[simp] theorem State.port_setPort_self (s : State) (p : Port) (r : PortState) : (s.setPort p r).port p = r := by
  simp [State.port, State.setPort]

theorem State.port_setPort_ne (s : State) (p q : Port) (r : PortState) (ne : q ≠ p) :
    (s.setPort p r).port q = s.port q := by simp [State.port, State.setPort, PerPort.get_set_ne, ne]

@[simp] theorem State.port_modPort_self (s : State) (p : Port) (f : PortState → PortState) :
    (s.modPort p f).port p = f (s.port p) := by simp [State.modPort]

theorem State.port_modPort_ne (s : State) (p q : Port) (f : PortState → PortState) (ne : q ≠ p) :
    (s.modPort p f).port q = s.port q := by simp [State.modPort, State.port_setPort_ne, ne]

/-! ### setGroup -/

@[simp] theorem State.setGroup_pending (s : State) (g : GroupNo) (r : Group) : (s.setGroup g r).pending = s.pending := rfl
@[simp] theorem State.setGroup_crystal (s : State) (g : GroupNo) (r : Group) : (s.setGroup g r).crystal = s.crystal := rfl
@[simp] theorem State.setGroup_phase (s : State) (g : GroupNo) (r : Group) : (s.setGroup g r).phase = s.phase := rfl
@[simp] theorem State.setGroup_contactClosed (s : State) (g : GroupNo) (r : Group) : (s.setGroup g r).contactClosed = s.contactClosed := rfl
@[simp] theorem State.setGroup_tref (s : State) (g : GroupNo) (r : Group) : (s.setGroup g r).tref = s.tref := rfl
@[simp] theorem State.setGroup_stored (s : State) (g : GroupNo) (r : Group) : (s.setGroup g r).stored = s.stored := rfl
@[simp] theorem State.setGroup_owed (s : State) (g : GroupNo) (r : Group) : (s.setGroup g r).owed = s.owed := rfl
@[simp] theorem State.setGroup_members (s : State) (g : GroupNo) (r : Group) : (s.setGroup g r).members = s.members := rfl
@[simp] theorem State.setGroup_segments (s : State) (g : GroupNo) (r : Group) : (s.setGroup g r).segments = s.segments := rfl
@[simp] theorem State.setGroup_polls (s : State) (g : GroupNo) (r : Group) : (s.setGroup g r).polls = s.polls := rfl
@[simp] theorem State.setGroup_ports (s : State) (g : GroupNo) (r : Group) : (s.setGroup g r).ports = s.ports := rfl
@[simp] theorem State.setGroup_cfs (s : State) (g : GroupNo) (r : Group) : (s.setGroup g r).cfs = s.cfs := rfl
@[simp] theorem State.setGroup_nextOid (s : State) (g : GroupNo) (r : Group) : (s.setGroup g r).nextOid = s.nextOid := rfl
@[simp] theorem State.setGroup_freeUses (s : State) (g : GroupNo) (r : Group) : (s.setGroup g r).freeUses = s.freeUses := rfl

/-! ### setMember -/

@[simp] theorem State.setMember_pending (s : State) (i : Ix) (m : Member) : (s.setMember i m).pending = s.pending := rfl
@[simp] theorem State.setMember_crystal (s : State) (i : Ix) (m : Member) : (s.setMember i m).crystal = s.crystal := rfl
@[simp] theorem State.setMember_phase (s : State) (i : Ix) (m : Member) : (s.setMember i m).phase = s.phase := rfl
@[simp] theorem State.setMember_contactClosed (s : State) (i : Ix) (m : Member) : (s.setMember i m).contactClosed = s.contactClosed := rfl
@[simp] theorem State.setMember_tref (s : State) (i : Ix) (m : Member) : (s.setMember i m).tref = s.tref := rfl
@[simp] theorem State.setMember_stored (s : State) (i : Ix) (m : Member) : (s.setMember i m).stored = s.stored := rfl
@[simp] theorem State.setMember_owed (s : State) (i : Ix) (m : Member) : (s.setMember i m).owed = s.owed := rfl
@[simp] theorem State.setMember_groups (s : State) (i : Ix) (m : Member) : (s.setMember i m).groups = s.groups := rfl
@[simp] theorem State.setMember_segments (s : State) (i : Ix) (m : Member) : (s.setMember i m).segments = s.segments := rfl
@[simp] theorem State.setMember_polls (s : State) (i : Ix) (m : Member) : (s.setMember i m).polls = s.polls := rfl
@[simp] theorem State.setMember_ports (s : State) (i : Ix) (m : Member) : (s.setMember i m).ports = s.ports := rfl
@[simp] theorem State.setMember_cfs (s : State) (i : Ix) (m : Member) : (s.setMember i m).cfs = s.cfs := rfl
@[simp] theorem State.setMember_nextOid (s : State) (i : Ix) (m : Member) : (s.setMember i m).nextOid = s.nextOid := rfl
@[simp] theorem State.setMember_freeUses (s : State) (i : Ix) (m : Member) : (s.setMember i m).freeUses = s.freeUses := rfl

/-! ### modMember -/

@[simp] theorem State.modMember_pending (s : State) (i : Ix) (f : Member → Member) : (s.modMember i f).pending = s.pending := rfl
@[simp] theorem State.modMember_crystal (s : State) (i : Ix) (f : Member → Member) : (s.modMember i f).crystal = s.crystal := rfl
@[simp] theorem State.modMember_phase (s : State) (i : Ix) (f : Member → Member) : (s.modMember i f).phase = s.phase := rfl
@[simp] theorem State.modMember_contactClosed (s : State) (i : Ix) (f : Member → Member) : (s.modMember i f).contactClosed = s.contactClosed := rfl
@[simp] theorem State.modMember_tref (s : State) (i : Ix) (f : Member → Member) : (s.modMember i f).tref = s.tref := rfl
@[simp] theorem State.modMember_stored (s : State) (i : Ix) (f : Member → Member) : (s.modMember i f).stored = s.stored := rfl
@[simp] theorem State.modMember_owed (s : State) (i : Ix) (f : Member → Member) : (s.modMember i f).owed = s.owed := rfl
@[simp] theorem State.modMember_groups (s : State) (i : Ix) (f : Member → Member) : (s.modMember i f).groups = s.groups := rfl
@[simp] theorem State.modMember_segments (s : State) (i : Ix) (f : Member → Member) : (s.modMember i f).segments = s.segments := rfl
@[simp] theorem State.modMember_polls (s : State) (i : Ix) (f : Member → Member) : (s.modMember i f).polls = s.polls := rfl
@[simp] theorem State.modMember_ports (s : State) (i : Ix) (f : Member → Member) : (s.modMember i f).ports = s.ports := rfl
@[simp] theorem State.modMember_cfs (s : State) (i : Ix) (f : Member → Member) : (s.modMember i f).cfs = s.cfs := rfl
@[simp] theorem State.modMember_nextOid (s : State) (i : Ix) (f : Member → Member) : (s.modMember i f).nextOid = s.nextOid := rfl
@[simp] theorem State.modMember_freeUses (s : State) (i : Ix) (f : Member → Member) : (s.modMember i f).freeUses = s.freeUses := rfl

/-! ### setSegment -/

@[simp] theorem State.setSegment_pending (s : State) (k : SegNo) (r : Segment) : (s.setSegment k r).pending = s.pending := rfl
@[simp] theorem State.setSegment_crystal (s : State) (k : SegNo) (r : Segment) : (s.setSegment k r).crystal = s.crystal := rfl
@[simp] theorem State.setSegment_phase (s : State) (k : SegNo) (r : Segment) : (s.setSegment k r).phase = s.phase := rfl
@[simp] theorem State.setSegment_contactClosed (s : State) (k : SegNo) (r : Segment) : (s.setSegment k r).contactClosed = s.contactClosed := rfl
@[simp] theorem State.setSegment_tref (s : State) (k : SegNo) (r : Segment) : (s.setSegment k r).tref = s.tref := rfl
@[simp] theorem State.setSegment_stored (s : State) (k : SegNo) (r : Segment) : (s.setSegment k r).stored = s.stored := rfl
@[simp] theorem State.setSegment_owed (s : State) (k : SegNo) (r : Segment) : (s.setSegment k r).owed = s.owed := rfl
@[simp] theorem State.setSegment_groups (s : State) (k : SegNo) (r : Segment) : (s.setSegment k r).groups = s.groups := rfl
@[simp] theorem State.setSegment_members (s : State) (k : SegNo) (r : Segment) : (s.setSegment k r).members = s.members := rfl
@[simp] theorem State.setSegment_polls (s : State) (k : SegNo) (r : Segment) : (s.setSegment k r).polls = s.polls := rfl
@[simp] theorem State.setSegment_ports (s : State) (k : SegNo) (r : Segment) : (s.setSegment k r).ports = s.ports := rfl
@[simp] theorem State.setSegment_cfs (s : State) (k : SegNo) (r : Segment) : (s.setSegment k r).cfs = s.cfs := rfl
@[simp] theorem State.setSegment_nextOid (s : State) (k : SegNo) (r : Segment) : (s.setSegment k r).nextOid = s.nextOid := rfl
@[simp] theorem State.setSegment_freeUses (s : State) (k : SegNo) (r : Segment) : (s.setSegment k r).freeUses = s.freeUses := rfl

/-! ### modSegment -/

@[simp] theorem State.modSegment_pending (s : State) (k : SegNo) (f : Segment → Segment) : (s.modSegment k f).pending = s.pending := rfl
@[simp] theorem State.modSegment_crystal (s : State) (k : SegNo) (f : Segment → Segment) : (s.modSegment k f).crystal = s.crystal := rfl
@[simp] theorem State.modSegment_phase (s : State) (k : SegNo) (f : Segment → Segment) : (s.modSegment k f).phase = s.phase := rfl
@[simp] theorem State.modSegment_contactClosed (s : State) (k : SegNo) (f : Segment → Segment) : (s.modSegment k f).contactClosed = s.contactClosed := rfl
@[simp] theorem State.modSegment_tref (s : State) (k : SegNo) (f : Segment → Segment) : (s.modSegment k f).tref = s.tref := rfl
@[simp] theorem State.modSegment_stored (s : State) (k : SegNo) (f : Segment → Segment) : (s.modSegment k f).stored = s.stored := rfl
@[simp] theorem State.modSegment_owed (s : State) (k : SegNo) (f : Segment → Segment) : (s.modSegment k f).owed = s.owed := rfl
@[simp] theorem State.modSegment_groups (s : State) (k : SegNo) (f : Segment → Segment) : (s.modSegment k f).groups = s.groups := rfl
@[simp] theorem State.modSegment_members (s : State) (k : SegNo) (f : Segment → Segment) : (s.modSegment k f).members = s.members := rfl
@[simp] theorem State.modSegment_polls (s : State) (k : SegNo) (f : Segment → Segment) : (s.modSegment k f).polls = s.polls := rfl
@[simp] theorem State.modSegment_ports (s : State) (k : SegNo) (f : Segment → Segment) : (s.modSegment k f).ports = s.ports := rfl
@[simp] theorem State.modSegment_cfs (s : State) (k : SegNo) (f : Segment → Segment) : (s.modSegment k f).cfs = s.cfs := rfl
@[simp] theorem State.modSegment_nextOid (s : State) (k : SegNo) (f : Segment → Segment) : (s.modSegment k f).nextOid = s.nextOid := rfl
@[simp] theorem State.modSegment_freeUses (s : State) (k : SegNo) (f : Segment → Segment) : (s.modSegment k f).freeUses = s.freeUses := rfl

/-! ### setPoll -/

@[simp] theorem State.setPoll_pending (s : State) (i : Ix) (p : Option Poll) : (s.setPoll i p).pending = s.pending := rfl
@[simp] theorem State.setPoll_crystal (s : State) (i : Ix) (p : Option Poll) : (s.setPoll i p).crystal = s.crystal := rfl
@[simp] theorem State.setPoll_phase (s : State) (i : Ix) (p : Option Poll) : (s.setPoll i p).phase = s.phase := rfl
@[simp] theorem State.setPoll_contactClosed (s : State) (i : Ix) (p : Option Poll) : (s.setPoll i p).contactClosed = s.contactClosed := rfl
@[simp] theorem State.setPoll_tref (s : State) (i : Ix) (p : Option Poll) : (s.setPoll i p).tref = s.tref := rfl
@[simp] theorem State.setPoll_stored (s : State) (i : Ix) (p : Option Poll) : (s.setPoll i p).stored = s.stored := rfl
@[simp] theorem State.setPoll_owed (s : State) (i : Ix) (p : Option Poll) : (s.setPoll i p).owed = s.owed := rfl
@[simp] theorem State.setPoll_groups (s : State) (i : Ix) (p : Option Poll) : (s.setPoll i p).groups = s.groups := rfl
@[simp] theorem State.setPoll_members (s : State) (i : Ix) (p : Option Poll) : (s.setPoll i p).members = s.members := rfl
@[simp] theorem State.setPoll_segments (s : State) (i : Ix) (p : Option Poll) : (s.setPoll i p).segments = s.segments := rfl
@[simp] theorem State.setPoll_ports (s : State) (i : Ix) (p : Option Poll) : (s.setPoll i p).ports = s.ports := rfl
@[simp] theorem State.setPoll_cfs (s : State) (i : Ix) (p : Option Poll) : (s.setPoll i p).cfs = s.cfs := rfl
@[simp] theorem State.setPoll_nextOid (s : State) (i : Ix) (p : Option Poll) : (s.setPoll i p).nextOid = s.nextOid := rfl
@[simp] theorem State.setPoll_freeUses (s : State) (i : Ix) (p : Option Poll) : (s.setPoll i p).freeUses = s.freeUses := rfl

/-! ### modPoll -/

@[simp] theorem State.modPoll_pending (s : State) (i : Ix) (f : Poll → Poll) : (s.modPoll i f).pending = s.pending := rfl
@[simp] theorem State.modPoll_crystal (s : State) (i : Ix) (f : Poll → Poll) : (s.modPoll i f).crystal = s.crystal := rfl
@[simp] theorem State.modPoll_phase (s : State) (i : Ix) (f : Poll → Poll) : (s.modPoll i f).phase = s.phase := rfl
@[simp] theorem State.modPoll_contactClosed (s : State) (i : Ix) (f : Poll → Poll) : (s.modPoll i f).contactClosed = s.contactClosed := rfl
@[simp] theorem State.modPoll_tref (s : State) (i : Ix) (f : Poll → Poll) : (s.modPoll i f).tref = s.tref := rfl
@[simp] theorem State.modPoll_stored (s : State) (i : Ix) (f : Poll → Poll) : (s.modPoll i f).stored = s.stored := rfl
@[simp] theorem State.modPoll_owed (s : State) (i : Ix) (f : Poll → Poll) : (s.modPoll i f).owed = s.owed := rfl
@[simp] theorem State.modPoll_groups (s : State) (i : Ix) (f : Poll → Poll) : (s.modPoll i f).groups = s.groups := rfl
@[simp] theorem State.modPoll_members (s : State) (i : Ix) (f : Poll → Poll) : (s.modPoll i f).members = s.members := rfl
@[simp] theorem State.modPoll_segments (s : State) (i : Ix) (f : Poll → Poll) : (s.modPoll i f).segments = s.segments := rfl
@[simp] theorem State.modPoll_ports (s : State) (i : Ix) (f : Poll → Poll) : (s.modPoll i f).ports = s.ports := rfl
@[simp] theorem State.modPoll_cfs (s : State) (i : Ix) (f : Poll → Poll) : (s.modPoll i f).cfs = s.cfs := rfl
@[simp] theorem State.modPoll_nextOid (s : State) (i : Ix) (f : Poll → Poll) : (s.modPoll i f).nextOid = s.nextOid := rfl
@[simp] theorem State.modPoll_freeUses (s : State) (i : Ix) (f : Poll → Poll) : (s.modPoll i f).freeUses = s.freeUses := rfl

/-! ### setPort -/

@[simp] theorem State.setPort_pending (s : State) (p : Port) (r : PortState) : (s.setPort p r).pending = s.pending := rfl
@[simp] theorem State.setPort_crystal (s : State) (p : Port) (r : PortState) : (s.setPort p r).crystal = s.crystal := rfl
@[simp] theorem State.setPort_phase (s : State) (p : Port) (r : PortState) : (s.setPort p r).phase = s.phase := rfl
@[simp] theorem State.setPort_contactClosed (s : State) (p : Port) (r : PortState) : (s.setPort p r).contactClosed = s.contactClosed := rfl
@[simp] theorem State.setPort_tref (s : State) (p : Port) (r : PortState) : (s.setPort p r).tref = s.tref := rfl
@[simp] theorem State.setPort_stored (s : State) (p : Port) (r : PortState) : (s.setPort p r).stored = s.stored := rfl
@[simp] theorem State.setPort_owed (s : State) (p : Port) (r : PortState) : (s.setPort p r).owed = s.owed := rfl
@[simp] theorem State.setPort_groups (s : State) (p : Port) (r : PortState) : (s.setPort p r).groups = s.groups := rfl
@[simp] theorem State.setPort_members (s : State) (p : Port) (r : PortState) : (s.setPort p r).members = s.members := rfl
@[simp] theorem State.setPort_segments (s : State) (p : Port) (r : PortState) : (s.setPort p r).segments = s.segments := rfl
@[simp] theorem State.setPort_polls (s : State) (p : Port) (r : PortState) : (s.setPort p r).polls = s.polls := rfl
@[simp] theorem State.setPort_cfs (s : State) (p : Port) (r : PortState) : (s.setPort p r).cfs = s.cfs := rfl
@[simp] theorem State.setPort_nextOid (s : State) (p : Port) (r : PortState) : (s.setPort p r).nextOid = s.nextOid := rfl
@[simp] theorem State.setPort_freeUses (s : State) (p : Port) (r : PortState) : (s.setPort p r).freeUses = s.freeUses := rfl

/-! ### modPort -/

@[simp] theorem State.modPort_pending (s : State) (p : Port) (f : PortState → PortState) : (s.modPort p f).pending = s.pending := rfl
@[simp] theorem State.modPort_crystal (s : State) (p : Port) (f : PortState → PortState) : (s.modPort p f).crystal = s.crystal := rfl
@[simp] theorem State.modPort_phase (s : State) (p : Port) (f : PortState → PortState) : (s.modPort p f).phase = s.phase := rfl
@[simp] theorem State.modPort_contactClosed (s : State) (p : Port) (f : PortState → PortState) : (s.modPort p f).contactClosed = s.contactClosed := rfl
@[simp] theorem State.modPort_tref (s : State) (p : Port) (f : PortState → PortState) : (s.modPort p f).tref = s.tref := rfl
@[simp] theorem State.modPort_stored (s : State) (p : Port) (f : PortState → PortState) : (s.modPort p f).stored = s.stored := rfl
@[simp] theorem State.modPort_owed (s : State) (p : Port) (f : PortState → PortState) : (s.modPort p f).owed = s.owed := rfl
@[simp] theorem State.modPort_groups (s : State) (p : Port) (f : PortState → PortState) : (s.modPort p f).groups = s.groups := rfl
@[simp] theorem State.modPort_members (s : State) (p : Port) (f : PortState → PortState) : (s.modPort p f).members = s.members := rfl
@[simp] theorem State.modPort_segments (s : State) (p : Port) (f : PortState → PortState) : (s.modPort p f).segments = s.segments := rfl
@[simp] theorem State.modPort_polls (s : State) (p : Port) (f : PortState → PortState) : (s.modPort p f).polls = s.polls := rfl
@[simp] theorem State.modPort_cfs (s : State) (p : Port) (f : PortState → PortState) : (s.modPort p f).cfs = s.cfs := rfl
@[simp] theorem State.modPort_nextOid (s : State) (p : Port) (f : PortState → PortState) : (s.modPort p f).nextOid = s.nextOid := rfl
@[simp] theorem State.modPort_freeUses (s : State) (p : Port) (f : PortState → PortState) : (s.modPort p f).freeUses = s.freeUses := rfl

/-! ### owe -/

@[simp] theorem State.owe_pending (s : State) (g : GroupSet) : (s.owe g).pending = s.pending := rfl
@[simp] theorem State.owe_crystal (s : State) (g : GroupSet) : (s.owe g).crystal = s.crystal := rfl
@[simp] theorem State.owe_phase (s : State) (g : GroupSet) : (s.owe g).phase = s.phase := rfl
@[simp] theorem State.owe_contactClosed (s : State) (g : GroupSet) : (s.owe g).contactClosed = s.contactClosed := rfl
@[simp] theorem State.owe_tref (s : State) (g : GroupSet) : (s.owe g).tref = s.tref := rfl
@[simp] theorem State.owe_stored (s : State) (g : GroupSet) : (s.owe g).stored = s.stored := rfl
@[simp] theorem State.owe_groups (s : State) (g : GroupSet) : (s.owe g).groups = s.groups := rfl
@[simp] theorem State.owe_members (s : State) (g : GroupSet) : (s.owe g).members = s.members := rfl
@[simp] theorem State.owe_segments (s : State) (g : GroupSet) : (s.owe g).segments = s.segments := rfl
@[simp] theorem State.owe_polls (s : State) (g : GroupSet) : (s.owe g).polls = s.polls := rfl
@[simp] theorem State.owe_ports (s : State) (g : GroupSet) : (s.owe g).ports = s.ports := rfl
@[simp] theorem State.owe_cfs (s : State) (g : GroupSet) : (s.owe g).cfs = s.cfs := rfl
@[simp] theorem State.owe_nextOid (s : State) (g : GroupSet) : (s.owe g).nextOid = s.nextOid := rfl
@[simp] theorem State.owe_freeUses (s : State) (g : GroupSet) : (s.owe g).freeUses = s.freeUses := rfl

/-! ### pump -/

@[simp] theorem State.pump_pending (s : State) : (s.pump).pending = s.pending := rfl
@[simp] theorem State.pump_crystal (s : State) : (s.pump).crystal = s.crystal := rfl
@[simp] theorem State.pump_phase (s : State) : (s.pump).phase = s.phase := rfl
@[simp] theorem State.pump_contactClosed (s : State) : (s.pump).contactClosed = s.contactClosed := rfl
@[simp] theorem State.pump_tref (s : State) : (s.pump).tref = s.tref := rfl
@[simp] theorem State.pump_stored (s : State) : (s.pump).stored = s.stored := rfl
@[simp] theorem State.pump_owed (s : State) : (s.pump).owed = s.owed := rfl
@[simp] theorem State.pump_groups (s : State) : (s.pump).groups = s.groups := rfl
@[simp] theorem State.pump_members (s : State) : (s.pump).members = s.members := rfl
@[simp] theorem State.pump_segments (s : State) : (s.pump).segments = s.segments := rfl
@[simp] theorem State.pump_polls (s : State) : (s.pump).polls = s.polls := rfl
@[simp] theorem State.pump_cfs (s : State) : (s.pump).cfs = s.cfs := rfl
@[simp] theorem State.pump_nextOid (s : State) : (s.pump).nextOid = s.nextOid := rfl
@[simp] theorem State.pump_freeUses (s : State) : (s.pump).freeUses = s.freeUses := rfl

/-! ### offerAt and offer -/

@[simp] theorem State.offerAt_pending (s : State) (e : Nat) (b : NoticeBody) : (s.offerAt e b).pending = s.pending := by
  unfold State.offerAt; split <;> rfl
@[simp] theorem State.offerAt_crystal (s : State) (e : Nat) (b : NoticeBody) : (s.offerAt e b).crystal = s.crystal := by
  unfold State.offerAt; split <;> rfl
@[simp] theorem State.offerAt_phase (s : State) (e : Nat) (b : NoticeBody) : (s.offerAt e b).phase = s.phase := by
  unfold State.offerAt; split <;> rfl
@[simp] theorem State.offerAt_contactClosed (s : State) (e : Nat) (b : NoticeBody) : (s.offerAt e b).contactClosed = s.contactClosed := by
  unfold State.offerAt; split <;> rfl
@[simp] theorem State.offerAt_tref (s : State) (e : Nat) (b : NoticeBody) : (s.offerAt e b).tref = s.tref := by
  unfold State.offerAt; split <;> rfl
@[simp] theorem State.offerAt_stored (s : State) (e : Nat) (b : NoticeBody) : (s.offerAt e b).stored = s.stored := by
  unfold State.offerAt; split <;> rfl
@[simp] theorem State.offerAt_owed (s : State) (e : Nat) (b : NoticeBody) : (s.offerAt e b).owed = s.owed := by
  unfold State.offerAt; split <;> rfl
@[simp] theorem State.offerAt_groups (s : State) (e : Nat) (b : NoticeBody) : (s.offerAt e b).groups = s.groups := by
  unfold State.offerAt; split <;> rfl
@[simp] theorem State.offerAt_members (s : State) (e : Nat) (b : NoticeBody) : (s.offerAt e b).members = s.members := by
  unfold State.offerAt; split <;> rfl
@[simp] theorem State.offerAt_segments (s : State) (e : Nat) (b : NoticeBody) : (s.offerAt e b).segments = s.segments := by
  unfold State.offerAt; split <;> rfl
@[simp] theorem State.offerAt_polls (s : State) (e : Nat) (b : NoticeBody) : (s.offerAt e b).polls = s.polls := by
  unfold State.offerAt; split <;> rfl
@[simp] theorem State.offerAt_cfs (s : State) (e : Nat) (b : NoticeBody) : (s.offerAt e b).cfs = s.cfs := by
  unfold State.offerAt; split <;> rfl
@[simp] theorem State.offerAt_nextOid (s : State) (e : Nat) (b : NoticeBody) : (s.offerAt e b).nextOid = s.nextOid := by
  unfold State.offerAt; split <;> rfl
@[simp] theorem State.offerAt_freeUses (s : State) (e : Nat) (b : NoticeBody) : (s.offerAt e b).freeUses = s.freeUses := by
  unfold State.offerAt; split <;> rfl
@[simp] theorem State.offer_pending (s : State) (b : NoticeBody) : (s.offer b).pending = s.pending := by
  unfold State.offer; simp
@[simp] theorem State.offer_crystal (s : State) (b : NoticeBody) : (s.offer b).crystal = s.crystal := by
  unfold State.offer; simp
@[simp] theorem State.offer_phase (s : State) (b : NoticeBody) : (s.offer b).phase = s.phase := by
  unfold State.offer; simp
@[simp] theorem State.offer_contactClosed (s : State) (b : NoticeBody) : (s.offer b).contactClosed = s.contactClosed := by
  unfold State.offer; simp
@[simp] theorem State.offer_tref (s : State) (b : NoticeBody) : (s.offer b).tref = s.tref := by
  unfold State.offer; simp
@[simp] theorem State.offer_stored (s : State) (b : NoticeBody) : (s.offer b).stored = s.stored := by
  unfold State.offer; simp
@[simp] theorem State.offer_owed (s : State) (b : NoticeBody) : (s.offer b).owed = s.owed := by
  unfold State.offer; simp
@[simp] theorem State.offer_groups (s : State) (b : NoticeBody) : (s.offer b).groups = s.groups := by
  unfold State.offer; simp
@[simp] theorem State.offer_members (s : State) (b : NoticeBody) : (s.offer b).members = s.members := by
  unfold State.offer; simp
@[simp] theorem State.offer_segments (s : State) (b : NoticeBody) : (s.offer b).segments = s.segments := by
  unfold State.offer; simp
@[simp] theorem State.offer_polls (s : State) (b : NoticeBody) : (s.offer b).polls = s.polls := by
  unfold State.offer; simp
@[simp] theorem State.offer_cfs (s : State) (b : NoticeBody) : (s.offer b).cfs = s.cfs := by
  unfold State.offer; simp
@[simp] theorem State.offer_nextOid (s : State) (b : NoticeBody) : (s.offer b).nextOid = s.nextOid := by
  unfold State.offer; simp
@[simp] theorem State.offer_freeUses (s : State) (b : NoticeBody) : (s.offer b).freeUses = s.freeUses := by
  unfold State.offer; simp

/-! ### endGap and takeFrame -/

/-- Ending a passed gap counts the stale frame and hunts; it changes nothing else of a port. -/
theorem PortState.endGap_eq (p : PortState) (now : Nat) :
    p.endGap now
      = { p with rx := if p.rx.gap now then .hunting else p.rx
                 counters := { p.counters with
                   frameError := if p.rx.gap now then count16 p.counters.frameError else p.counters.frameError } } := by
  unfold PortState.endGap
  split <;> rfl

/-- A good frame is counted, after a stale frame that a passed gap has ended; it changes nothing else of a port. -/
theorem PortState.takeFrame_eq (p : PortState) (now : Nat) :
    p.takeFrame now
      = { p with rx := .hunting
                 counters := { p.counters with
                   request := count16 p.counters.request
                   frameError := if p.rx.gap now then count16 p.counters.frameError else p.counters.frameError } } := by
  simp [PortState.takeFrame, PortState.endGap_eq]

@[simp] theorem PortState.takeFrame_service (p : PortState) (now : Nat) : (p.takeFrame now).service = p.service := by
  rw [p.takeFrame_eq]
@[simp] theorem PortState.takeFrame_rx (p : PortState) (now : Nat) : (p.takeFrame now).rx = .hunting := by
  rw [p.takeFrame_eq]
@[simp] theorem PortState.takeFrame_busyList (p : PortState) (now : Nat) : (p.takeFrame now).busyList = p.busyList := by
  rw [p.takeFrame_eq]
@[simp] theorem PortState.takeFrame_mask (p : PortState) (now : Nat) : (p.takeFrame now).mask = p.mask := by
  rw [p.takeFrame_eq]
@[simp] theorem PortState.takeFrame_queue (p : PortState) (now : Nat) : (p.takeFrame now).queue = p.queue := by
  rw [p.takeFrame_eq]
@[simp] theorem PortState.takeFrame_tx (p : PortState) (now : Nat) : (p.takeFrame now).tx = p.tx := by
  rw [p.takeFrame_eq]

end Sys2Proof.Machine
end

