-- ==== Sys2Proof/Laws/Works.lean ====
section
/-! SUPPORT. What the shared operations of coordination and of the field link can do: each of them takes the state there by
updates of group, member and segment records, offers of notices, discharges of owed polls, and fresh order numbers, and by
nothing else (`Works`). A group record changes only in ways that keep it sound, and a segment's queue changes only by `QueueEdit`. Every frame of the model follows from these lemmas. -/

namespace Sys2Proof.Machine

/-- How an operation may change a queue: transactions are put in at their place, leave, or have their body replaced. -/
inductive QueueEdit : List Txn → List Txn → Prop
  | same (q : List Txn) : QueueEdit q q
  | insert (q : List Txn) (t : Txn) : QueueEdit q (insertTxn t q)
  | filter (q : List Txn) (p : Txn → Bool) : QueueEdit q (q.filter p)
  | rebody (q : List Txn) (f : Txn → Txn) (h : ∀ t, (f t).enqueued = t.enqueued ∧ (f t).seq = t.seq) :
      QueueEdit q (q.map f)

/-- The updates that coordination and the field link are made of. -/
inductive Works : State → State → Prop
  | refl (s : State) : Works s s
  | trans {s t u : State} : Works s t → Works t u → Works s u
  | group (s : State) (g : GroupNo) (r : Group) (h : (s.group g).Sound → r.Sound) : Works s (s.setGroup g r)
  | member (s : State) (i : Ix) (m : Member) : Works s (s.setMember i m)
  | segment (s : State) (k : SegNo) (r : Segment) (h : QueueEdit (s.segment k).queue r.queue) :
      Works s (s.setSegment k r)
  | discharge (s : State) (i : Ix) : Works s (s.modPoll i Poll.discharge)
  | offer (s : State) (b : NoticeBody) : Works s (s.offer b)
  | oid (s : State) (n : Nat) : Works s { s with nextOid := n }

namespace Works

theorem modMember (s : State) (i : Ix) (f : Member → Member) : Works s (s.modMember i f) := .member _ _ _

theorem modSegment (s : State) (k : SegNo) (f : Segment → Segment) (h : ∀ r, QueueEdit r.queue (f r).queue) :
    Works s (s.modSegment k f) := .segment _ _ _ (h _)

theorem foldl {α : Type} (f : State → α → State) (h : ∀ s a, Works s (f s a)) (l : List α) (s : State) :
    Works s (l.foldl f s) := by
  induction l generalizing s with
  | nil => exact .refl _
  | cons a l ih => exact .trans (h s a) (ih _)

/-- A property that every update keeps is kept. -/
theorem keeps {P : State → Prop} {s t : State} (h : Works s t) (hs : P s)
    (hg : ∀ s g r, ((s.group g).Sound → r.Sound) → P s → P (s.setGroup g r)) (hm : ∀ s i m, P s → P (s.setMember i m))
    (hk : ∀ s k r, QueueEdit (s.segment k).queue r.queue → P s → P (s.setSegment k r))
    (hd : ∀ s i, P s → P (s.modPoll i Poll.discharge)) (ho : ∀ s b, P s → P (s.offer b))
    (hn : ∀ (s : State) n, P s → P { s with nextOid := n }) : P t := by
  induction h with
  | refl => exact hs
  | trans _ _ ih1 ih2 => exact ih2 (ih1 hs)
  | group _ _ _ h => exact hg _ _ _ h hs
  | member => exact hm _ _ _ hs
  | segment _ _ _ h => exact hk _ _ _ h hs
  | discharge => exact hd _ _ hs
  | offer => exact ho _ _ hs
  | oid => exact hn _ _ hs

/-- What the operations leave alone. -/
theorem frame {s t : State} (h : Works s t) :
    t.pending = s.pending ∧ t.crystal = s.crystal ∧ t.phase = s.phase ∧ t.contactClosed = s.contactClosed
      ∧ t.tref = s.tref ∧ t.stored = s.stored ∧ t.owed = s.owed ∧ t.cfs = s.cfs ∧ t.freeUses = s.freeUses := by
  induction h with
  | refl => simp
  | trans _ _ ih1 ih2 => simp [ih1, ih2]
  | group => simp
  | member => simp
  | segment => simp
  | discharge => simp
  | offer => simp
  | oid => simp

theorem pending_eq {s t : State} (h : Works s t) : t.pending = s.pending := h.frame.1
theorem crystal_eq {s t : State} (h : Works s t) : t.crystal = s.crystal := h.frame.2.1
theorem phase_eq {s t : State} (h : Works s t) : t.phase = s.phase := h.frame.2.2.1
theorem contact_eq {s t : State} (h : Works s t) : t.contactClosed = s.contactClosed := h.frame.2.2.2.1
theorem tref_eq {s t : State} (h : Works s t) : t.tref = s.tref := h.frame.2.2.2.2.1
theorem stored_eq {s t : State} (h : Works s t) : t.stored = s.stored := h.frame.2.2.2.2.2.1
theorem owed_eq {s t : State} (h : Works s t) : t.owed = s.owed := h.frame.2.2.2.2.2.2.1
theorem cfs_eq {s t : State} (h : Works s t) : t.cfs = s.cfs := h.frame.2.2.2.2.2.2.2.1
theorem freeUses_eq {s t : State} (h : Works s t) : t.freeUses = s.freeUses := h.frame.2.2.2.2.2.2.2.2

end Works

/-! ### Queue operations -/

theorem Segment.join_edit (k : Segment) (e : Nat) (i : Ix) (b : TxnBody) : QueueEdit k.queue (k.join e i b).queue :=
  .insert _ _

theorem Segment.putOrder_edit (k : Segment) (e : Nat) (i : Ix) (b : TxnBody) :
    QueueEdit k.queue (k.putOrder e i b).queue := by
  unfold Segment.putOrder
  split
  · refine .rebody _ _ fun t => ?_
    split <;> simp
  · exact .insert _ _

theorem Segment.putQuery_edit (k : Segment) (e : Nat) (i : Ix) : QueueEdit k.queue (k.putQuery e i).queue := by
  unfold Segment.putQuery
  split
  · exact .same _
  · exact .insert _ _

theorem State.dropOrder_works (s : State) (i : Ix) : Works s (s.dropOrder i) := by
  unfold State.dropOrder
  split
  · exact .modSegment _ _ _ fun r => .filter _ _
  · exact .refl _

theorem State.enqueueQuery_works (s : State) (i : Ix) : Works s (s.enqueueQuery i) := by
  unfold State.enqueueQuery
  split
  · exact .modSegment _ _ _ fun r => r.putQuery_edit _ _
  · exact .refl _

theorem State.choose_works (s : State) (k : SegNo) : Works s (s.choose k) := by
  unfold State.choose
  split
  · split
    · exact .modSegment _ _ _ fun r => .same _
    · exact .refl _
  · exact .refl _

theorem State.send_works (s : State) (k : SegNo) (n : Named) : Works s (s.send k n) := by
  unfold State.send
  split
  · exact .modSegment _ _ _ fun r => .filter _ _
  · exact .refl _

theorem State.recheck_works (s : State) (k : SegNo) (c : Candidate) : Works s (s.recheck k c) := by
  unfold State.recheck
  extract_lets displaced s0
  have h0 : Works s s0 := .modSegment _ _ _ fun r => .same _
  split
  · exact h0
  · refine (h0.trans (.modSegment _ _ _ fun r => ?_)).trans (State.send_works _ _ _)
    split <;> exact .same _

theorem State.enterSegment_works (s : State) (k : SegNo) (st : SegState) (c : SegCause) :
    Works s (s.enterSegment k st c) :=
  .trans (.modSegment s k (fun r => { r with state := st }) fun _ => .same _) (.offer _ _)

theorem State.startChecking_works (s : State) (k : SegNo) (c : SegCause) : Works s (s.startChecking k c) :=
  .trans (.modSegment s k (fun r => { r with line := .mark, lineSince := s.crystal }) fun _ => .same _)
    (State.enterSegment_works _ _ _ _)

/-! ### Coordination -/

theorem State.clearCond_works (s : State) (i : Ix) (c : FaultClass) : Works s (s.clearCond i c) := .modMember _ _ _

theorem State.enter_works (s : State) (i : Ix) (st : MemberState) : Works s (s.enter i st) := .modMember _ _ _

theorem State.offerSteady_works (s : State) (g : GroupNo) : Works s (s.offerSteady g) := .offer _ _

theorem State.testSteady_works (s : State) (g : GroupNo) : Works s (s.testSteady g) := by
  unfold State.testSteady
  split
  · rename_i h
    refine .trans (.group _ _ _ fun hs => ?_) (State.offerSteady_works _ _)
    simp_all [Group.Sound]
  · exact .refl _

theorem State.testWorking_works (s : State) (g : GroupNo) : Works s (s.testWorking g) := by
  unfold State.testWorking
  split
  · rename_i h
    refine .group _ _ _ fun hs => ?_
    simp_all [Group.Sound]
  · exact .refl _

theorem State.groupTests_works (s : State) (g : GroupNo) : Works s (s.groupTests g) :=
  .trans (State.testWorking_works _ _) (State.testSteady_works _ _)

theorem State.testsOf_works (s : State) (i : Ix) : Works s (s.testsOf i) := by
  unfold State.testsOf
  split
  · exact State.groupTests_works _ _
  · exact .refl _

theorem State.placeOrder_works (s : State) (i : Ix) (kind : OrderKind) (p : OrderPayload) :
    Works s (s.placeOrder i kind p) := by
  unfold State.placeOrder
  extract_lets s1 s2
  have h1 : Works s s1 := by
    unfold s1
    split
    · exact .modSegment _ _ _ fun r => r.putOrder_edit _ _ _
    · exact .refl _
  exact (h1.trans (.modMember _ _ _)).trans (.oid _ _)

theorem State.clearOrder_works (s : State) (i : Ix) : Works s (s.clearOrder i) := .modMember _ _ _

theorem State.release_works (s : State) (i : Ix) (tm : Nat) : Works s (s.release i tm) := by
  unfold State.release
  extract_lets s1
  have h1 : Works s s1 := by
    unfold s1
    split
    · exact .modMember _ _ _
    · exact .refl _
  split
  · exact h1.trans (State.clearOrder_works _ _)
  · exact h1.trans (State.placeOrder_works _ _ _ _)

theorem State.releaseTo_works (s : State) (i : Ix) (tm : Nat) (st : MemberState) :
    Works s ((s.release i tm).enter i st) := .trans (State.release_works _ _ _) (State.enter_works _ _ _)

theorem State.suspendMember_works (s : State) (i : Ix) : Works s (s.suspendMember i) := by
  unfold State.suspendMember
  split
  case h_5 =>
    extract_lets s1
    have h1 : Works s s1 := State.release_works _ _ _
    split
    · exact h1
    · exact h1.trans (State.enter_works _ _ _)
  case h_6 => exact .refl _
  all_goals exact State.releaseTo_works _ _ _ _

theorem State.suspend_works (s : State) (g : GroupNo) (c : FaultClass) (i : Ix) : Works s (s.suspend g c i) :=
  .trans (.group _ _ _ fun _ => by simp [Group.Sound]) (.foldl _ (fun s i => s.suspendMember_works i) _ _)

theorem State.latch_works (s : State) (i : Ix) (c : FaultClass) : Works s (s.latch i c) := by
  unfold State.latch
  extract_lets s1
  have h1 : Works s s1 := .modMember _ _ _
  split
  case h_6 => exact h1
  all_goals exact h1.trans (State.releaseTo_works _ _ _ _)

theorem State.exclude_works (s : State) (i : Ix) : Works s (s.exclude i) := by
  unfold State.exclude
  split
  case h_5 => exact .refl _
  all_goals exact State.enter_works _ _ _

theorem State.raise_works (s : State) (i : Ix) (c : FaultClass) (cause : Option MissCause) (reason : Option Nat) :
    Works s (s.raise i c cause reason) := by
  unfold State.raise
  extract_lets pair s1 s2
  have h1 : Works s s1 := .modMember _ _ _
  have h2 : Works s s2 := by
    unfold s2
    split
    · exact h1
    · exact h1.trans (.offer _ _)
  split
  · have h3 : Works s (s2.latch i c) := h2.trans (State.latch_works _ _ _)
    split
    · split
      · exact h3.trans (State.suspend_works _ _ _ _)
      · exact h3
    · exact h3.trans (State.testsOf_works _ _)
  · exact (h2.trans (State.exclude_works _ _)).trans (State.testsOf_works _ _)
  · exact h2
  · exact h2

theorem State.failCheck_works (s : State) (i : Ix) : Works s (s.failCheck i) := by
  unfold State.failCheck
  extract_lets m s1
  have h1 : Works s s1 := by
    unfold s1
    split
    · exact State.releaseTo_works _ _ _ _
    · exact .refl _
  exact (h1.trans (State.raise_works _ _ _ _ _)).trans (State.testsOf_works _ _)

theorem State.orderMember_works (s : State) (i : Ix) (plan tm : Nat) : Works s (s.orderMember i plan tm) := by
  unfold State.orderMember
  split
  · split
    · extract_lets s1
      have h1 : Works s s1 := (State.clearCond_works _ _ _).trans (State.placeOrder_works _ _ _ _)
      exact (h1.trans (.modMember _ _ _)).trans (State.testsOf_works _ _)
    · exact State.failCheck_works _ _
  · exact State.failCheck_works _ _

theorem State.readmit_works (s : State) (i : Ix) (b : Bool) : Works s (s.readmit i b) := by
  unfold State.readmit
  extract_lets s1 stay kept
  have h1 : Works s s1 := State.enter_works _ _ _
  have hs : Works s stay := by
    unfold stay
    split
    · exact h1.trans (State.release_works _ _ _)
    · exact h1
  have ho : Works s ((s1.enter i .ordered).testsOf i) :=
    (h1.trans (State.enter_works _ _ _)).trans (State.testsOf_works _ _)
  have hm : ∀ plan tm, Works s (s1.orderMember i plan tm) := fun _ _ => h1.trans (State.orderMember_works _ _ _ _)
  split
  · exact hs
  · extract_lets r
    split
    · exact hs
    · exact hs
    · split
      · exact hs
      · split
        · exact ho
        · exact hm _ _
    · split
      · exact ho
      · exact hm _ _
    · split
      · exact ho
      · exact hm _ _

theorem State.tryReadmit_works (s : State) (i : Ix) : Works s (s.tryReadmit i) := by
  unfold State.tryReadmit
  split
  · exact State.readmit_works _ _ _
  · exact .refl _

theorem State.endCond_works (s : State) (i : Ix) (c : FaultClass) : Works s (s.endCond i c) := by
  unfold State.endCond
  split
  · exact .trans (State.clearCond_works _ _ _) (State.tryReadmit_works _ _)
  · exact .refl _

theorem State.placeUnknown_works (s : State) (i : Ix) : Works s (s.placeUnknown i) := by
  unfold State.placeUnknown
  extract_lets refreshed s1
  have h1 : Works s s1 := .modMember _ _ _
  split
  · exact h1.trans (State.releaseTo_works _ _ _ _)
  · split
    · exact h1.trans (State.enter_works _ _ _)
    · exact h1.trans (State.readmit_works _ _ _)

theorem State.goOffline_works (s : State) (i : Ix) : Works s (s.goOffline i) := by
  unfold State.goOffline
  extract_lets s1
  have h1 : Works s s1 := by
    unfold s1
    split
    · exact .modSegment _ _ _ fun r => .filter _ _
    · exact .refl _
  exact (h1.trans (.modMember _ _ _)).trans (State.testsOf_works _ _)

/-! ### Transition -/

theorem State.raiseBlocked_works (s : State) (i : Ix) : Works s (s.raiseBlocked i) := by
  unfold State.raiseBlocked
  split
  · exact .refl _
  · exact State.raise_works _ _ _ _ _

theorem State.startCorrecting_works (s : State) (i : Ix) (x : Measured) (m : Method) :
    Works s (s.startCorrecting i x m) := by
  unfold State.startCorrecting
  extract_lets s1
  split
  have h1 : Works s s1 := .modMember _ _ _
  split
  · exact h1.trans (.modMember _ _ _)
  · exact (h1.trans (.modMember _ _ _)).trans (State.raiseBlocked_works _ _)

theorem State.transitionStart_works (s : State) (i : Ix) : Works s (s.transitionStart i) := by
  unfold State.transitionStart
  split
  · exact .refl _
  · extract_lets method s1
    have h1 : Works s s1 := .modMember _ _ _
    split
    · have h2 : Works s (s1.clearCond i .capability) := h1.trans (State.clearCond_works _ _ _)
      split
      · exact h2
      · extract_lets s3 s4
        have h3 : Works s s3 := h2.trans (.modMember _ _ _)
        have h4 : Works s s4 := by
          unfold s4
          split
          · exact h3.trans (.modMember _ _ _)
          · exact h3.trans (State.startCorrecting_works _ _ _ _)
        exact h4.trans (State.testsOf_works _ _)
    · exact (h1.trans (.modMember _ _ _)).trans (State.failCheck_works _ _)

theorem State.complete_works (s : State) (i : Ix) : Works s (s.complete i) :=
  .trans (.modMember _ _ _) (State.testsOf_works _ _)

theorem State.deadlineTest_works (s : State) (i : Ix) : Works s (s.deadlineTest i) := by
  unfold State.deadlineTest
  extract_lets m
  split
  · exact .trans (.modMember _ _ _) (State.raise_works _ _ _ _ _)
  · exact .refl _

theorem State.redirect_works (s : State) (i : Ix) (x : Measured) : Works s (s.redirect i x) := by
  unfold State.redirect
  extract_lets m method
  split
  extract_lets c
  split
  · split
    · exact .modMember _ _ _
    · exact .trans (.modMember _ _ _) (State.raiseBlocked_works _ _)
  · exact .modMember _ _ _

theorem State.recompute_works (s : State) (i : Ix) (k : Nat) (x : Measured) : Works s (s.recompute i k x) := by
  unfold State.recompute
  split
  · exact ((State.clearCond_works _ _ _).trans (State.redirect_works _ _ _)).trans (State.deadlineTest_works _ _)
  · exact State.failCheck_works _ _

theorem State.planLost_works (s : State) (i : Ix) : Works s (s.planLost i) := by
  unfold State.planLost
  split
  · exact .trans (.modMember _ _ _) (State.orderMember_works _ _ _ _)
  · exact .refl _

theorem State.follow_works (s : State) (i : Ix) (b : Bool) : Works s (s.follow i b) := by
  unfold State.follow
  split
  · exact .refl _
  · extract_lets k
    split
    · exact State.planLost_works _ _
    · split
      · exact State.transitionStart_works _ _
      · split
        · exact .refl _
        · extract_lets s1 near
          have h1 : Works s s1 := .modMember _ _ _
          split
          · split
            · exact h1
            · exact h1.trans (State.transitionStart_works _ _)
          · split
            · exact h1.trans (State.complete_works _ _)
            · split
              · exact h1.trans (State.recompute_works _ _ _ _)
              · exact h1

theorem State.measureExcluded_works (s : State) (i : Ix) : Works s (s.measureExcluded i) := by
  unfold State.measureExcluded
  split
  · exact .refl _
  · extract_lets r
    split
    · split
      · exact .refl _
      · extract_lets s1
        have h1 : Works s s1 := .modMember _ _ _
        split
        · exact (h1.trans (.modMember _ _ _)).trans (State.tryReadmit_works _ _)
        · exact h1
    · exact .refl _

/-! ### Replies and no-replies -/

theorem State.takeAlerts_works (s : State) (i : Ix) (r : GoodReply) : Works s (s.takeAlerts i r) := by
  unfold State.takeAlerts
  extract_lets m after s1 new s2
  have h1 : Works s s1 := .modMember _ _ _
  have h2 : Works s s2 := by
    unfold s2
    split
    · exact h1
    · exact h1.trans (.offer _ _)
  split
  · exact h2.trans (State.enqueueQuery_works _ _)
  · exact h2

theorem State.commonSteps_works (s : State) (i : Ix) (r : GoodReply) : Works s (s.commonSteps i r) := by
  unfold State.commonSteps
  extract_lets prev hadNoReply s1 new alertStands s2 ends s3
  have h1 : Works s s1 := .trans (.modMember _ _ _) (State.takeAlerts_works _ _ _)
  have h2 : Works s s2 := by
    unfold s2
    split
    · exact h1.trans (State.clearCond_works _ _ _)
    · exact h1
  have h3 : Works s s3 := by
    unfold s3
    split
    · exact h2.trans (State.raise_works _ _ _ _ _)
    · split
      · exact h2.trans (State.clearCond_works _ _ _)
      · exact h2
  split
  · exact h3.trans (State.tryReadmit_works _ _)
  · exact h3

theorem State.switchMember_works (s : State) (i : Ix) : Works s (s.switchMember i) :=
  ((State.clearOrder_works _ _).trans (State.dropOrder_works _ _)).trans (State.transitionStart_works _ _)

theorem State.notSwitched_works (s : State) (i : Ix) : Works s (s.notSwitched i) := by
  unfold State.notSwitched
  split
  · split
    · extract_lets s1
      have h1 : Works s s1 := by
        unfold s1
        split
        · exact .trans (State.dropOrder_works _ _) (.modSegment _ _ _ fun r => r.join_edit _ _ _)
        · exact .refl _
      exact (h1.trans (.modMember _ _ _)).trans (State.raise_works _ _ _ _ _)
    · exact .refl _
  · exact .refl _

theorem State.switchingTests_works (s : State) (i : Ix) : Works s (s.switchingTests i) := by
  unfold State.switchingTests
  extract_lets s1
  have h1 : Works s s1 := by
    unfold s1
    split
    · exact State.endCond_works _ _ _
    · exact .refl _
  split
  · exact h1.trans (State.switchMember_works _ _)
  · exact h1.trans (State.notSwitched_works _ _)

theorem State.handlePoll_works (s : State) (i : Ix) (b : Bool) : Works s (s.handlePoll i b) := by
  unfold State.handlePoll
  split
  · exact State.switchingTests_works _ _
  · extract_lets s1
    have h1 : Works s s1 := State.switchingTests_works _ _
    split
    · exact h1.trans (State.measureExcluded_works _ _)
    · exact h1
  · exact State.follow_works _ _ _
  · exact State.follow_works _ _ _
  · exact .refl _

theorem State.putBackOrder_works (s : State) (k : SegNo) (t : InFlight) (oid : Nat) (p : OrderPayload) :
    Works s (s.putBackOrder k t oid p) := .modSegment _ _ _ fun _ => .insert _ _

theorem State.endUndelivered_works (s : State) (i : Ix) : Works s (s.endUndelivered i) := by
  unfold State.endUndelivered
  split
  · exact State.endCond_works _ _ _
  · exact State.endCond_works _ _ _
  · exact .refl _

theorem State.orderAnswered_works (s : State) (i : Ix) (k : SegNo) (o : StandingOrder) (r : OrderReply) :
    Works s (s.orderAnswered i k o r) := by
  unfold State.orderAnswered
  extract_lets acks
  split
  · rename_i s1 s2 _
    have h2 : Works s s2 := .trans (.modMember _ _ _) (.modSegment _ _ _ fun r => r.join_edit _ _ _)
    split
    · exact h2
    · exact h2.trans (State.raise_works _ _ _ _ _)
  · exact .trans (.modMember _ _ _) (State.endUndelivered_works _ _)

theorem State.releaseAnswered_works (s : State) (i : Ix) (k : SegNo) (t : InFlight) (o : StandingOrder)
    (r : OrderReply) : Works s (s.releaseAnswered i k t o r) := by
  unfold State.releaseAnswered
  extract_lets acks
  split
  · exact State.putBackOrder_works _ _ _ _ _
  · exact State.clearOrder_works _ _

theorem State.handleOrder_works (s : State) (i : Ix) (k : SegNo) (t : InFlight) (oid : Nat) (r : OrderReply) :
    Works s (s.handleOrder i k t oid r) := by
  unfold State.handleOrder
  split
  · split
    · split
      · exact State.orderAnswered_works _ _ _ _ _
      · exact State.releaseAnswered_works _ _ _ _ _ _
    · exact .refl _
  · exact .refl _

theorem State.recheckCapability_works (s : State) (i : Ix) : Works s (s.recheckCapability i) := by
  unfold State.recheckCapability
  extract_lets m against
  cases against with
  | none => exact .refl _
  | some k =>
    simp only
    split
    · exact .refl _
    · exact State.failCheck_works _ _

theorem State.handleQuery_works (s : State) (i : Ix) (q : QueryReply) : Works s (s.handleQuery i q) := by
  unfold State.handleQuery
  extract_lets differs s1 s2 s3 s4
  have h1 : Works s s1 := by
    unfold s1
    split
    · exact .trans (State.dropOrder_works _ _) (.modMember _ _ _)
    · exact .refl _
  have h3 : Works s s3 := (h1.trans (.modMember _ _ _)).trans (State.endCond_works _ _ _)
  have h4 : Works s s4 := by
    unfold s4
    split
    · exact h3.trans (State.placeUnknown_works _ _)
    · exact h3.trans (State.recheckCapability_works _ _)
  split
  · exact h4.trans (State.testsOf_works _ _)
  · exact h4

theorem State.goodReply_works (s : State) (i : Ix) (k : SegNo) (t : InFlight) (r : GoodReply) :
    Works s (s.goodReply i k t r) := by
  unfold State.goodReply
  split
  · exact ((Works.modMember _ _ _).trans (State.commonSteps_works _ _ _)).trans (State.handlePoll_works _ _ _)
  · split
    · exact .trans (State.commonSteps_works _ _ _) (State.handleOrder_works _ _ _ _ _ _)
    · exact State.commonSteps_works _ _ _
  · exact .trans (State.commonSteps_works _ _ _) (State.handleQuery_works _ _ _)

theorem State.noReplyTo_works (s : State) (i : Ix) (k : SegNo) (t : InFlight) : Works s (s.noReplyTo i k t) := by
  unfold State.noReplyTo
  extract_lets m s1 s2
  have h1 : Works s s1 := .modMember _ _ _
  have h2 : Works s s2 := by
    unfold s2
    split
    · exact h1.trans (State.raise_works _ _ _ _ _)
    · exact h1
  split
  · exact h2
  · split
    · exact h2.trans (State.putBackOrder_works _ _ _ _ _)
    · exact h2
  · split
    · exact h2
    · exact h2.trans (.modSegment _ _ _ fun _ => .insert _ _)

theorem State.deliver_works (s : State) (k : SegNo) (t : InFlight) (c : Completion) : Works s (s.deliver k t c) := by
  unfold State.deliver
  split
  · extract_lets s1
    have h1 : Works s s1 := by
      unfold s1
      split
      · exact .discharge _ _
      · exact .refl _
    split
    · exact h1.trans (State.goodReply_works _ _ _ _ _)
    · exact h1.trans (State.noReplyTo_works _ _ _ _)
  · exact .refl _

theorem State.completeTxn_works (s : State) (k : SegNo) (c : Completion) : Works s (s.completeTxn k c) := by
  unfold State.completeTxn
  split
  · exact .refl _
  · extract_lets s1
    have h1 : Works s s1 := .modSegment _ _ _ fun r => .same _
    split
    · exact h1.trans (State.enterSegment_works _ _ _ _)
    · exact h1.trans (State.deliver_works _ _ _ _)

/-! ### Switches -/

theorem State.switchTake_works (g : GroupNo) (s : State) (i : Ix) : Works s (State.switchTake g s i) := by
  unfold State.switchTake
  extract_lets r
  split
  · split
    · exact .trans (State.release_works _ _ _) (.modMember _ _ _)
    · exact State.orderMember_works _ _ _ _
  · exact .refl _

theorem State.withdraw_works (g : GroupNo) (s : State) (i : Ix) : Works s (State.withdraw g s i) := by
  unfold State.withdraw
  split
  · exact (State.dropOrder_works _ _).trans (State.clearOrder_works _ _)
  · exact .refl _

theorem State.switchEnds_works (g : GroupNo) (s : State) (i : Ix) : Works s (State.switchEnds g s i) := by
  unfold State.switchEnds
  split
  · exact .trans (.modMember _ _ _) (State.tryReadmit_works _ _)
  · exact .refl _

theorem State.startSwitch_works (s : State) (g : GroupNo) (h : (s.group g).state ≠ .suspended) :
    Works s (s.startSwitch g) := by
  unfold State.startSwitch
  extract_lets r ts members found s1 s2 s3 s4
  have h2 : Works s s2 := .trans (.group _ _ _ fun hs => by simp_all [Group.Sound, r]) (.offer _ _)
  have h3 : Works s s3 := h2.trans (.foldl _ (State.switchTake_works g) _ _)
  have h4 : Works s s4 := h3.trans (.foldl _ (State.withdraw_works g) _ _)
  exact h4.trans (.foldl _ (State.switchEnds_works g) _ _)

theorem State.evaluateGroup_works (s : State) (g : GroupNo) : Works s (s.evaluateGroup g) := by
  unfold State.evaluateGroup
  extract_lets w r s1
  have h1 : Works s s1 := .group _ _ _ fun hs => by simpa [Group.Sound, r] using hs
  split
  · rename_i h
    exact h1.trans (State.startSwitch_works _ _ (by simpa [s1, r] using h.2))
  · exact h1

/-! ### Commands' own operations -/

theorem State.leaveMember_works (s : State) (i : Ix) : Works s (s.leaveMember i) := by
  unfold State.leaveMember
  split
  case h_5 =>
    extract_lets s1
    have h1 : Works s s1 := State.release_works _ _ _
    split
    · exact h1
    · exact h1.trans (State.enter_works _ _ _)
  case h_6 => exact .refl _
  all_goals exact State.releaseTo_works _ _ _ _

theorem State.leave_works (s : State) (x : Ix × GroupNo) : Works s (s.leave x) := by
  unfold State.leave
  split
  · exact .trans (State.leaveMember_works _ _) (State.groupTests_works _ _)
  · exact .refl _

theorem State.joinGroup_works (g : GroupNo) (s : State) (i : Ix) : Works s (State.joinGroup g s i) := by
  unfold State.joinGroup
  extract_lets r
  split
  · split
    · split
      · exact .refl _
      · exact State.orderMember_works _ _ _ _
    · exact State.orderMember_works _ _ _ _
    · exact State.orderMember_works _ _ _ _
    · exact .refl _
    · exact .refl _
  · exact .refl _

theorem State.freeOrdered_works (s : State) (i : Ix) : Works s (s.freeOrdered i) := by
  unfold State.freeOrdered
  split
  · exact State.enter_works _ _ _
  · exact .refl _

theorem State.reachTs_works (s : State) (g : GroupNo) (h : (s.group g).state = .pending) : Works s (s.reachTs g) := by
  unfold State.reachTs
  extract_lets r ms
  split
  · exact .trans (.group _ _ _ fun hs => by simp_all [Group.Sound, r]) (.foldl _ State.freeOrdered_works _ _)
  · split
    · exact .group _ _ _ fun hs => by simp_all [Group.Sound, r]
    · exact .trans (.group _ _ _ fun hs => by simp_all [Group.Sound, r]) (State.offerSteady_works _ _)

theorem State.reachTm_works (s : State) (i : Ix) : Works s (s.reachTm i) := by
  unfold State.reachTm
  extract_lets s1
  have h1 : Works s s1 := .modMember _ _ _
  split
  · exact h1.trans (State.raise_works _ _ _ _ _)
  · exact h1

theorem State.membersUnknown_works (s : State) (k : SegNo) : Works s (s.membersUnknown k) :=
  .foldl _ (fun s i => s.enter_works i _) _ _

theorem State.lineReads_works (s : State) (k : SegNo) (l : Level) : Works s (s.lineReads k l) :=
  .modSegment _ _ _ fun _ => .same _

theorem State.setPhase_works (s : State) (k : SegNo) (p : FieldPhase) : Works s (s.setPhase k p) :=
  .modSegment _ _ _ fun _ => .same _

theorem State.raiseStuck_works (s : State) (i : Ix) : Works s (s.raiseStuck i) := by
  unfold State.raiseStuck
  split
  · exact .refl _
  · exact State.raise_works _ _ _ _ _

theorem State.endLatched_works (s : State) (i : Ix) (c : FaultClass) : Works s (s.endLatched i c) := by
  unfold State.endLatched
  extract_lets s1 prev s2 new
  have h1 : Works s s1 := .modMember _ _ _
  split
  · exact h1.trans (.modMember _ _ _)
  · have h2 : Works s s2 := h1.trans (.modMember _ _ _)
    split
    · exact h2
    · exact h2.trans (.offer _ _)
  · exact h1

theorem State.clearClass_works (i : Ix) (s : State) (c : FaultClass) : Works s (State.clearClass i s c) := by
  unfold State.clearClass
  split
  · exact State.endLatched_works _ _ _
  · exact .refl _

theorem State.clearMember_works (s : State) (i : Ix) : Works s (s.clearMember i) := by
  unfold State.clearMember
  split
  · extract_lets s1
    have h1 : Works s s1 := .foldl _ (State.clearClass_works i) _ _
    split
    · split
      · exact h1.trans (State.enter_works _ _ _)
      · exact h1.trans (State.readmit_works _ _ _)
    · exact h1
  · exact .refl _

end Sys2Proof.Machine
end

