-- ==== Sys2Proof/Laws/Commands.lean ====
section
/-! SUPPORT. What every command shares: `settle` at its end changes only segments and ports, and a request is judged in the
order of Table 12-1. -/

namespace Sys2Proof.Machine

/-! ### settle -/

/-- A choice changes only its segment. -/
theorem State.choose_eq (s : State) (k : SegNo) : s.choose k = { s with segments := (s.choose k).segments } := by
  unfold State.choose
  split
  · split <;> rfl
  · rfl

theorem State.chooses_eq (l : List SegNo) (s : State) :
    l.foldl State.choose s = { s with segments := (l.foldl State.choose s).segments } := by
  induction l generalizing s with
  | nil => rfl
  | cons k l ih =>
    rw [List.foldl_cons, ih, s.choose_eq k]

/-- `settle` changes only segments and ports. -/
theorem State.settle_eq (s : State) :
    s.settle = { s with segments := s.settle.segments, ports := s.settle.ports } := by
  unfold State.settle
  rw [s.chooses_eq allSegs]
  rfl


@[simp] theorem State.settle_pending (s : State) : s.settle.pending = s.pending := by rw [s.settle_eq]
@[simp] theorem State.settle_crystal (s : State) : s.settle.crystal = s.crystal := by rw [s.settle_eq]
@[simp] theorem State.settle_phase (s : State) : s.settle.phase = s.phase := by rw [s.settle_eq]
@[simp] theorem State.settle_contactClosed (s : State) : s.settle.contactClosed = s.contactClosed := by rw [s.settle_eq]
@[simp] theorem State.settle_tref (s : State) : s.settle.tref = s.tref := by rw [s.settle_eq]
@[simp] theorem State.settle_stored (s : State) : s.settle.stored = s.stored := by rw [s.settle_eq]
@[simp] theorem State.settle_owed (s : State) : s.settle.owed = s.owed := by rw [s.settle_eq]
@[simp] theorem State.settle_groups (s : State) : s.settle.groups = s.groups := by rw [s.settle_eq]
@[simp] theorem State.settle_members (s : State) : s.settle.members = s.members := by rw [s.settle_eq]
@[simp] theorem State.settle_polls (s : State) : s.settle.polls = s.polls := by rw [s.settle_eq]
@[simp] theorem State.settle_cfs (s : State) : s.settle.cfs = s.cfs := by rw [s.settle_eq]
@[simp] theorem State.settle_nextOid (s : State) : s.settle.nextOid = s.nextOid := by rw [s.settle_eq]
@[simp] theorem State.settle_freeUses (s : State) : s.settle.freeUses = s.freeUses := by rw [s.settle_eq]

/-- The ports after `settle`: each free transmitter has begun its next frame. -/
theorem State.settle_ports (s : State) :
    s.settle.ports = ⟨s.ports.centre.pump, s.ports.event.pump, s.ports.cabinet.pump⟩ := by
  unfold State.settle State.pump
  rw [s.chooses_eq allSegs]

/-! ### Requests (Table 12-1) -/

/-- Orders 1 and 2: a request that finds its port SERVING, or start-up not complete, is refused BUSY. -/
theorem State.request_busy {α : Type} (s : State) (f : RequestFrame) (rq : Request) (args : Option α)
    (block : α → State → State × Option Answer) (h : ¬ s.Serves f) :
    s.request f rq args block
      = s.modPort f.port fun p => (p.takeFrame s.crystal).refuseBusy f.tag rq.code := by
  have h' : s.phase ≠ .running ∨ ((s.port f.port).takeFrame s.crystal).service.isSome = true := by
    unfold State.Serves at h
    by_cases hp : s.phase = .running
    · right
      have : (s.port f.port).service ≠ none := fun e => h ⟨hp, e⟩
      simpa [Option.isSome_iff_ne_none] using this
    · exact .inl hp
  unfold State.request
  simp only [State.modPort_phase, State.port_modPort_self]
  rw [if_pos h']
  simp [State.modPort, State.setPort, State.port]

/-- A port that serves judges its request further. -/
theorem State.Serves.notBusy {s : State} {f : RequestFrame} (h : s.Serves f) :
    ¬ (s.phase ≠ .running ∨ ((s.port f.port).takeFrame s.crystal).service.isSome = true) := by
  have hs : (s.port f.port).service = none := h.2
  simp [h.1, hs]

@[simp] theorem State.modPort_modPort (s : State) (p : Port) (a b : PortState → PortState) :
    (s.modPort p a).modPort p b = s.modPort p fun q => b (a q) := by
  simp [State.modPort, State.setPort, State.port]

/-- Order 4: a payload that does not fit is refused BAD_ARG. -/
theorem State.request_badArg {α : Type} (s : State) (f : RequestFrame) (rq : Request)
    (block : α → State → State × Option Answer) (h : s.Serves f) :
    s.request f rq none block
      = s.modPort f.port fun p => (p.takeFrame s.crystal).joinBusy ⟨f.tag, rq.code, .badArg, []⟩ := by
  unfold State.request
  simp only [State.modPort_phase, State.port_modPort_self]
  rw [if_neg h.notBusy]
  simp

/-- Order 5: a role without the right is refused DENIED. -/
theorem State.request_denied {α : Type} (s : State) (f : RequestFrame) (rq : Request) (a : α)
    (block : α → State → State × Option Answer) (h : s.Serves f) (hr : rq.allowed f.port = false) :
    s.request f rq (some a) block
      = s.modPort f.port fun p => (p.takeFrame s.crystal).refuseDenied f.tag rq.code := by
  unfold State.request
  simp only [State.modPort_phase, State.port_modPort_self]
  rw [if_neg h.notBusy]
  simp [hr]

/-- Order 6: the owning block gives the new state and the reply. -/
theorem State.request_served {α : Type} (s : State) (f : RequestFrame) (rq : Request) (a : α)
    (block : α → State → State × Answer) (h : s.Serves f) (hr : rq.allowed f.port = true) :
    s.request f rq (some a) (answering block)
      = (block a (s.handedOver f rq)).1.modPort f.port (·.giveReply (block a (s.handedOver f rq)).2) := by
  unfold State.request State.handedOver
  simp only [State.modPort_phase, State.port_modPort_self]
  rw [if_neg h.notBusy]
  simp [hr, answering]

/-! ### What a command leaves when nothing can start to move -/

/-- No free segment has something to send (R141). -/
def State.Quiet (s : State) : Prop := ∀ k, (s.segment k).isFree = true → s.arbiter k = none

theorem State.NoneIdle.quiet {s : State} (h : s.NoneIdle) : s.Quiet := h.1

theorem State.choose_quiet {s : State} (h : s.Quiet) (k : SegNo) : s.choose k = s := by
  unfold State.choose
  split
  · rename_i hf
    rw [h k hf]
  · rfl

theorem State.chooses_quiet {s : State} (h : s.Quiet) (l : List SegNo) : l.foldl State.choose s = s := by
  induction l with
  | nil => rfl
  | cons k l ih => rw [List.foldl_cons, s.choose_quiet h, ih]

/-- With nothing to start, `settle` only lets the free transmitters begin. -/
theorem State.settle_quiet {s : State} (h : s.Quiet) : s.settle = s.pump := by
  unfold State.settle
  rw [s.chooses_quiet h]

/-- An idle transmitter stays idle, and a busy one goes on. -/
theorem PortState.pump_pump (p : PortState) : p.pump.pump = p.pump := by
  obtain ⟨service, rx, busyList, mask, queue, lost, tx, counters⟩ := p
  cases tx
  · rcases service with _ | ⟨tag, rq, _ | r⟩ <;> cases busyList <;> cases queue <;> rfl
  · rfl

theorem State.NoneIdle.pump_eq {s : State} (h : s.NoneIdle) : s.pump = s := by
  obtain ⟨pending, crystal, phase, contactClosed, tref, stored, owed, groups, members, segments, polls, ports, cfs, nextOid,
    freeUses⟩ := s
  have h1 := h.2 .centre
  have h2 := h.2 .event
  have h3 := h.2 .cabinet
  simp only [State.port, PerPort.get] at h1 h2 h3
  simp [State.pump, h1, h2, h3]

/-- The arbiter names nothing exactly when nothing is queued and no poll is owed (R155). -/
theorem State.arbiter_none (s : State) (k : SegNo) :
    s.arbiter k = none ↔ (s.segment k).queue = [] ∧ s.owedPolls k = [] := by
  constructor
  · intro h
    unfold State.arbiter at h
    simp only [Option.orElse_eq_orElse, Option.orElse_eq_or, Option.or_eq_none_iff, Option.map_eq_none_iff] at h
    obtain ⟨ho, -, hd, hq, hf, hy, he⟩ := h
    constructor
    · rcases hc : (s.segment k).queue with _ | ⟨t, l⟩
      · rfl
      · rw [hc] at hq hy
        have h1 := List.find?_eq_none.mp hq t (by simp)
        have h2 := List.find?_eq_none.mp hy t (by simp)
        cases hb : t.body <;> simp [hb, TxnBody.kind] at h1 h2
    · rcases hc : s.owedPolls k with _ | ⟨x, l⟩
      · rfl
      · have hx : x ∈ s.owedPolls k := by simp [hc]
        have hb : 1 ≤ x.2.backlog := by
          unfold State.owedPolls at hx
          simp only [List.mem_filterMap] at hx
          obtain ⟨i, -, hi⟩ := hx
          split at hi
          · split at hi
            · cases hi; assumption
            · cases hi
          · cases hi
        exfalso
        have key : ∀ u, bestPoll u (x :: l) = none → x.2.urgency ≠ u := by
          intro u hu hxu
          obtain ⟨i, p⟩ := x
          simp only [bestPoll] at hu
          rw [if_pos hxu] at hu
          split at hu
          · split at hu <;> cases hu
          · cases hu
        rw [hc] at ho hd hf he
        have a1 := key _ ho
        have a2 := key _ hd
        have a3 := key _ hf
        have a4 := key _ he
        unfold Poll.urgency at a1 a2 a3 a4
        split at a1
        · exact a1 rfl
        · split at a1
          · omega
          · split at a1
            · simp_all
            · split at a1 <;> simp_all
  · rintro ⟨hq, hp⟩
    simp [State.arbiter, hq, hp, bestPoll]

/-- A request that is served by a block which answers at once, leaves nothing to start and touches ports by notices alone. -/
theorem State.request_answered {α : Type} {s u : State} {f : RequestFrame} {rq : Request} {a : α}
    {block : α → State → State × Answer} {ns : List Notice} {ans : Answer} (h : s.Serves f)
    (hr : rq.allowed f.port = true) (hb : block a (s.handedOver f rq) = (u, ans)) (hq : u.Quiet)
    (hp : ∀ p, u.port p = ((s.handedOver f rq).port p).copies ns) :
    (s.request f rq (some a) (answering block)).settle
      = { u with ports := (s.answered f rq ns ans.1 ans.2).ports } := by
  rw [s.request_served f rq a block h hr, hb]
  have hq' : (u.modPort f.port (·.giveReply ans)).Quiet := hq
  rw [State.settle_quiet hq']
  have h1 := hp .centre
  have h2 := hp .event
  have h3 := hp .cabinet
  clear hq' hq hp hb hr h
  simp only [State.answered, State.servedPort]
  generalize (s.handedOver f rq) = w at *
  generalize f.port = q
  cases q <;>
    simp_all [State.pump, State.modPort, State.setPort, State.port, PerPort.set, PerPort.get]

/-- Whatever a request does beside its block is done to ports. -/
theorem State.request_keeps {α : Type} {P : State → Prop} (s : State) (f : RequestFrame) (rq : Request) (args : Option α)
    (block : α → State → State × Option Answer) (hs : P s) (hp : ∀ s p r, P s → P (s.setPort p r))
    (hb : ∀ a s, P s → P (block a s).1) : P (s.request f rq args block) := by
  unfold State.request
  extract_lets s1
  have h1 : P s1 := hp _ _ _ hs
  split
  · exact hp _ _ _ h1
  · split
    · exact hp _ _ _ h1
    · split
      · extract_lets r
        split
        · exact hp _ _ _ (hb _ _ (hp _ _ _ h1))
        · exact hb _ _ (hp _ _ _ h1)
      · exact hp _ _ _ h1

end Sys2Proof.Machine
end

