-- ==== Sys2Proof/Laws/Frames.lean ====
section
/-! SUPPORT. What the readers of arriving bytes can give: a reply window skips what is no frame start and no WAIT marker, takes a
marker before a reply has begun, and joins the bytes of a reply that has begun; a hunting port skips what is no frame start; and a
written image is good, a partly written one bad. -/

namespace Sys2Proof.Machine

/-! ### Reply windows (R190) -/

theorem markerDrop_none {b : Byte} (h : b.toNat < 240) : markerDrop b = none := by
  rw [markerDrop, dif_neg (by omega)]

theorem markerDrop_of (d : Drop) : markerDrop (BitVec.ofNat 8 (240 + d.val)) = some d := by
  revert d
  decide

/-- Before a reply has begun a byte that is neither a frame start nor a WAIT marker is ignored. -/
theorem hear_noise {noise : List Byte} (h : ∀ b ∈ noise, b ≠ 0x5A#8 ∧ b.toNat < 240) (rest : List Byte) :
    hear [] (noise ++ rest) = hear [] rest := by
  induction noise with
  | nil => rfl
  | cons b l ih =>
    have hb := h b List.mem_cons_self
    rw [List.cons_append, hear, markerDrop_none hb.2]
    exact (if_neg hb.1).trans (ih fun c hc => h c (List.mem_cons_of_mem _ hc))

/-- The WAIT marker of a drop, after bytes that are ignored. -/
theorem hear_marker {noise : List Byte} (h : ∀ b ∈ noise, b ≠ 0x5A#8 ∧ b.toNat < 240) (d : Drop) :
    hear [] (noise ++ [BitVec.ofNat 8 (240 + d.val)]) = (.marker d, [], []) := by
  rw [hear_noise h, hear, markerDrop_of]

/-- A frame start begins a reply, and from then on every byte belongs to it. -/
theorem hear_start (rest : List Byte) : hear [] (0x5A#8 :: rest) = hear [0x5A#8] rest := by
  have h : markerDrop 0x5A#8 = none := by decide
  rw [hear, h]
  exact if_pos rfl

/-- Whether bytes are a reply that its last byte has neither ended nor shown to have a bad length. -/
def openReply (r : List Byte) : Bool := !badReplyLength r && !wholeReply r

/-- A byte that ends nothing joins the reply. -/
theorem hear_joins (x : Byte) (held rest : List Byte) (b : Byte) (h : openReply (x :: held ++ [b]) = true) :
    hear (x :: held) (b :: rest) = hear (x :: held ++ [b]) rest := by
  simp only [openReply, Bool.and_eq_true, Bool.not_eq_true'] at h
  rw [hear]
  simp only [List.cons_append] at h ⊢
  rw [h.1, h.2]
  rfl

/-- Bytes of a reply that end nothing all join it. -/
theorem hear_open (x : Byte) (held more rest : List Byte)
    (h : ∀ n, n < more.length → openReply (x :: held ++ more.take (n + 1)) = true) :
    hear (x :: held) (more ++ rest) = hear (x :: held ++ more) rest := by
  induction more generalizing held with
  | nil => simp
  | cons b l ih =>
    have h0 := h 0 (by simp)
    rw [List.cons_append, hear_joins x held (l ++ rest) b (by simpa using h0), List.cons_append,
      ih (held ++ [b]) fun n hn => by simpa using h (n + 1) (by simpa using hn)]
    simp

/-- Bytes in an open window: a gap that has passed has ended the reply under way, else the window takes them. -/
theorem State.inWindow_open {s : State} {k : SegNo} {w : Window} (h : (s.segment k).window = some w)
    (bytesTaken : Window → State) :
    s.inWindow k bytesTaken = if w.gap s.crystal then (s.completeTxn k .badReply).settle else bytesTaken w := by
  rw [State.inWindow, h]

/-- Bytes that no window awaits change nothing. -/
theorem State.inWindow_closed {s : State} {k : SegNo} (h : (s.segment k).window = none) (bytesTaken : Window → State) :
    s.inWindow k bytesTaken = s := by
  rw [State.inWindow, h]

/-! ### Ports (R170) -/

/-- A hunting port ignores what comes before a frame start. -/
theorem freshFrame_noise {noise : List Byte} (h : ∀ b ∈ noise, b ≠ 0xA5#8) (rest : List Byte) :
    freshFrame (noise ++ rest) = freshFrame rest := by
  induction noise with
  | nil => rfl
  | cons b l ih =>
    have hb := h b List.mem_cons_self
    have hl := ih fun c hc => h c (List.mem_cons_of_mem _ hc)
    unfold freshFrame at hl ⊢
    rw [List.cons_append, List.dropWhile_cons, if_pos (decide_eq_true hb), hl]

theorem freshFrame_start (rest : List Byte) : freshFrame (0xA5#8 :: rest) = 0xA5#8 :: rest := by
  simp [freshFrame]

/-! ### The image (R181, R183) -/

@[simp] theorem Image.tables_written (n : Nat) (t : Stored) : (Image.written n t).tables = t := rfl

@[simp] theorem Image.tables_partly (n : Nat) (t : Stored) : (Image.partly n t).tables = t := rfl

/-- A write that has ended leaves a good image. -/
@[simp] theorem Image.cls_written (n : Nat) (t : Stored) : (Image.written n t).cls = .good := if_pos rfl

theorem partlyCrc_spec (n : Nat) (bytes : List Byte) : partlyCrc n bytes ≠ crc16 bytes ∧ partlyCrc n bytes ≠ 0xFFFF#16 := by
  unfold partlyCrc
  simp only
  split
  · assumption
  · split
    · rename_i h
      rw [h]
      decide
    · rename_i h
      exact ⟨fun hc => h hc.symm, by decide⟩

/-- While a write goes on the image is bad. -/
@[simp] theorem Image.cls_partly (n : Nat) (t : Stored) : (Image.partly n t).cls = .bad := by
  obtain ⟨h1, h2⟩ := partlyCrc_spec n (freeImageBytes n)
  unfold Image.partly Image.cls
  simp [Ne.symm h1, h2]

end Sys2Proof.Machine
end

