-- ==== Sys2Proof/WellFormed.lean ====
section
/-! DEFINITION. When a command can arise: a request's payload fits in a frame, and an event that tells bytes tells bytes of
its own kind. `exec` gives every command a meaning, well-formed or not. -/

namespace Sys2Proof

/-- A payload fits a frame: L is at most 300 and counts the tag, the code and the payload (R188). -/
def RequestFrame.fits (f : RequestFrame) : Bool := f.payload.length ≤ 297

/-- Whether a command can arise. -/
def Instr.wellFormed (i : Instr) : Bool :=
  match i with
  | .mark f | .setTime f | .readTime f | .writePlan f | .deletePlan f | .readPlan f | .writeOffset f | .readOffset f
  | .writeParams f | .readParams f | .setEventGroups f | .addEntry f | .removeEntry f | .readEntry f | .listEntries f
  | .placeHold f | .releaseHold f | .setMembers f | .readGroup f | .setMap f | .requery f | .readIntersection f
  | .enableSegment f | .disableSegment f | .writeSegmentParams f | .readSegment f | .setPolicy f | .clearFaults f
  | .readFaults f | .setNoticeMask f | .readPorts f | .commit f | .readStore f | .reset f => f.fits
  | .unknownRequestCode f code => f.fits && !Machine.knownCode code.toNat
  | .waitMarker _ bytes => (bytes.getLast?.bind Machine.markerDrop).isSome
  | .replyFrameReceived _ bytes => !bytes.isEmpty
  | .replyLengthBad _ bytes => bytes.getLast?.any Machine.replyLengthOut
  | .frameDiscarded _ bytes => !bytes.isEmpty
  | .frameGapTimeout _ _ after => Machine.freshFrame after = [] || Machine.judgeFrame (Machine.freshFrame after) = .partly
  | .powerOn | .resetLineClose | .resetLineOpen | .startUpComplete | .minuteBoundary | .slewAdjustment | .timer2pExpiry
  | .timerHExpiry | .evaluation _ | .tsReached _ | .tmReached _ | .checkPassed _ | .lineBreak _ | .lineHeld _
  | .lineReleased _ | .turnaroundEnd _ | .requestSent _ | .replyGapTimeout _ | .replyWindowClose _ _
  | .lateReply _ | .pollIntervalExpiry _ | .commitWriteEnd | .resetRequestTaken | .transmitEnd _ | .lineReadsMark _
  | .lineReadsSpace _ | .epochCountEnd => true

end Sys2Proof
end

