-- ==== Sys2Proof/Laws/PerInstr.lean ====
section
/-! SUPPORT. What every command is as syntax: the frame it carries, when it carries one, fits the frame format (R188). -/

namespace Sys2Proof.Laws

/-- The good request frame that a command is, for the commands that are one. -/
def frameOf (i : Instr) : Option RequestFrame :=
  match i with
  | .powerOn => none
  | .resetLineClose => none
  | .resetLineOpen => none
  | .startUpComplete => none
  | .minuteBoundary => none
  | .slewAdjustment => none
  | .timer2pExpiry => none
  | .timerHExpiry => none
  | .mark f => some f
  | .setTime f => some f
  | .readTime f => some f
  | .writePlan f => some f
  | .deletePlan f => some f
  | .readPlan f => some f
  | .writeOffset f => some f
  | .readOffset f => some f
  | .writeParams f => some f
  | .readParams f => some f
  | .setEventGroups f => some f
  | .addEntry f => some f
  | .removeEntry f => some f
  | .readEntry f => some f
  | .listEntries f => some f
  | .evaluation _ => none
  | .placeHold f => some f
  | .releaseHold f => some f
  | .setMembers f => some f
  | .readGroup f => some f
  | .tsReached _ => none
  | .tmReached _ => none
  | .setMap f => some f
  | .requery f => some f
  | .readIntersection f => some f
  | .enableSegment f => some f
  | .disableSegment f => some f
  | .checkPassed _ => none
  | .lineBreak _ => none
  | .lineHeld _ => none
  | .lineReleased _ => none
  | .turnaroundEnd _ => none
  | .requestSent _ => none
  | .waitMarker _ _ => none
  | .replyFrameReceived _ _ => none
  | .replyLengthBad _ _ => none
  | .replyGapTimeout _ => none
  | .replyWindowClose _ _ => none
  | .lateReply _ => none
  | .pollIntervalExpiry _ => none
  | .writeSegmentParams f => some f
  | .readSegment f => some f
  | .setPolicy f => some f
  | .clearFaults f => some f
  | .readFaults f => some f
  | .setNoticeMask f => some f
  | .readPorts f => some f
  | .commit f => some f
  | .commitWriteEnd => none
  | .readStore f => some f
  | .reset f => some f
  | .resetRequestTaken => none
  | .unknownRequestCode f _ => some f
  | .frameDiscarded _ _ => none
  | .frameGapTimeout _ _ _ => none
  | .transmitEnd _ => none
  | .lineReadsMark _ => none
  | .lineReadsSpace _ => none
  | .epochCountEnd => none

namespace PayloadFits

/-- The frame of a command that can arise has L of at most 300, where L counts the tag, the code and the payload (R188). -/
def Statement (i : Instr) : Prop :=
  i.wellFormed = true → ∀ f, frameOf i = some f → 3 + f.payload.length ≤ 300

theorem of_fits {f : RequestFrame} (h : f.fits = true) : 3 + f.payload.length ≤ 300 := by
  have : f.payload.length ≤ 297 := by simpa [RequestFrame.fits] using h
  omega

theorem powerOn : Statement (.powerOn) := fun _ _ hg => by cases hg
theorem resetLineClose : Statement (.resetLineClose) := fun _ _ hg => by cases hg
theorem resetLineOpen : Statement (.resetLineOpen) := fun _ _ hg => by cases hg
theorem startUpComplete : Statement (.startUpComplete) := fun _ _ hg => by cases hg
theorem minuteBoundary : Statement (.minuteBoundary) := fun _ _ hg => by cases hg
theorem slewAdjustment : Statement (.slewAdjustment) := fun _ _ hg => by cases hg
theorem timer2pExpiry : Statement (.timer2pExpiry) := fun _ _ hg => by cases hg
theorem timerHExpiry : Statement (.timerHExpiry) := fun _ _ hg => by cases hg
theorem mark (f : RequestFrame) : Statement (.mark f) := fun h _ hg => by cases hg; exact of_fits h
theorem setTime (f : RequestFrame) : Statement (.setTime f) := fun h _ hg => by cases hg; exact of_fits h
theorem readTime (f : RequestFrame) : Statement (.readTime f) := fun h _ hg => by cases hg; exact of_fits h
theorem writePlan (f : RequestFrame) : Statement (.writePlan f) := fun h _ hg => by cases hg; exact of_fits h
theorem deletePlan (f : RequestFrame) : Statement (.deletePlan f) := fun h _ hg => by cases hg; exact of_fits h
theorem readPlan (f : RequestFrame) : Statement (.readPlan f) := fun h _ hg => by cases hg; exact of_fits h
theorem writeOffset (f : RequestFrame) : Statement (.writeOffset f) := fun h _ hg => by cases hg; exact of_fits h
theorem readOffset (f : RequestFrame) : Statement (.readOffset f) := fun h _ hg => by cases hg; exact of_fits h
theorem writeParams (f : RequestFrame) : Statement (.writeParams f) := fun h _ hg => by cases hg; exact of_fits h
theorem readParams (f : RequestFrame) : Statement (.readParams f) := fun h _ hg => by cases hg; exact of_fits h
theorem setEventGroups (f : RequestFrame) : Statement (.setEventGroups f) := fun h _ hg => by cases hg; exact of_fits h
theorem addEntry (f : RequestFrame) : Statement (.addEntry f) := fun h _ hg => by cases hg; exact of_fits h
theorem removeEntry (f : RequestFrame) : Statement (.removeEntry f) := fun h _ hg => by cases hg; exact of_fits h
theorem readEntry (f : RequestFrame) : Statement (.readEntry f) := fun h _ hg => by cases hg; exact of_fits h
theorem listEntries (f : RequestFrame) : Statement (.listEntries f) := fun h _ hg => by cases hg; exact of_fits h
theorem evaluation (k : Nat) : Statement (.evaluation k) := fun _ _ hg => by cases hg
theorem placeHold (f : RequestFrame) : Statement (.placeHold f) := fun h _ hg => by cases hg; exact of_fits h
theorem releaseHold (f : RequestFrame) : Statement (.releaseHold f) := fun h _ hg => by cases hg; exact of_fits h
theorem setMembers (f : RequestFrame) : Statement (.setMembers f) := fun h _ hg => by cases hg; exact of_fits h
theorem readGroup (f : RequestFrame) : Statement (.readGroup f) := fun h _ hg => by cases hg; exact of_fits h
theorem tsReached (g : GroupNo) : Statement (.tsReached g) := fun _ _ hg => by cases hg
theorem tmReached (i : Ix) : Statement (.tmReached i) := fun _ _ hg => by cases hg
theorem setMap (f : RequestFrame) : Statement (.setMap f) := fun h _ hg => by cases hg; exact of_fits h
theorem requery (f : RequestFrame) : Statement (.requery f) := fun h _ hg => by cases hg; exact of_fits h
theorem readIntersection (f : RequestFrame) : Statement (.readIntersection f) := fun h _ hg => by cases hg; exact of_fits h
theorem enableSegment (f : RequestFrame) : Statement (.enableSegment f) := fun h _ hg => by cases hg; exact of_fits h
theorem disableSegment (f : RequestFrame) : Statement (.disableSegment f) := fun h _ hg => by cases hg; exact of_fits h
theorem checkPassed (k : SegNo) : Statement (.checkPassed k) := fun _ _ hg => by cases hg
theorem lineBreak (k : SegNo) : Statement (.lineBreak k) := fun _ _ hg => by cases hg
theorem lineHeld (k : SegNo) : Statement (.lineHeld k) := fun _ _ hg => by cases hg
theorem lineReleased (k : SegNo) : Statement (.lineReleased k) := fun _ _ hg => by cases hg
theorem turnaroundEnd (k : SegNo) : Statement (.turnaroundEnd k) := fun _ _ hg => by cases hg
theorem requestSent (k : SegNo) : Statement (.requestSent k) := fun _ _ hg => by cases hg
theorem waitMarker (k : SegNo) (bytes : List Byte) : Statement (.waitMarker k bytes) := fun _ _ hg => by cases hg
theorem replyFrameReceived (k : SegNo) (bytes : List Byte) : Statement (.replyFrameReceived k bytes) := fun _ _ hg => by cases hg
theorem replyLengthBad (k : SegNo) (bytes : List Byte) : Statement (.replyLengthBad k bytes) := fun _ _ hg => by cases hg
theorem replyGapTimeout (k : SegNo) : Statement (.replyGapTimeout k) := fun _ _ hg => by cases hg
theorem replyWindowClose (k : SegNo) (bytes : List Byte) : Statement (.replyWindowClose k bytes) := fun _ _ hg => by cases hg
theorem lateReply (k : SegNo) : Statement (.lateReply k) := fun _ _ hg => by cases hg
theorem pollIntervalExpiry (i : Ix) : Statement (.pollIntervalExpiry i) := fun _ _ hg => by cases hg
theorem writeSegmentParams (f : RequestFrame) : Statement (.writeSegmentParams f) := fun h _ hg => by cases hg; exact of_fits h
theorem readSegment (f : RequestFrame) : Statement (.readSegment f) := fun h _ hg => by cases hg; exact of_fits h
theorem setPolicy (f : RequestFrame) : Statement (.setPolicy f) := fun h _ hg => by cases hg; exact of_fits h
theorem clearFaults (f : RequestFrame) : Statement (.clearFaults f) := fun h _ hg => by cases hg; exact of_fits h
theorem readFaults (f : RequestFrame) : Statement (.readFaults f) := fun h _ hg => by cases hg; exact of_fits h
theorem setNoticeMask (f : RequestFrame) : Statement (.setNoticeMask f) := fun h _ hg => by cases hg; exact of_fits h
theorem readPorts (f : RequestFrame) : Statement (.readPorts f) := fun h _ hg => by cases hg; exact of_fits h
theorem commit (f : RequestFrame) : Statement (.commit f) := fun h _ hg => by cases hg; exact of_fits h
theorem commitWriteEnd : Statement (.commitWriteEnd) := fun _ _ hg => by cases hg
theorem readStore (f : RequestFrame) : Statement (.readStore f) := fun h _ hg => by cases hg; exact of_fits h
theorem reset (f : RequestFrame) : Statement (.reset f) := fun h _ hg => by cases hg; exact of_fits h
theorem resetRequestTaken : Statement (.resetRequestTaken) := fun _ _ hg => by cases hg
theorem unknownRequestCode (f : RequestFrame) (code : Byte) : Statement (.unknownRequestCode f code) := by
  rintro h g hg
  cases hg
  exact of_fits (by simpa [Instr.wellFormed] using (Bool.and_eq_true _ _ ▸ h).1)
theorem frameDiscarded (p : Port) (bytes : List Byte) : Statement (.frameDiscarded p bytes) := fun _ _ hg => by cases hg
theorem frameGapTimeout (p : Port) (bytes after : List Byte) : Statement (.frameGapTimeout p bytes after) := fun _ _ hg => by cases hg
theorem transmitEnd (p : Port) : Statement (.transmitEnd p) := fun _ _ hg => by cases hg
theorem lineReadsMark (k : SegNo) : Statement (.lineReadsMark k) := fun _ _ hg => by cases hg
theorem lineReadsSpace (k : SegNo) : Statement (.lineReadsSpace k) := fun _ _ hg => by cases hg
theorem epochCountEnd : Statement (.epochCountEnd) := fun _ _ hg => by cases hg

end PayloadFits

end Sys2Proof.Laws
end

