-- ==== Sys2Proof/Tests/Slice0.lean ====
section
/-! SUPPORT. Tests: the ill-formed commands that `wellFormed` refuses, the worked examples and tables of the spec, one step of
each family of commands, and for every statement with hypotheses a state and operands that meet them, clause by clause. -/

namespace Sys2Proof.Tests

open Sys2Proof Sys2Proof.Machine

-- One theorem at a time: each kernel evaluation that waits in a task of its own takes a thread.
set_option Elab.async false

/-! ### Helpers -/

/-- A running part at crystal time 100 s and E = 1000, LOCKED since 50 s before, with nothing configured. -/
def quiet : State :=
  { State.reset with
    phase := .running, crystal := 100000
    tref := { Tref.powerOn with e := 1000, state := .locked, timerStart := some 500 } }

/-- A request frame with tag 7. -/
def fr (p : Port) (bytes : List Byte) : RequestFrame := ⟨p, 7, bytes⟩

/-- The state a command leaves. -/
def run (c : Instr) (s : State) : State :=
  match exec c s with
  | .next t => t
  | _ => s

/-- The status and the items of the reply being sent at a port. -/
def replyAt (p : Port) (s : State) : Option (Status × List Item) :=
  match (s.port p).tx with
  | some (.served r) => some (r.status, r.items)
  | some (.busy r) => some (r.status, r.items)
  | _ => none

/-- No segment and no transmitter idles with something to send, as a check. -/
def noneIdle (s : State) : Bool :=
  (allSegs.all fun k => !(s.segment k).isFree || (s.arbiter k).isNone)
    && decide (s.ports.centre.pump = s.ports.centre ∧ s.ports.event.pump = s.ports.event
      ∧ s.ports.cabinet.pump = s.ports.cabinet)

theorem noneIdle_of {s : State} (h : noneIdle s = true) : s.NoneIdle := by
  simp only [noneIdle, Bool.and_eq_true, List.all_eq_true, decide_eq_true_eq] at h
  refine ⟨fun k hk => ?_, fun p => ?_⟩
  · have := h.1 k (List.mem_finRange k)
    simpa [hk] using this
  · cases p
    · exact h.2.1
    · exact h.2.2.1
    · exact h.2.2.2

/-- The state serves the request and nothing idles in it: the hypotheses that most statements share. -/
def Ready (s : State) (f : RequestFrame) : Prop := s.Serves f ∧ s.NoneIdle

theorem ready {s : State} {f : RequestFrame}
    (h : (decide (s.phase = .running ∧ (s.port f.port).service = none) && noneIdle s) = true) : Ready s f := by
  rw [Bool.and_eq_true, decide_eq_true_eq] at h
  exact ⟨h.1, noneIdle_of h.2⟩

theorem mapsUnique_of {t : Stored}
    (h : ∀ i j : Ix, (vget t.maps i).isSome = true → vget t.maps i = vget t.maps j → i = j) : t.MapsUnique :=
  fun i j pl hi hj => h i j (by simp [hi]) (hi.trans hj.symm)

/-! ### Well-formed commands -/

theorem test_wf_payload_297 : (Instr.writePlan (fr .centre (List.replicate 297 0))).wellFormed = true := by decide +kernel
theorem test_wf_payload_298 : (Instr.writePlan (fr .centre (List.replicate 298 0))).wellFormed = false := by decide +kernel
theorem test_wf_known_code : (Instr.unknownRequestCode (fr .centre []) 34).wellFormed = false := by decide +kernel
theorem test_wf_unknown_code : (Instr.unknownRequestCode (fr .centre []) 35).wellFormed = true := by decide +kernel
theorem test_wf_reply_without_bytes : (Instr.replyFrameReceived 0 []).wellFormed = false := by decide +kernel
theorem test_wf_reply_length_in_range : (Instr.replyLengthBad 0 [0x14]).wellFormed = false := by decide +kernel
theorem test_wf_reply_length_out : (Instr.replyLengthBad 0 [0x15]).wellFormed = true := by decide +kernel
theorem test_wf_no_marker : (Instr.waitMarker 0 [0xF0, 0xEF]).wellFormed = false := by decide +kernel
theorem test_wf_marker_after_noise : (Instr.waitMarker 0 [0x00, 0xF0]).wellFormed = true := by decide +kernel
theorem test_wf_discarded_without_bytes : (Instr.frameDiscarded .centre []).wellFormed = false := by decide +kernel
theorem test_wf_whole_frame_after_gap :
    (Instr.frameGapTimeout .centre [] (requestFrameBytes 7 3 [])).wellFormed = false := by decide +kernel
theorem test_wf_frame_begun_after_gap : (Instr.frameGapTimeout .centre [] [0, 0xA5, 0]).wellFormed = true := by
  decide +kernel

/-- No row of the table has bits, so no word spells a command. -/
theorem test_no_word_decodes : decodeTableWord 32 0x12345678 = none := by decide

/-! ### Bytes (Section 14) -/

/-- The check value R181 names. -/
theorem test_crc_check_value : crc16 [0x31, 0x32, 0x33, 0x34, 0x35, 0x36, 0x37, 0x38, 0x39] = 0x29B1 := by decide +kernel

/-- The WAIT marker of drop 16 is FF hexadecimal (R189). -/
theorem test_wait_marker_byte : waitMarkerByte 15 = 0xFF := by decide

/-- A DELETE_PLAN of plan 2 with tag 7, byte by byte (Table 14-1): L = 4. -/
theorem test_request_frame_judged :
    judgeFrame ([0xA5, 0, 4, 0, 7, 5, 2] ++ u16 (crc16 [0, 4, 0, 7, 5, 2]).toNat) = .good 7 5 [2] := by decide +kernel

/-- A TIME_STATE notice of UNSET to LOCKED by a mark, E = 258 (Table 14-2, R17, R188). -/
theorem test_notice_frame :
    (Notice.mk 258 (.timeState .locked .unset .mark)).frame true
      = [0xA6, 0, 14, 1, 1, 0, 0, 0, 1, 2, 0, 0, 0, 0, 1, 0, 0]
          ++ u16 (crc16 [0, 14, 1, 1, 0, 0, 0, 1, 2, 0, 0, 0, 0, 1, 0, 0]).toNat := by decide +kernel

/-! ### Network time (Tables 2-4 and 2-5) -/

/-- Table 2-5 at t = 12.0 s: E has counted 120 ds; the first mark sets. -/
def at12 : State := { State.reset with phase := .running, crystal := 12000, tref := { Tref.powerOn with e := 120 } }

theorem test_mark_set :
    let t := run (.mark (fr .centre (timePayload 2419416000))) at12
    t.tref.e = 2419416000 ∧ t.tref.state = .locked ∧ t.tref.accepted = 1
      ∧ replyAt .centre t = some (.ok, [.n1 0, .delta 2419415880])
      ∧ t.ports.centre.queue = [⟨2419416000, .timeState .locked .unset .mark⟩] := by decide +kernel

/-- Table 2-5 at t = 312.0 s: a mark of +12 slews. -/
def at312 : State :=
  { at12 with
    crystal := 312000
    tref := { Tref.powerOn with
      e := 2419419000, state := .locked, timerStart := some 120, lastMark := some ⟨2419416000, 120⟩, accepted := 1 } }

theorem test_mark_slewed :
    let t := run (.mark (fr .centre (timePayload 2419419012))) at312
    t.tref.e = 2419419000 ∧ t.tref.slew = 12 ∧ t.tref.accepted = 2
      ∧ replyAt .centre t = some (.ok, [.n1 1, .delta 12]) := by decide +kernel

/-- Table 2-5 at t = 1812.0 s: a mark of -300 steps. -/
theorem test_mark_stepped :
    let s : State :=
      { at12 with
        crystal := 1812000
        tref := { Tref.powerOn with
          e := 2419434012, state := .holdover, timerStart := some 3120, lastMark := some ⟨2419419000, 3120⟩, accepted := 2 } }
    let t := run (.mark (fr .centre (timePayload 2419433712))) s
    t.tref.e = 2419433712 ∧ t.tref.state = .locked ∧ t.owed = [⟨0xFFFF⟩]
      ∧ replyAt .centre t = some (.ok, [.n1 2, .delta (-300)]) := by decide +kernel

/-- R11: a positive slew makes E advance by 2 in the ds that completes 100 ds. -/
theorem test_slew_adjustment :
    let t := run .slewAdjustment
      { quiet with crystal := 109999, tref := { quiet.tref with slew := 12, slewStart := 1000 } }
    t.tref.e = 1002 ∧ t.tref.slew = 11 ∧ t.tref.slewStart = 1100 := by decide +kernel

theorem test_set_time :
    let t := run (.setTime (fr .cabinet (timePayload 2419416000))) quiet
    t.tref.e = 2419416000 ∧ replyAt .cabinet t = some (.ok, [.time 1000, .time 2419416000]) := by decide +kernel

theorem test_set_time_denied_at_event :
    let t := run (.setTime (fr .event (timePayload 5))) quiet
    t.tref.e = 1000 ∧ t.ports.event.counters.denied = 1 ∧ replyAt .event t = some (.denied, []) := by decide +kernel

/-- Day number 2800 is a Monday, and E = 2,419,416,000 is its 06:00 (2.8). -/
theorem test_read_time :
    replyAt .event (run (.readTime (fr .event [])) { at312 with tref := { at312.tref with e := 2419416000 } })
      = some (.ok, [.time 2419416000, .n2 2800, .n2 360, .n1 0, .n1 1, .signed 0, .present, .time 2419416000,
          .n4 300, .n2 1, .n2 0, .n2 0]) := by decide +kernel

/-! ### Plans, offsets and groups (Table 3-4) -/

/-- The stored tables of Table 3-4: plan 12 with the offsets of 5, 7 and 9; groups 2 and 4. -/
def tables34 : Stored :=
  let row := vset (vset (Vector.replicate 64 0) 5 250) 7 880
  { Stored.empty with
    plans := vset Stored.empty.plans 11 (some ⟨900, 6, .shortway⟩)
    offsets := vset Stored.empty.offsets 11 row
    groupOf := Vector.ofFn fun i =>
      if i.val = 3 ∨ i.val = 5 ∨ i.val = 7 then some 2 else if i.val = 9 ∨ i.val = 10 then some 4 else none }

def s34 : State := { quiet with stored := tables34 }

theorem test_write_plan_reduces_offsets :
    let t := run (.writePlan (fr .centre [12, 3, 37, 6, 0, 0])) s34
    t.stored.plan 12 = some ⟨800, 6, .shortway⟩ ∧ t.stored.offset 12 5 = 250 ∧ t.stored.offset 12 7 = 80
      ∧ replyAt .centre t = some (.ok, [.n2 800, .n1 6, .n1 0, .n1 1]) := by decide +kernel

theorem test_write_plan_in_use :
    let s := s34.setGroup 4 { Group.initial with state := .pending, target := 12, ts := some 2000 }
    replyAt .centre (run (.writePlan (fr .centre [12, 3, 32, 6, 0, 0])) s) = some (.inUse, [])
      ∧ replyAt .centre (run (.writePlan (fr .centre [12, 3, 132, 6, 1, 0])) s)
          = some (.ok, [.n2 900, .n1 6, .n1 1, .n1 0]) := by decide +kernel

/-- Table 3-4, step 2, at the cycle of 800. -/
theorem test_write_offset_mod_cycle :
    let s := run (.transmitEnd .centre) (run (.writePlan (fr .centre [12, 3, 37, 6, 0, 0])) s34)
    replyAt .centre (run (.writeOffset (fr .centre [7, 12, 6, 214])) s) = some (.ok, [.n2 150]) := by decide +kernel

/-- Table 3-4, step 3. -/
theorem test_set_members :
    let t := run (.setMembers (fr .centre [4, 3, 11, 7, 10])) s34
    t.membersOf 4 = [7, 10, 11] ∧ t.membersOf 2 = [3, 5] ∧ t.groupOf 9 = none ∧ t.owed = [⟨16⟩, ⟨4⟩] := by
  decide +kernel

/-- An echoed value of a segment parameter goes in 1 byte (R187). -/
theorem test_write_segment_params :
    let t := run (.writeSegmentParams (fr .centre [1, 1, 3, 0, 99])) quiet
    (vget t.stored.segParams 1).ext = 15 ∧ replyAt .centre t = some (.ok, [.n1 1, .n1 3, .n1 15]) := by decide +kernel

theorem test_delete_plan :
    let t := run (.deletePlan (fr .centre [12])) s34
    t.stored.plan 12 = none ∧ t.stored.offset 12 5 = 0 ∧ replyAt .centre t = some (.ok, []) := by decide +kernel

theorem test_write_params_clamps :
    let t := run (.writeParams (fr .centre [2, 0, 0, 10, 7, 0, 4])) quiet
    t.stored.params.markPeriod = 60 ∧ t.stored.params.deglitch = 4
      ∧ replyAt .centre t = some (.ok, [.n1 2, .n1 0, .n2 60, .n1 7, .n2 4]) := by decide +kernel

/-! ### The timetable (Tables 4-2 and 4-7) -/

theorem test_start_instants :
    startInstant 2805 990 = 2424114000 ∧ EpochMinute.instant ⟨2805, 1140⟩ = 2424204000
      ∧ latestOccurrence 0b0100000 480 2424114000 = some 2423808000 := by decide +kernel

/-- Saturday 12:03 of Table 4-7: the event system may add to groups 6 and 7, and plan 20 is defined. -/
def saturday : State :=
  { quiet with
    tref := { quiet.tref with e := 2423953800 }
    stored := { Stored.empty with
      eventGroups := 0xC0, plans := vset Stored.empty.plans 19 (some ⟨900, 6, .shortway⟩) } }

/-- Saturday is day 2805; the entry runs from 16:30 to 19:00; priority 6 is stored as 3. -/
theorem test_add_entry_event :
    let t := run (.addEntry
      (fr .event [200, 1, 0, 0xC0, 20, 6, 10, 245, 3, 222, 1, 10, 245, 4, 116, 0, 9, 0])) saturday
    t.stored.dated = [⟨200, .event, .dated 2805 (some ⟨2805, 1140⟩), 0xC0, 20, 3, 990, 9⟩] ∧ t.owed = [⟨0xC0⟩]
      ∧ replyAt .event t = some (.ok, [.n1 200, .n1 3, .n1 1, .n1 0, .n2 1]) := by decide +kernel

theorem test_add_recurring_denied_at_event :
    replyAt .event (run (.addEntry
      (fr .event [202, 0, 0, 0xC0, 20, 3, 0, 0x20, 3, 222, 0, 0, 0, 0, 0, 0, 9, 0])) saturday) = some (.denied, []) := by
  decide +kernel

/-- Saturday 16:30: the entry becomes active for both groups. -/
theorem test_evaluation_wants_plan_20 :
    let s := { saturday with
      tref := { saturday.tref with e := 2424114000 }
      stored := { saturday.stored with
        dated := [⟨200, .event, .dated 2805 (some ⟨2805, 1140⟩), 0xC0, 20, 3, 990, 9⟩] }
      owed := [⟨everyGroup⟩] }
    let t := run (.evaluation 0) s
    (t.group 6).wanted = 20 ∧ (t.group 7).state = .pending ∧ (t.group 7).ts = some 2424114300
      ∧ (t.group 5).wanted = 0 := by decide +kernel

/-- Saturday 19:00: the entry has ended and leaves the list. -/
theorem test_evaluation_tidies :
    let s := { saturday with
      tref := { saturday.tref with e := 2424204000 }
      stored := { saturday.stored with
        dated := [⟨200, .event, .dated 2805 (some ⟨2805, 1140⟩), 0xC0, 20, 3, 990, 9⟩] }
      owed := [⟨0x0040⟩] }
    let t := run (.evaluation 0) s
    t.stored.dated = [] ∧ t.ports.centre.tx = some (.notice ⟨2424204000, .entryExpired 200 9 .ended .event 20⟩ false) := by
  decide +kernel

/-- A hold of the cabinet bars a placement by the centre (Table 5-2, order 8). -/
theorem test_place_hold_held_by_other :
    let s := quiet.setGroup 6 { Group.initial with hold := some ⟨.cabinet, 0, none, 3, 900⟩ }
    replyAt .centre (run (.placeHold (fr .centre [6, 0, 0, 0, 0, 0, 0, 0, 5])) s)
      = some (.heldByOther, [.n1 2, .n1 0, .absent 4]) := by decide +kernel

theorem test_place_hold_fills_the_slot :
    let t := run (.placeHold (fr .centre [6, 0, 0, 0, 0, 0, 0, 0, 5])) quiet
    (t.group 6).hold = some ⟨.centre, 0, none, 5, 1000⟩ ∧ t.owed = [⟨0x0040⟩] := by decide +kernel

/-! ### The offset transition (Tables 7-2, 7-3 and 7-6) -/

theorem test_rounding :
    roundAdvance 431 5 900 = 430 ∧ roundAdvance 431 2 900 = 432 ∧ roundAdvance 435 10 900 = 440
      ∧ roundAdvance 898 5 900 = 0 ∧ roundAdvance 3 10 900 = 0 := by decide

theorem test_signed_error :
    signedError 450 900 = 450 ∧ signedError 451 900 = -449 ∧ signedError 894 900 = -6 := by decide

theorem test_limits :
    lengthenLimit .shortway 900 1200 20 5 = 180 ∧ shortenLimit .shortway 900 700 15 5 = 135
      ∧ lengthenLimit .step 900 1200 20 5 = 300 ∧ shortenLimit .step 900 700 15 5 = 200
      ∧ lengthenLimit .delay 1130 3000 20 5 = 225 ∧ shortenLimit .delay 1130 600 15 10 = 160 := by decide

/-- The worked case: DELAY by 180 in 3 cycles (7.9). -/
theorem test_worked_direction :
    chooseDirection .shortway 430 900 180 135 = some (.delay, 3) ∧ correctionOf .delay 470 180 135 = 180 := by decide

/-! ### Capability records (Table 8-2) -/

theorem test_stored_step :
    storedStep 0 = 1 ∧ storedStep 4 = 2 ∧ storedStep 9 = 5 ∧ storedStep 255 = 10 ∧ storedLimit 301 = 3000 := by decide

/-- VALID stands before INVALID in Table 8-2 (R133, R187). -/
theorem test_validity_code : validityCode true = 0 ∧ validityCode false = 1 := by decide

/-! ### Segments and field transactions -/

/-- Intersection 3 at drop 5 of segment 1, and its poll state. -/
def mapped (st : SegState) : State :=
  { quiet with
    stored := { Stored.empty with
      maps := vset Stored.empty.maps 3 (some ⟨1, 4⟩), enables := vset Stored.empty.enables 1 (st ≠ .off) }
    members := vset quiet.members 3 { Member.initial with state := .unknown }
    segments := vset quiet.segments 1 { Segment.initial with state := st }
    polls := vset quiet.polls 3 (some ⟨.running 100000, 0, false⟩) }

theorem test_enable_segment :
    let t := run (.enableSegment (fr .centre [1])) (mapped .off)
    (t.segment 1).state = .checking ∧ vget t.stored.enables 1 = true ∧ replyAt .centre t = some (.ok, [.n1 1]) := by
  decide +kernel

theorem test_check_passed_queries :
    let s := mapped .checking
    let t := run (.checkPassed 1) s
    (t.segment 1).queue = [⟨.query, 3, 1000, 0⟩] ∧ (t.segment 1).candidate = some ⟨.query, 3, 0, 100002⟩ := by
  decide +kernel

/-- The interval counter expires: one poll is owed, and the idle segment begins its turnaround. -/
theorem test_poll_interval_expiry :
    let t := run (.pollIntervalExpiry 3) (mapped .active)
    t.poll 3 = some ⟨.running 102000, 1, false⟩ ∧ (t.segment 1).candidate = some ⟨.poll, 3, 0, 100002⟩ := by
  decide +kernel

/-- A POLL in its reply window at drop 5. -/
def polling (waited : Bool) : State :=
  (mapped .active).modSegment 1 fun r =>
    { r with inFlight := some ⟨.poll 0 none, 3, 4, 1000, 1000, 0, .window 100000 waited [] 100000⟩ }

/-- The 8 bytes of a POLL reply: COORDINATED, plan 12, count 46, position 872, correction 0, MANUAL shown. -/
def pollBytes : List Byte := fieldFrame 4 .poll [0, 12, 46, 3, 104, 0, 0, 1]

theorem test_poll_reply :
    let t := run (.replyFrameReceived 1 pollBytes) (polling false)
    (t.member 3).mode = some .coordinated ∧ (t.member 3).running = some 12 ∧ (t.member 3).count = some 46
      ∧ (t.member 3).position = some 872 ∧ (t.member 3).alerts.manual = ⟨false, 1⟩
      ∧ (t.segment 1).counters.good = 1 := by decide +kernel

/-- R137 and R187: DISABLE_SEGMENT names nothing that its reply carries. -/
theorem test_disable_segment_reply :
    replyAt .centre (run (.disableSegment (fr .centre [1])) (mapped .active)) = some (.ok, []) := by decide +kernel

theorem test_reply_of_another_drop_is_bad :
    let t := run (.replyFrameReceived 1 (fieldFrame 5 .poll [0, 12, 46, 3, 104, 0, 0, 0])) (polling false)
    (t.segment 1).counters.badReply = 1 ∧ (t.member 3).noReplies = 1 := by decide +kernel

theorem test_wait_timeout :
    (run (.replyWindowClose 1 []) (polling true)).segment 1
      = { (Segment.initial) with
          state := .active, counters := { Segment.initial.counters with waitTimeout := 1 } } := by decide +kernel

/-- EXT = 3: the close moves to 64 ms after the marker. -/
theorem test_wait_marker_moves_the_close :
    ((run (.waitMarker 1 [0xF4]) (polling false)).segment 1).inFlight.map (·.phase)
      = some (.window 100064 true [] 100000) := by decide +kernel

/-- R190: inside a reply frame F0 to FF is a byte of the frame, so the window holds it and its close stands. -/
theorem test_marker_inside_a_reply_is_part_of_it :
    ((run (.waitMarker 1 [0xF4]) (run (.waitMarker 1 [0x5A, 5, 9, 0xF0]) (polling false))).segment 1).inFlight.map (·.phase)
      = some (.window 100000 false [0x5A, 5, 9, 0xF0, 0xF4] 100000) := by decide +kernel

/-- The bytes of a window may arrive in parts: those held and those told make the reply. -/
theorem test_reply_in_two_parts :
    let s := run (.replyFrameReceived 1 (pollBytes.take 5)) (polling false)
    let t := run (.replyFrameReceived 1 (pollBytes.drop 5)) s
    (s.segment 1).inFlight.map (·.phase) = some (.window 100000 false (pollBytes.take 5) 100000)
      ∧ (t.member 3).running = some 12 ∧ (t.segment 1).counters.good = 1 := by decide +kernel

/-- Three no-replies in a row raise NO_REPLY. -/
theorem test_third_no_reply_raises :
    let s := (polling false).modMember 3 fun m => { m with noReplies := 2 }
    let t := run (.replyWindowClose 1 []) s
    ((t.member 3).faults.get .noReply).standing = true ∧ (t.member 3).noReplies = 3 := by decide +kernel

/-! ### Faults, ports and the store -/

theorem test_set_policy :
    let t := run (.setPolicy (fr .cabinet [0, 0, 1])) quiet
    t.stored.policies.noReply = ⟨.latched, .group⟩ ∧ replyAt .cabinet t = some (.ok, [.n1 0, .n1 1]) := by
  decide +kernel

theorem test_busy_while_serving :
    let s := run (.readTime (fr .centre [])) quiet
    let t := run (.readTime ⟨.centre, 8, []⟩) s
    t.ports.centre.busyList = [⟨8, 3, .busy, []⟩] ∧ t.ports.centre.counters.busy = 1 := by decide +kernel

/-- R170: a gap of more than 5 ms inside a frame drops it, and the bytes after it begin a new one. -/
theorem test_gap_drops_the_frame :
    let s := run (.frameDiscarded .centre [0, 0xA5, 0]) quiet
    let t := run (.frameGapTimeout .centre [] [7, 0xA5]) { s with crystal := 100006 }
    s.ports.centre.rx = .receiving [0xA5, 0] 100000 ∧ t.ports.centre.rx = .receiving [0xA5] 100006
      ∧ t.ports.centre.counters.frameError = 1
      ∧ (run (.frameGapTimeout .centre [] []) { s with crystal := 100005 }).ports.centre.rx = .receiving [0xA5, 0] 100000 := by
  decide +kernel

theorem test_unknown_code :
    replyAt .centre (run (.unknownRequestCode (fr .centre []) 35) quiet) = some (.badArg, []) := by decide +kernel

theorem test_set_notice_mask :
    let t := run (.setNoticeMask (fr .event [0xFF, 1])) quiet
    t.ports.event.mask.timeState = true ∧ t.ports.event.mask.switchStarted = false ∧ t.ports.event.mask.storeDone = true
      ∧ replyAt .event t = some (.ok, [.n2 257, .n1 0]) := by decide +kernel

theorem test_commit_and_its_end :
    let s := run (.commit (fr .centre [])) s34
    let t := run .commitWriteEnd s
    s.cfs.commit = some ⟨tables34, .centre, 100000⟩ ∧ t.cfs.image.tables = tables34 ∧ t.cfs.countCell = some 1
      ∧ replyAt .centre t = some (.ok, [.n4 1]) := by decide +kernel

/-- The three classes of R181: a CRC that agrees, all ones, and neither. -/
theorem test_image_classes :
    (Image.held [0x31, 0x32, 0x33, 0x34, 0x35, 0x36, 0x37, 0x38, 0x39] 0x29B1 tables34).cls = .good
      ∧ (Image.held [0xFF, 0xFF] 0xFFFF tables34).cls = .blank ∧ (Image.held [0xFF, 0xFE] 0xFFFF tables34).cls = .bad := by
  decide +kernel

theorem test_start_up_from_a_good_image :
    let s := run .powerOn { quiet with cfs := { quiet.cfs with image := .held [1, 2] (crc16 [1, 2]) tables34, countCell := some 5 } }
    let t := run .startUpComplete s
    t.stored = tables34 ∧ t.cfs.status = .good ∧ t.phase = .running ∧ t.cfs.countCell = some 5 := by decide +kernel

theorem test_reset_request_taken :
    let t := run (.transmitEnd .cabinet) (run (.reset (fr .cabinet [])) s34)
    t.phase = .loading 100000 ∧ t.cfs.cause = .resetRequest ∧ t.tref.e = 1000 ∧ t.tref.state = .holdover := by
  decide +kernel

/-! ### Witnesses: states and operands that meet the hypotheses of the statements, clause by clause -/

/-- StepRunsTheFrontCommand. -/
theorem witness_step : { quiet with pending := [.powerOn, .timerHExpiry] }.pending = .powerOn :: [.timerHExpiry] := rfl

/-- IdlePartRunsItsClock: something due; nothing due, in a ds and at its end, at the end of 100 ds of a slew, and one ds before the last
value of E. -/
theorem witness_idle :
    { quiet with tref := { quiet.tref with minuteOwed := true } }.dueEvents ≠ []
      ∧ (quiet.pending = [] ∧ quiet.dueEvents = [] ∧ quiet.slewDue = false ∧ quiet.countEndDue = false)
      ∧ (let s := { quiet with crystal := 99999 }
         s.dueEvents = [] ∧ s.slewDue = false ∧ s.countEndDue = false ∧ (s.crystal + 1) % 100 = 0)
      ∧ (let s := { quiet with crystal := 99999, tref := { quiet.tref with slew := -1, slewStart := 900 } }
         s.dueEvents = [] ∧ s.tref.slew ≠ 0 ∧ s.tref.slewStart + 100 ≤ (s.crystal + 1) / 100)
      ∧ (let s := { quiet with crystal := 99999, tref := { quiet.tref with e := 56623103998 } }
         s.dueEvents = [] ∧ s.tref.slew = 0 ∧ s.tref.e = 56623103998) := by decide +kernel

/-- CabinetResetIsTakenFromLineAndRequest. -/
theorem witness_cabinet_reset :
    quiet.contactClosed = false
      ∧ (let s := { quiet with contactClosed := true, phase := .held .resetLine }
         s.contactClosed = true ∧ s.phase = .held .resetLine)
      ∧ (let s := run (.reset (fr .cabinet [])) quiet
         s.ports.cabinet.service = some ⟨7, .reset, none⟩
           ∧ s.ports.cabinet.tx = some (.served ⟨7, 34, .ok, [.n1 2, .time 1000]⟩)) := by decide +kernel

/-- A good image with intersection 3 mapped to an enabled segment and a dated entry. -/
def goodTables : Stored :=
  { tables34 with
    maps := vset tables34.maps 3 (some ⟨1, 4⟩), enables := vset tables34.enables 1 true
    dated := [⟨1, .centre, .dated 3 none, 1, 0, 0, 0, 0⟩] }

/-- StartUpLoadsTheImage: a good image, a bad and a blank one, and an erased store. -/
theorem witness_start_up :
    (let s := { State.reset with cfs := { State.reset.cfs with image := .held [1, 2] (crc16 [1, 2]) goodTables } }
     s.phase = .loading 0 ∧ s.cfs.image.cls = .good ∧ s.cfs.image.tables = goodTables ∧ s.tref.state = .unset
       ∧ vget goodTables.maps 3 = some ⟨1, 4⟩ ∧ vget goodTables.enables 1 = true)
      ∧ State.reset.phase = .loading 0 ∧ State.reset.cfs.image = .erased
      ∧ (let s := { State.reset with cfs := { State.reset.cfs with image := .held [1] 7 goodTables } }
         s.phase = .loading 0 ∧ s.cfs.image.cls = .bad)
      ∧ (crc16 [1] ≠ 7 ∧ crc16 [0xFF, 0xFF] ≠ 0xFFFF ∧ ∀ b ∈ ([0xFF, 0xFF] : List Byte), b = 0xFF) := by
  decide +kernel

theorem witness_start_up_maps : goodTables.MapsUnique := mapsUnique_of (by decide +kernel)

/-- ReadTimeReportsTref and ReadParamsReportsEveryParameter, with and without a last accepted mark. -/
theorem witness_reads_without_payload :
    Ready quiet (fr .event []) ∧ Ready at312 (fr .centre []) ∧ (fr .event []).payload = []
      ∧ quiet.tref.lastMark = none ∧ at312.tref.lastMark = some ⟨2419416000, 120⟩ :=
  ⟨ready (by decide +kernel), ready (by decide +kernel), by decide +kernel⟩

/-- MarkIsJudgedByItsTable, the case before every other: Ec just beyond the epoch. -/
theorem witness_mark_beyond_epoch :
    Ready quiet (fr .centre (timePayload 56623104000))
      ∧ parseTime (fr .centre (timePayload 56623104000)).payload = some 56623104000 :=
  ⟨ready (by decide +kernel), by decide +kernel⟩

/-- SET: the largest Ec in UNSET. -/
theorem witness_mark_set :
    Ready at12 (fr .centre (timePayload 56623103999))
      ∧ parseTime (fr .centre (timePayload 56623103999)).payload = some 56623103999 ∧ at12.tref.state = .unset :=
  ⟨ready (by decide +kernel), by decide +kernel⟩

/-- A LOCKED part that accepted a mark when crystal time stood at `at_` ds; it now stands at 5000 ds, and P/2 is 1500 ds. -/
def marked (at_ : Nat) : State :=
  { quiet with
    crystal := 500000
    tref := { quiet.tref with e := 100000, state := .locked, timerStart := some at_, lastMark := some ⟨90000, at_⟩ } }

/-- EARLY: one ds before P/2. -/
theorem witness_mark_early :
    Ready (marked 3501) (fr .centre (timePayload 100020))
      ∧ parseTime (fr .centre (timePayload 100020)).payload = some 100020 ∧ (marked 3501).tref.state ≠ .unset
      ∧ ∃ m, (marked 3501).tref.lastMark = some m ∧ (marked 3501).crystal / 100 - m.crystalDs = 1499
        ∧ 1499 < 5 * (marked 3501).stored.params.markPeriod :=
  ⟨ready (by decide +kernel), by decide +kernel, by decide +kernel, ⟨90000, 3501⟩, by decide +kernel⟩

/-- At P/2 the mark is not early: 20 ds slews, 21 ds and 36,000 ds step, 36,001 ds is out of range. -/
theorem witness_mark_by_size (ec : Nat) (h : ec ∈ [100020, 99980, 100021, 136000, 64000, 136001, 63999]) :
    Ready (marked 3500) (fr .centre (timePayload ec)) ∧ parseTime (fr .centre (timePayload ec)).payload = some ec
      ∧ (marked 3500).tref.state ≠ .unset ∧ ec < 56623104000
      ∧ ∀ d, ¬ ∃ m, (marked 3500).tref.lastMark = some m ∧ (marked 3500).crystal / 100 - m.crystalDs = d
        ∧ d < 5 * (marked 3500).stored.params.markPeriod := by
  refine ⟨⟨⟨rfl, rfl⟩, noneIdle_of (by decide +kernel)⟩, ?_, by decide +kernel, ?_, ?_⟩
  · revert ec; decide +kernel
  · revert ec; decide +kernel
  · rintro d ⟨m, hm, hd, hp⟩
    have hm' : m = ⟨90000, 3500⟩ := (Option.some.inj hm).symm
    subst hm'
    have h1 : (marked 3500).crystal = 500000 := rfl
    have h2 : (marked 3500).stored.params.markPeriod = 300 := rfl
    rw [h2] at hp
    rw [h1] at hd
    simp only at hd
    omega

theorem witness_mark_sizes :
    ((100020 : Int) - 100000).natAbs ≤ 20 ∧ ((99980 : Int) - 100000).natAbs ≤ 20 ∧ 20 < ((100021 : Int) - 100000).natAbs
      ∧ ((136000 : Int) - 100000).natAbs ≤ 36000 ∧ ((64000 : Int) - 100000).natAbs ≤ 36000
      ∧ 36000 < ((136001 : Int) - 100000).natAbs ∧ 36000 < ((63999 : Int) - 100000).natAbs := by decide

/-- SetTimeSetsAndLocks: just beyond the epoch, and its last ds. -/
theorem witness_set_time :
    Ready quiet (fr .cabinet (timePayload 56623104000)) ∧ Ready quiet (fr .centre (timePayload 56623103999))
      ∧ parseTime (timePayload 56623104000) = some 56623104000 ∧ parseTime (timePayload 56623103999) = some 56623103999 :=
  ⟨ready (by decide +kernel), ready (by decide +kernel), by decide +kernel, by decide +kernel⟩

/-- TimersSlewAndCountEndRunTheClock: both timers at their limits to the ds, timers that do not run, the two directions of the
slew, and the end of the count. -/
theorem witness_timers :
    (let s := { quiet with crystal := 650000 }
     noneIdle s = true ∧ s.tref.state = .locked ∧ s.tref.timerStart = some 500
       ∧ 500 + 20 * s.stored.params.markPeriod = s.crystal / 100)
      ∧ (let s := { quiet with crystal := 28850000, tref := { quiet.tref with state := .holdover } }
         noneIdle s = true ∧ s.tref.timerStart = some 500 ∧ 500 + 36000 * s.stored.params.holdover = s.crystal / 100)
      ∧ noneIdle at12 = true ∧ at12.tref.state = .unset := by decide +kernel

theorem witness_slew_and_count_end :
    (let s := { quiet with crystal := 109999, tref := { quiet.tref with slew := 1, slewStart := 1000 } }
     noneIdle s = true ∧ s.tref.e ≤ 56623103999 ∧ (s.crystal + 1) % 100 = 0
       ∧ s.tref.slewStart + 100 = (s.crystal + 1) / 100 ∧ 0 < s.tref.slew)
      ∧ (let s := { quiet with crystal := 109999, tref := { quiet.tref with slew := -1, slewStart := 1000 } }
         s.tref.slewStart + 100 = (s.crystal + 1) / 100 ∧ s.tref.slew < 0)
      ∧ (let s := { quiet with crystal := 109999, tref := { quiet.tref with e := 56623103998 } }
         noneIdle s = true ∧ (s.crystal + 1) % 100 = 0 ∧ s.tref.slew = 0) := by decide +kernel

/-- MinuteBoundaryEndsHolds: a hold whose end is at E, one without an end, and one whose end lies ahead. -/
theorem witness_minute_boundary :
    let hold (m : Option EpochMinute) : Group := { Group.initial with hold := some ⟨.event, 0, m, 1, 0⟩ }
    let s := ({ quiet with tref := { quiet.tref with e := 864600, minuteOwed := true } }.setGroup 0
      (hold (some ⟨1, 1⟩))).setGroup 1 (hold none) |>.setGroup 2 (hold (some ⟨1, 2⟩))
    noneIdle s = true ∧ s.phase = .running ∧ s.tref.minuteOwed = true ∧ 1 * 864000 + 1 * 600 = s.tref.e := by
  decide +kernel

/-! Plans, offsets and parameters -/

/-- `s34` with plan 12 the target of a PENDING group. -/
def used34 : State := s34.setGroup 4 { Group.initial with state := .pending, target := 12, ts := some 2000 }

theorem used34_inUse : used34.InUse 12 := ⟨4, by decide +kernel⟩

theorem s34_not_inUse : ¬ s34.InUse 12 := by unfold State.InUse; decide +kernel

theorem witness_ready34 (p : Port) (bytes : List Byte) : Ready s34 (fr p bytes) ∧ Ready used34 (fr p bytes) := by
  refine ⟨⟨⟨rfl, ?_⟩, noneIdle_of (by decide +kernel)⟩, ⟨rfl, ?_⟩, noneIdle_of (by decide +kernel)⟩ <;> cases p <;> rfl

/-- WritePlanReplacesTheRecord, the fields out of range: plan 0, 49; cycle 299 and 3010; pattern 0, 33; method 3. -/
theorem witness_write_plan_bad :
    parseWritePlan [0, 3, 132, 6, 0, 0] = some ⟨0, 900, 6, 0⟩ ∧ parseWritePlan [49, 3, 132, 6, 0, 0] = some ⟨49, 900, 6, 0⟩
      ∧ parseWritePlan [12, 1, 43, 6, 0, 0] = some ⟨12, 299, 6, 0⟩ ∧ ¬ 300 ≤ 299 / 10 * 10
      ∧ parseWritePlan [12, 11, 194, 6, 0, 0] = some ⟨12, 3010, 6, 0⟩ ∧ ¬ 3010 / 10 * 10 ≤ 3000
      ∧ parseWritePlan [12, 3, 132, 0, 0, 0] = some ⟨12, 900, 0, 0⟩ ∧ parseWritePlan [12, 3, 132, 33, 0, 0] = some ⟨12, 900, 33, 0⟩
      ∧ parseWritePlan [12, 3, 132, 6, 3, 0] = some ⟨12, 900, 6, 3⟩ ∧ s34.cfs.commit = none := by decide +kernel

/-- In use and not the same; in use and the same; not in use with the cycle kept (a plan undefined before, 300 to 3000, pattern 1
and 32); not in use with another cycle. -/
theorem witness_write_plan :
    parseWritePlan [12, 3, 32, 6, 0, 0] = some ⟨12, 800, 6, 0⟩ ∧ parseWritePlan [12, 3, 132, 6, 1, 0] = some ⟨12, 900, 6, 1⟩
      ∧ parseWritePlan [1, 1, 44, 1, 2, 0] = some ⟨1, 300, 1, 2⟩ ∧ parseWritePlan [48, 11, 193, 32, 0, 0] = some ⟨48, 3009, 32, 0⟩
      ∧ 3009 / 10 * 10 = 3000 ∧ vget used34.stored.plans 11 = some ⟨900, 6, .shortway⟩ ∧ vget s34.stored.plans 0 = none
      ∧ vget s34.stored.plans 47 = none ∧ used34.cfs.commit = none ∧ Method.ofCode 2 = some .step := by decide +kernel

/-- DeletePlanUndefinesUnreferencedPlan: 0 and 49; undefined; each kind of reference; none. -/
theorem witness_delete_plan :
    parseByte [0] = some 0 ∧ parseByte [49] = some 49 ∧ parseByte [1] = some 1 ∧ vget s34.stored.plans 0 = none
      ∧ parseByte [12] = some 12 ∧ vget s34.stored.plans 11 ≠ none
      ∧ (∀ x ∈ s34.stored.recurring ++ s34.stored.dated, x.plan ≠ 12)
      ∧ (∀ g : GroupNo, ∀ h ∈ (s34.group g).hold, h.plan ≠ 12) ∧ (∀ g : GroupNo, (s34.group g).wanted ≠ 12)
      ∧ (let s := { s34 with stored := { s34.stored with recurring := [⟨1, .centre, .recurring 1, 1, 12, 0, 0, 0⟩] } }
         noneIdle s = true ∧ ∃ x ∈ s.stored.recurring ++ s.stored.dated, x.plan = 12)
      ∧ (let s := s34.setGroup 3 { Group.initial with hold := some ⟨.centre, 12, none, 0, 0⟩ }
         noneIdle s = true ∧ (s.group 3).hold = some ⟨.centre, 12, none, 0, 0⟩)
      ∧ (let s := s34.setGroup 3 { Group.initial with wanted := 12 }
         noneIdle s = true ∧ (s.group 3).wanted = 12) := by decide +kernel

/-- WriteOffsetStoresModCycle: out of range; undefined plan; the current plan of a member in step, changed and unchanged. -/
theorem witness_write_offset :
    parseWriteOffset [64, 12, 0, 0] = some ⟨64, 12, 0⟩ ∧ parseWriteOffset [0, 0, 0, 0] = some ⟨0, 0, 0⟩
      ∧ parseWriteOffset [63, 49, 0, 0] = some ⟨63, 49, 0⟩ ∧ parseWriteOffset [63, 1, 0, 0] = some ⟨63, 1, 0⟩
      ∧ parseWriteOffset [5, 12, 3, 132] = some ⟨5, 12, 900⟩ ∧ parseWriteOffset [5, 12, 0, 250] = some ⟨5, 12, 250⟩
      ∧ vget s34.stored.plans 0 = none
      ∧ (let s := (s34.setGroup 2 { Group.initial with state := .steady, current := 12, target := 12 }).setMember 5
           { Member.initial with state := .inStep }
         noneIdle s = true ∧ s.groupOf 5 = some 2 ∧ (s.group 2).current = 12 ∧ (s.member 5).state = .inStep
           ∧ 900 % 900 ≠ vget (vget s.stored.offsets 11) 5 ∧ 250 % 900 = vget (vget s.stored.offsets 11) 5) := by
  decide +kernel

/-- PlansAndOffsetsAreRead: out of range; undefined; defined and in use or not; offsets at the ends of the counts. -/
theorem witness_read_plan_and_offsets :
    parseByte [0] = some 0 ∧ parseByte [49] = some 49 ∧ parseByte [48] = some 48 ∧ parseByte [12] = some 12
      ∧ vget s34.stored.plans 47 = none ∧ vget s34.stored.plans 11 = some ⟨900, 6, .shortway⟩
      ∧ parseReadOffset [12, 0, 0] = some ⟨12, 0, 0⟩ ∧ parseReadOffset [12, 0, 17] = some ⟨12, 0, 17⟩
      ∧ parseReadOffset [12, 49, 16] = some ⟨12, 49, 16⟩ ∧ parseReadOffset [12, 48, 16] = some ⟨12, 48, 16⟩
      ∧ parseReadOffset [48, 63, 1] = some ⟨48, 63, 1⟩ ∧ parseReadOffset [0, 0, 1] = some ⟨0, 0, 1⟩ := by decide +kernel

/-- WriteParamsClampsAndStores: lists that do not fit (none, an unknown identifier, one twice, nine), and one that does. -/
theorem witness_write_params_lists :
    parseParamList [0] = some [] ∧ parseParamList [1, 8, 0, 0] = some [⟨8, 0⟩]
      ∧ parseParamList [2, 2, 0, 9, 2, 0, 9] = some [⟨2, 9⟩, ⟨2, 9⟩] ∧ ¬ ([2, 2] : List Nat).Nodup
      ∧ (parseParamList (9 :: (List.replicate 9 [1, 0, 1]).flatten)).map List.length = some 9
      ∧ parseParamList [2, 7, 0, 0, 2, 0, 121] = some [⟨7, 0⟩, ⟨2, 121⟩] ∧ ([7, 2] : List Nat).Nodup
      ∧ Ready quiet (fr .centre [2, 7, 0, 0, 2, 0, 121]) :=
  by
    refine ⟨?_, ?_, ?_, ?_, ?_, ?_, ?_, ready (by decide +kernel)⟩ <;> decide +kernel

/-- P := 60 s makes the 2P limit 1200 ds; H := 1 h makes the H limit 36,000 ds. -/
theorem witness_write_params_timers :
    (parseParamList [1, 0, 0, 60] = some [⟨0, 60⟩] ∧ parseParamList [1, 1, 0, 1] = some [⟨1, 1⟩]
        ∧ parseParamList [2, 0, 0, 60, 1, 0, 1] = some [⟨0, 60⟩, ⟨1, 1⟩])
      ∧ (let s := { quiet with crystal := 170000 }
         noneIdle s = true ∧ s.tref.state = .locked ∧ s.tref.timerStart = some 500 ∧ 500 + 20 * 60 = s.crystal / 100
           ∧ ¬ 500 + 36000 * s.stored.params.holdover ≤ s.crystal / 100 ∧ s.stored.params.markPeriod ≠ 60)
      ∧ (let s := { quiet with crystal := 3650000, tref := { quiet.tref with state := .holdover } }
         noneIdle s = true ∧ s.tref.timerStart = some 500 ∧ 500 + 36000 * 1 = s.crystal / 100
           ∧ s.stored.params.holdover ≠ 1)
      ∧ (let s := { quiet with crystal := 3650000 }
         noneIdle s = true ∧ s.tref.state = .locked ∧ 500 + 20 * 60 ≤ s.crystal / 100
           ∧ 500 + 36000 * 1 = s.crystal / 100) := by decide +kernel

/-- WriteSegmentParamsClampsAndStores: segment 4, an empty list, identifier 4; segment 3 with all four. -/
theorem witness_write_segment_params :
    Ready quiet (fr .cabinet [3, 4, 0, 0, 0, 1, 0, 9, 2, 0, 9, 3, 0, 16])
      ∧ parseSegParams [4, 1, 0, 0, 1] = some ⟨4, [⟨0, 1⟩]⟩ ∧ parseSegParams [0, 0] = some ⟨0, []⟩
      ∧ parseSegParams [0, 1, 4, 0, 1] = some ⟨0, [⟨4, 1⟩]⟩
      ∧ parseSegParams [3, 4, 0, 0, 0, 1, 0, 9, 2, 0, 9, 3, 0, 16] = some ⟨3, [⟨0, 0⟩, ⟨1, 9⟩, ⟨2, 9⟩, ⟨3, 16⟩]⟩
      ∧ ([0, 1, 2, 3] : List Nat).Nodup ∧ quiet.cfs.commit = none :=
  ⟨ready (by decide +kernel), by decide +kernel, by decide +kernel, by decide +kernel, by decide +kernel, by decide, rfl⟩

/-- EventGroupsAndPoliciesAreReplaced: each code at its last value and one beyond. -/
theorem witness_event_groups_and_policies :
    Ready quiet (fr .centre [0xFF, 0xFF]) ∧ parseMask [0xFF, 0xFF] = some 0xFFFF
      ∧ parseSetPolicy [6, 0, 0] = some ⟨6, 0, 0⟩ ∧ parseSetPolicy [0, 4, 0] = some ⟨0, 4, 0⟩
      ∧ parseSetPolicy [0, 0, 2] = some ⟨0, 0, 2⟩ ∧ parseSetPolicy [5, 3, 1] = some ⟨5, 3, 1⟩
      ∧ FaultClass.alert.code = 5 ∧ Policy.off.code = 3 ∧ Scope.group.code = 1 :=
  ⟨ready (by decide +kernel), by decide⟩

/-- StoredWritesWaitForTheCommit. -/
theorem witness_store_busy :
    let s := { quiet with cfs := { quiet.cfs with image := .held [1] 7 Stored.empty, commit := some ⟨Stored.empty, .centre, 99000⟩ } }
    Ready s (fr .event [5]) ∧ s.cfs.commit.isSome = true
      ∧ Instr.request (.removeEntry (fr .event [5])) = some (fr .event [5], .removeEntry)
      ∧ Instr.payloadFits (.removeEntry (fr .event [5])) = true ∧ Request.allowed .removeEntry .event = true :=
  ⟨ready (by decide +kernel), by decide⟩

/-! The timetable -/

/-- The arguments of a DATED entry from Saturday 16:30 to 19:00 on groups 6 and 7. -/
def datedArgs : AddEntryArgs := ⟨200, 1, 0xC0, 20, 6, 2805, 990, some ⟨2805, 1140⟩, 9⟩

/-- The arguments of a RECURRING entry of every day at midnight. -/
def recurringArgs : AddEntryArgs := ⟨3, 0, 1, 0, 0, 127, 0, none, 9⟩

/-- The payload of either, and of any other arguments in this section, is read as those arguments. -/
theorem witness_add_entry_payloads :
    parseAddEntry datedArgs.payload = some datedArgs ∧ parseAddEntry recurringArgs.payload = some recurringArgs
      ∧ Ready saturday (fr .event datedArgs.payload) ∧ saturday.cfs.commit = none :=
  ⟨by decide +kernel, by decide +kernel, ready (by decide +kernel), rfl⟩

/-- AddEntryStoresTheEntry, no kind: each range at one beyond its last value, a kind of 2, an empty day mask, a recurring entry
with an end, an end at the start. -/
theorem witness_add_entry_no_kind :
    (∀ a ∈ [{ datedArgs with groups := 0 }, { datedArgs with plan := 49 }, { datedArgs with priority := 8 },
        { datedArgs with startMinute := 1440 }],
      parseAddEntry a.payload = some a ∧ ¬ (a.groups ≠ 0#16 ∧ a.plan ≤ 48 ∧ a.priority ≤ 7 ∧ a.startMinute ≤ 1439))
      ∧ (let a := { datedArgs with kind := 2 }; parseAddEntry a.payload = some a ∧ a.kind ≠ 0 ∧ a.kind ≠ 1)
      ∧ (let a := { recurringArgs with dayField := 128 }
         parseAddEntry a.payload = some a ∧ BitVec.ofNat 7 a.dayField = 0#7)
      ∧ (let a := { recurringArgs with ends := some ⟨1, 1⟩ }; parseAddEntry a.payload = some a ∧ a.ends ≠ none)
      ∧ (let a := { datedArgs with ends := some ⟨2805, 990⟩ }
         parseAddEntry a.payload = some a ∧ ¬ 2805 * 864000 + 990 * 600 < 2805 * 864000 + 990 * 600)
      ∧ (let a := { datedArgs with ends := some ⟨2805, 1440⟩ }; parseAddEntry a.payload = some a ∧ ¬ 1440 ≤ 1439) := by
  decide +kernel

/-- A kind, without the right: the event system with a recurring entry and with group 5; with the right and the ranges at their
ends: the centre with plan 0, priority 7 and minute 1439. -/
theorem witness_add_entry_rights :
    (recurringArgs.groups ≠ 0#16 ∧ recurringArgs.plan ≤ 48 ∧ BitVec.ofNat 7 recurringArgs.dayField ≠ 0#7)
      ∧ (0xE0#16 &&& ~~~saturday.stored.eventGroups ≠ 0#16) ∧ (datedArgs.groups &&& ~~~saturday.stored.eventGroups = 0#16)
      ∧ (let a : AddEntryArgs := ⟨255, 1, 0x8000, 0, 7, 65535, 1439, none, 0⟩
         parseAddEntry a.payload = some a ∧ Ready saturday (fr .centre a.payload)) :=
  ⟨by decide, by decide, by decide, by decide +kernel, ready (by decide +kernel)⟩

/-- An undefined plan; an id in use; a full timetable; an end at E; and every check passed at the last free slot. -/
theorem witness_add_entry_checks :
    saturday.stored.plan 48 = none ∧ saturday.stored.plan 20 = some ⟨900, 6, .shortway⟩
      ∧ (let x : Entry := ⟨200, .centre, .recurring 1, 1, 0, 0, 0, 0⟩
         let s := { saturday with stored := { saturday.stored with recurring := [x] } }
         noneIdle s = true ∧ x ∈ s.stored.recurring ++ s.stored.dated ∧ x.id = datedArgs.id)
      ∧ (let s (n : Nat) := { saturday with stored := { saturday.stored with
           dated := (List.range n).map fun k => ⟨k, .centre, .dated 3000 none, 1, 0, 0, k, 0⟩ } }
         let a := { datedArgs with id := 255 }
         noneIdle (s 255) = true ∧ (s 256).stored.dated.length = 256 ∧ (∀ x ∈ (s 255).stored.dated, x.id ≠ a.id)
           ∧ parseAddEntry a.payload = some a)
      ∧ (let s := { saturday with tref := { saturday.tref with e := 2424204000 } }
         noneIdle s = true ∧ s.tref.state ≠ .unset ∧ 2805 * 864000 + 1140 * 600 = s.tref.e) := by decide +kernel

/-- A timetable of two entries of different owners. -/
def listed : State :=
  { quiet with stored := { Stored.empty with
      recurring := [⟨4, .cabinet, .recurring 127, 0x0003, 0, 2, 60, 0⟩]
      dated := [⟨9, .event, .dated 0 none, 0x0001, 0, 3, 1, 0⟩] } }

/-- RemoveEntryTakesTheEntryOut: no entry of the id, the cabinet's entry from the centre, an entry of the same rank. -/
theorem witness_remove_entry :
    Ready listed (fr .centre [5]) ∧ Ready listed (fr .event [9])
      ∧ ((listed.stored.recurring ++ listed.stored.dated).map (·.id)).Nodup
      ∧ (∀ x ∈ listed.stored.recurring ++ listed.stored.dated, x.id ≠ 5)
      ∧ rank .centre < rank .cabinet ∧ rank .event ≤ rank .event ∧ parseByte [9] = some 9 :=
  ⟨ready (by decide +kernel), ready (by decide +kernel), by decide +kernel⟩

/-- LatestOccurrenceIsTheGreatest: E before the first occurrence, at an occurrence, and at the end of the count. -/
theorem witness_latest_occurrence :
    latestOccurrence 2 1439 1727399 = none ∧ latestOccurrence 2 1439 1727400 = some 1727400
      ∧ (latestOccurrence 1 0 56623103999).isSome = true ∧ latestOccurrence 0 0 56623103999 = none := by decide +kernel

/-- GoverningEntryIsChosenByTheTable: two active dated entries that tie up to the id; two recurring ones with the same
occurrence; none. -/
theorem witness_governing :
    (let d (k : Nat) : Entry := ⟨k, .centre, .dated 1 (some ⟨2, 0⟩), 1, 0, 3, 0, 0⟩
     let t := { Stored.empty with dated := [d 1, d 2] }
     t.dated = [d 1, d 2] ∧ 1 * 864000 ≤ 864000 ∧ 864000 < 2 * 864000 ∧ t.governing 0 864000 = some (d 1))
      ∧ (let r (k : Nat) : Entry := ⟨k, .centre, .recurring 127, 1, 0, 3, 0, 0⟩
         let t := { Stored.empty with recurring := [r 2, r 1] }
         t.dated = [] ∧ latestOccurrence 127 0 864000 = some 864000 ∧ t.governing 0 864000 = some (r 1))
      ∧ Stored.empty.governing 0 5 = none := by decide +kernel

/-- A controller that runs every pattern up to 8 at 70 s to 120 s, by every method, and acknowledges orders. -/
def able : Capability := ⟨700, 1200, 5, 8, ⟨true, true, true⟩, true, true⟩

/-- Group 2, held for plan 12 by the centre, has a FREE member that can run it and one that cannot, a LATCHED one, and one EXCLUDED
by an ALERT with an ORDER of plan 20, and three EXCLUDED by CAPABILITY alone: one with an ORDER of plan 20, one with the ORDER of plan 12
and one that can run nothing; group 3, which is PENDING and has such a member too, is held for plan 0; group 1 is SUSPENDED; of the
dated entries one has ended, one is superseded in its only group, and one in group 7 alone. -/
def evaluating : State :=
  let order (plan oid : Nat) : StandingOrder := ⟨.order, ⟨plan, 6, 900, 0, 5000, .shortway⟩, .owed, oid, false⟩
  let plan900 : Option Plan := some ⟨900, 6, .shortway⟩
  let barred (c : Option Capability) (o : Option StandingOrder) : Member :=
    { Member.initial with
      state := .excluded, capability := c, order := o
      faults := { PerClass.all FaultEntry.clear with capability := ⟨true, false, 1, some .recovering⟩ } }
  { quiet with
    tref := { quiet.tref with e := 2424204000 }
    nextOid := 2
    owed := [⟨0x000F⟩]
    stored := { Stored.empty with
      plans := vset (vset Stored.empty.plans 11 plan900) 19 plan900
      groupOf := Vector.ofFn fun i =>
        if 3 ≤ i.val ∧ i.val ≤ 8 ∨ i.val = 10 then some 2 else if i.val = 9 ∨ i.val = 11 then some 3 else none
      recurring := [⟨1, .centre, .recurring 127, 0x0080, 12, 0, 60, 0⟩]
      dated := [⟨2, .event, .dated 2804 none, 0x0080, 20, 0, 0, 5⟩, ⟨3, .centre, .dated 2804 none, 0x0180, 20, 0, 0, 6⟩,
        ⟨4, .event, .dated 2805 (some ⟨2805, 1140⟩), 0x0040, 20, 0, 0, 7⟩] }
    groups := Vector.ofFn fun g =>
      if g.val = 1 then { Group.initial with state := .suspended, suspension := some ⟨.alert, 3, 0⟩ }
      else if g.val = 2 then { Group.initial with hold := some ⟨.centre, 12, none, 0, 0⟩ }
      else if g.val = 3 then
        { Group.initial with state := .pending, target := 20, ts := some 5000, hold := some ⟨.cabinet, 0, none, 0, 0⟩ }
      else Group.initial
    members := Vector.ofFn fun i =>
      let m := { Member.initial with capability := some able }
      if i.val = 3 then { m with state := .free }
      else if i.val = 4 then { Member.initial with state := .free }
      else if i.val = 5 then { m with state := .latched }
      else if i.val = 6 then
        { m with
          state := .excluded, order := some (order 20 0)
          faults := { PerClass.all FaultEntry.clear with alert := ⟨true, false, 1, some .recovering⟩ } }
      else if i.val = 7 then barred (some able) (some (order 20 0))
      else if i.val = 8 then barred (some able) (some (order 12 0))
      else if i.val = 10 then barred none none
      else if i.val = 11 then barred (some able) none
      else if i.val = 9 then { m with state := .ordered, order := some (order 20 1) }
      else Member.initial }

/-- EvaluationRecordsWantedPlans: a scope of groups 0 to 3, to which tidying adds 6 and 7; group 0 keeps its target, 2 and 3 and 7
start a switch, 1 is SUSPENDED, 8 stands outside; the members of every kind; and TREF UNSET. -/
theorem witness_evaluation :
    noneIdle evaluating = true ∧ evaluating.owed[0]? = some ⟨0x000F⟩
      ∧ (let t := run (.evaluation 0) evaluating
         t.stored.dated.map (fun x => (x.id, x.groups)) = [(3, 0x0100#16)]
           ∧ ((t.group 2).wanted = 12 ∧ (evaluating.group 2).target = 0 ∧ (t.group 2).state = .pending)
           ∧ ((t.group 3).wanted = 0 ∧ (evaluating.group 3).target = 20 ∧ (t.group 3).state = .pending)
           ∧ ((t.group 7).wanted = 12 ∧ (t.group 7).state = .pending)
           ∧ ((t.group 0).wanted = 0 ∧ (t.group 0).state = .free) ∧ (evaluating.group 1).state = .suspended
           ∧ ((t.member 3).state = .ordered ∧ (t.member 6).order = none)
           ∧ ((t.member 7).state = .ordered ∧ (t.member 8).order = (evaluating.member 8).order)
           ∧ ((t.member 10).state = .latched ∧ (t.member 11).state = .free))
      ∧ (let s := { evaluating with stored := { evaluating.stored with
           policies := evaluating.stored.policies.set .capability ⟨.recovering, .member⟩ } }
         let t := run (.evaluation 0) s
         noneIdle s = true ∧ (t.member 4).state = .excluded ∧ (t.member 10).state = .excluded
           ∧ ((t.member 4).faults.get .capability).count = 1)
      ∧ evaluating.stored.activation (evaluating.member 3) 12 = true
      ∧ evaluating.stored.activation (evaluating.member 4) 12 = false
      ∧ (evaluating.member 6).state = .excluded ∧ ((evaluating.member 6).faults.get .alert).standing = true
      ∧ (evaluating.member 5).state = .latched ∧ (evaluating.member 9).state = .ordered
      ∧ (let s := { at12 with owed := [⟨0x0007⟩] }; noneIdle s = true ∧ s.owed[0]? = some ⟨0x0007⟩ ∧ s.tref.state = .unset) := by
  decide +kernel

/-- R75: of the members of group 2 one FREE and two that return are ordered, two wait; the two whose check fails are neither. -/
theorem test_switch_started_counts :
    let s := evaluating.modPort .centre fun q => { q with
      mask := { q.mask with switchStarted := true }, tx := some (.busy ⟨1, 3, .busy, []⟩) }
    ((run (.evaluation 0) s).port .centre).queue.filterMap (fun n =>
      match n.body with
      | .switchStarted 2 _ _ _ _ _ ordered waiting => some (ordered, waiting)
      | _ => none) = [(3, 2)] := by decide +kernel

/-! Holds -/

/-- HoldsArePlacedAndReleased, a placement: out of range at each field, and the last values in range. -/
theorem witness_place_hold_ranges :
    parsePlaceHold [16, 0, 0, 0, 0, 0, 0, 0, 0] = some ⟨16, 0, none, 0⟩
      ∧ parsePlaceHold [0, 49, 0, 0, 0, 0, 0, 0, 0] = some ⟨0, 49, none, 0⟩
      ∧ parsePlaceHold [0, 0, 1, 0, 0, 5, 160, 0, 0] = some ⟨0, 0, some ⟨0, 1440⟩, 0⟩
      ∧ parsePlaceHold [15, 48, 1, 255, 255, 5, 159, 0, 9] = some ⟨15, 48, some ⟨65535, 1439⟩, 9⟩ := by decide +kernel

/-- Each later check: the event system on a group it may not hold; an undefined plan; an end while UNSET; an end at E; and a
placement on an empty slot with an end that lies ahead. -/
theorem witness_place_hold_checks :
    Ready saturday (fr .event [5, 0, 0, 0, 0, 0, 0, 0, 0]) ∧ saturday.stored.eventGroups.getLsbD 5 = false
      ∧ saturday.stored.eventGroups.getLsbD 6 = true ∧ saturday.stored.plan 48 = none
      ∧ Ready at12 (fr .centre [5, 0, 1, 0, 0, 0, 1, 0, 0]) ∧ at12.tref.state = .unset
      ∧ (let s := { quiet with tref := { quiet.tref with e := 600 } }
         noneIdle s = true ∧ parsePlaceHold [5, 0, 1, 0, 0, 0, 1, 0, 0] = some ⟨5, 0, some ⟨0, 1⟩, 0⟩
           ∧ 0 * 864000 + 1 * 600 = s.tref.e ∧ s.tref.e < 0 * 864000 + 2 * 600 ∧ (s.group 5).hold = none) :=
  ⟨ready (by decide +kernel), by decide, by decide, by decide +kernel, ready (by decide +kernel), rfl, by decide +kernel⟩

/-- A group held by the centre. -/
def held : State := quiet.setGroup 5 { Group.initial with hold := some ⟨.centre, 0, none, 7, 0⟩ }

/-- A standing hold of higher and of equal rank; the releases: group 16, an empty slot, another tag, a lower rank, an equal one
with the tag and without one. -/
theorem witness_standing_hold :
    Ready held (fr .event [5, 0, 0, 0, 0, 0, 0, 0, 0]) ∧ Ready held (fr .centre [5, 0, 0, 0, 0, 0, 0, 0, 0])
      ∧ (held.group 5).hold = some ⟨.centre, 0, none, 7, 0⟩ ∧ rank .event < rank .centre
      ∧ held.stored.eventGroups.getLsbD 5 = false
      ∧ (let s := { held with stored := { held.stored with eventGroups := 0x0020 } }
         noneIdle s = true ∧ s.stored.eventGroups.getLsbD 5 = true)
      ∧ parseReleaseHold [16, 0, 0, 0] = some ⟨16, none⟩ ∧ parseReleaseHold [15, 0, 0, 0] = some ⟨15, none⟩
      ∧ (held.group 15).hold = none ∧ parseReleaseHold [5, 1, 0, 8] = some ⟨5, some 8⟩
      ∧ parseReleaseHold [5, 1, 0, 7] = some ⟨5, some 7⟩ ∧ parseReleaseHold [5, 0, 0, 0] = some ⟨5, none⟩ :=
  ⟨ready (by decide +kernel), ready (by decide +kernel), by decide +kernel⟩

/-! Groups and members -/

/-- `s34` with group 2 as given, group 4 STEADY with an IN_STEP member 9, and FREE members 20 and 21, of which 21 can run no plan. -/
def joining (r : Group) : State :=
  let s := (s34.setGroup 2 r).setGroup 4 { Group.initial with state := .steady, current := 12, target := 12 }
  ((s.setMember 9 { Member.initial with state := .inStep, capability := some able }).setMember 20
    { Member.initial with state := .free, capability := some able }).setMember 21 { Member.initial with state := .free }

/-- SetMembersWritesTheTable: group 16, intersection 64, one listed twice; an equal list and a changed one, whose group
coordinates with a FREE member that leaves; one that leaves EXCLUDED with and without something that holds it, one that stays, and the
same of a FREE group; the joins of a FREE member and of one taken from a coordinating group, with a check that
passes and one that fails, to a group that is PENDING with Ts ahead of and before the lead time, in TRANSITION and in STEADY. -/
theorem witness_set_members :
    Ready s34 (fr .centre [2, 3, 3, 5, 7]) ∧ s34.cfs.commit = none
      ∧ parseSetMembers [16, 0] = some ⟨16, []⟩ ∧ parseSetMembers [2, 1, 64] = some ⟨2, [64]⟩
      ∧ parseSetMembers [2, 2, 3, 3] = some ⟨2, [3, 3]⟩ ∧ ¬ ([3, 3] : List Nat).Nodup
      ∧ parseSetMembers [2, 3, 7, 5, 3] = some ⟨2, [7, 5, 3]⟩ ∧ ([7, 5, 3] : List Nat).Nodup
      ∧ (∀ i : Ix, (if i.val ∈ [7, 5, 3] then some 2 else if s34.groupOf i = some 2 then none else s34.groupOf i)
          = s34.groupOf i)
      ∧ parseSetMembers [15, 1, 63] = some ⟨15, [63]⟩ ∧ s34.groupOf 63 = none
      ∧ (let s := (s34.setGroup 2 { Group.initial with state := .pending, target := 12, ts := some 2000 }).setMember 3
           { Member.initial with state := .free }
         noneIdle s = true ∧ s.groupOf 3 = some 2 ∧ 3 ∉ [7, 5] ∧ (s.group 2).state.coordinating = true
           ∧ (s.member 3).state.taken = true)
      ∧ (let barred : Member := { Member.initial with state := .excluded }
         let alerted : Member := { barred with
           faults := { PerClass.all FaultEntry.clear with alert := ⟨true, false, 1, some .recovering⟩ } }
         let s (st : GroupState) :=
           (((joining { Group.initial with state := st, current := 12, target := 12 }).setMember 5 barred).setMember 7
             alerted).setMember 21 { Member.initial with state := .unknown }
         let t (st : GroupState) := run (.setMembers (fr .centre [2, 3, 3, 9, 21])) (s st)
         noneIdle (s .steady) = true ∧ noneIdle (s .free) = true ∧ (s .steady).groupOf 5 = some 2 ∧ (s .steady).groupOf 7 = some 2
           ∧ ((t .steady).member 5).state = .free ∧ ((t .steady).member 7).state = .excluded
           ∧ (t .steady).member 3 = (s .steady).member 3 ∧ (t .steady).member 21 = (s .steady).member 21
           ∧ (t .free).member 5 = barred ∧ (t .free).member 7 = alerted ∧ ((t .free).member 9).state = .free)
      ∧ ∀ r ∈ [{ Group.initial with state := .pending, target := 12, ts := some 2000 },
            { Group.initial with state := .pending, target := 12, ts := some 1100 },
            { Group.initial with state := .transition, current := 12, target := 12, ts := some 900 },
            { Group.initial with state := .steady, current := 12, target := 12 }],
          let s := joining r
          let t := run (.setMembers (fr .centre [2, 4, 3, 9, 20, 21])) s
          noneIdle s = true ∧ (s.groupOf 9 = some 4 ∧ (s.group 4).state.coordinating = true ∧ (s.member 9).state.taken = true)
            ∧ (s.groupOf 20 = none ∧ (s.member 20).state = .free) ∧ s.stored.activation (s.member 20) 12 = true
            ∧ s.stored.activation (s.member 9) 12 = true ∧ s.stored.activation (s.member 21) 12 = false
            ∧ ((s.stored.policies.get .capability).policy ≠ .latched ∨ (s.stored.policies.get .capability).scope ≠ .group)
            ∧ (t.member 9).state = .ordered
            ∧ ((t.member 20).order.map (·.payload.tm)) = some (if r.ts = some 2000 then 2000 else 1300) :=
  ⟨ready (by decide +kernel), by decide +kernel⟩

/-- A group 2 that is PENDING with Ts at E, and its member 3 in a given state. -/
def pendingGroup (target ts : Nat) (st : MemberState) : State :=
  (s34.setGroup 2 { Group.initial with state := .pending, target := target, ts := some ts }).setMember 3
    { Member.initial with state := st }

/-- ReachingTsChangesTheCurrentPlan: one ds before Ts, at Ts with target 0, with an ORDERED member, and with none. -/
theorem witness_ts_reached :
    (noneIdle (pendingGroup 12 1001 .ordered) = true ∧ ¬ 1001 ≤ (pendingGroup 12 1001 .ordered).tref.e)
      ∧ (noneIdle (pendingGroup 0 1000 .ordered) = true ∧ ((pendingGroup 0 1000 .ordered).group 2).target = 0)
      ∧ (let s := pendingGroup 12 1000 .ordered
         noneIdle s = true ∧ s.groupOf 3 = some 2 ∧ (s.member 3).state = .ordered ∧ (s.group 2).ts = some s.tref.e)
      ∧ (let s := pendingGroup 12 1000 .free
         noneIdle s = true ∧ ∀ i : Ix, ¬ (s.groupOf i = some 2 ∧ (s.member i).state = .ordered)) := by decide +kernel

/-- A member 3 in ORDERED with an ORDER whose Tm is E, and a policy for ORDER_MISSED. -/
def ordered (outcome : OrderOutcome) (policy : Policy) : State :=
  let s := (mapped .checking).setMember 3
    { Member.initial with
      state := .ordered, order := some ⟨.order, ⟨12, 6, 900, 250, 1000, .shortway⟩, outcome, 0, false⟩ }
  { s with stored := { s.stored with policies := { s.stored.policies with orderMissed := ⟨policy, .member⟩ } } }

/-- ReachingTmJudgesTheDelivery: delivered; owed, under each policy. -/
theorem witness_tm_reached :
    ∀ policy ∈ [Policy.latched, .recovering, .reportOnly, .off], ∀ outcome ∈ [OrderOutcome.owed, .delivered],
      let s := ordered outcome policy
      noneIdle s = true ∧ (s.member 3).state = .ordered
        ∧ (s.member 3).order = some ⟨.order, ⟨12, 6, 900, 250, 1000, .shortway⟩, outcome, 0, false⟩ ∧ 1000 ≤ s.tref.e
        ∧ ((s.member 3).faults.get .orderMissed).standing = false
        ∧ (s.stored.policies.get .orderMissed).policy = policy := by decide +kernel

/-! The offset transition -/

/-- MeasurementRoundsTheAdvance: the shortest and the longest cycle, the advance at and above C/2, and C itself. -/
theorem witness_measurement :
    (300 % 10 = 0 ∧ 299 < 300 ∧ advanceOf 0 0 300 299 10 = 0) ∧ (3000 % 10 = 0 ∧ 2 * advanceOf 1500 0 3000 0 10 ≤ 3000)
      ∧ 3000 < 2 * advanceOf 1501 0 3000 0 1 ∧ 1501 % 3000 < 3000 := by decide

/-- CorrectionsKeepTheCycleWithinLimits: the worked case, and C at both limits. -/
theorem witness_corrections :
    (700 ≤ 900 ∧ 900 ≤ 1200 ∧ 900 % 5 = 0 ∧ 430 % 5 = 0 ∧ 430 < 900) ∧ (300 ≤ 300 ∧ 300 ≤ 300 ∧ 300 % 10 = 0 ∧ 0 % 10 = 0) := by
  decide

/-- DirectionTakesTheQuickerWay: an advance within the cycle, a tie, and no way to move. -/
theorem witness_direction :
    (0 < 1 ∧ 1 < 300) ∧ (0 < 430 ∧ 430 < 900) ∧ chooseDirection .shortway 450 900 150 150 = some (.delay, 3)
      ∧ chooseDirection .shortway 1 900 180 135 = some (.advance, 1) ∧ chooseDirection .delay 1 900 0 135 = none := by decide

/-! Intersection records -/

/-- `mapped` on a segment in a given state, with intersection 4 unmapped. -/
theorem mapped_maps : (mapped .active).stored.MapsUnique ∧ (mapped .closing).stored.MapsUnique :=
  ⟨mapsUnique_of (by decide +kernel), mapsUnique_of (by decide +kernel)⟩

/-- SetMapMovesTheMember: arguments out of range at each field; a drop taken; the same map; none; and another map on a segment
in each state. -/
theorem witness_set_map :
    parseSetMap [64, 0, 1] = some ⟨64, 0, 1⟩ ∧ parseSetMap [63, 4, 1] = some ⟨63, 4, 1⟩
      ∧ parseSetMap [63, 3, 0] = some ⟨63, 3, 0⟩ ∧ parseSetMap [63, 3, 17] = some ⟨63, 3, 17⟩
      ∧ parseSetMap [63, 3, 16] = some ⟨63, 3, 16⟩ ∧ parseSetMap [3, 255, 0] = some ⟨3, 255, 0⟩
      ∧ parseSetMap [4, 1, 5] = some ⟨4, 1, 5⟩ ∧ (mapped .active).place 3 = some ⟨1, 4⟩
      ∧ (∀ j : Ix, j ≠ 3 → (mapped .active).place j = none)
      ∧ (∀ st ∈ [SegState.off, .checking, .active, .stuck, .closing],
          noneIdle (mapped st) = true ∧ ((mapped st).segment 1).state = st ∧ ((mapped st).segment 3).state = .off
            ∧ (mapped st).cfs.commit = none ∧ (mapped st).phase = .running) := by decide +kernel

/-- RequeryAsksForAQuery: 64; unmapped; OFFLINE; one queued; a segment that is not ACTIVE, and one that is. -/
theorem witness_requery :
    parseByte [64] = some 64 ∧ parseByte [63] = some 63 ∧ (mapped .active).place 63 = none
      ∧ (let s := (mapped .active).setMember 3 Member.initial
         noneIdle s = true ∧ (s.member 3).state = .offline)
      ∧ (let s := (mapped .checking).modSegment 1 fun r => { r with queue := [⟨.query, 3, 900, 0⟩] }
         noneIdle s = true ∧ (s.segment 1).queue = [⟨.query, 3, 900, 0⟩] ∧ (s.member 3).state ≠ .offline)
      ∧ (noneIdle (mapped .checking) = true ∧ ((mapped .checking).segment 1).queue = [])
      ∧ noneIdle (mapped .active) = true ∧ ((mapped .active).segment 1).state = .active := by decide +kernel

/-- CapabilityRecordFollowsItsTable and AlertsChangeAtTheDeglitchCount have no hypotheses but 1 ≤ n. -/
theorem witness_alerts :
    1 ≤ 1 ∧ (⟨false, 0⟩ : AlertWatch).counter = 0 ∧ 4 ≤ (⟨true, 3⟩ : AlertWatch).counter + 1 := by decide

/-! Field segments -/

/-- SegmentsAreEnabledAndDisabled: segment 4; and segment 1 in each state, in service with an empty queue and, in ACTIVE, with
nothing in flight and with a transaction in flight. -/
theorem witness_enable_disable :
    parseByte [4] = some 4 ∧ parseByte [1] = some 1
      ∧ (∀ st ∈ [SegState.off, .checking, .active, .stuck, .closing],
          noneIdle (mapped st) = true ∧ ((mapped st).segment 1).state = st ∧ ((mapped st).segment 1).queue = []
            ∧ (mapped st).cfs.commit = none)
      ∧ noneIdle (polling false) = true ∧ ((polling false).segment 1).inFlight ≠ none := by decide +kernel

theorem polling_maps : (polling false).stored.MapsUnique := mapped_maps.1

/-- LineLevelsAreWatched: MARK in CHECKING; MARK and SPACE while watched, with nothing in flight and in a window; STUCK. -/
theorem witness_line_levels :
    (noneIdle (mapped .checking) = true ∧ ((mapped .checking).segment 1).line = .mark)
      ∧ (noneIdle (polling false) = true ∧ ((polling false).segment 1).line = .mark
          ∧ ∀ x ∈ ((polling false).segment 1).inFlight, x.phase ≠ .request)
      ∧ (let s := (mapped .closing).modSegment 1 fun r => { r with line := .space }
         noneIdle s = true ∧ (s.segment 1).state = .closing ∧ (s.segment 1).inFlight = none ∧ (s.segment 1).line = .space)
      ∧ noneIdle (mapped .stuck) = true ∧ ((mapped .stuck).segment 1).state = .stuck := by decide +kernel

/-- PassedCheckActivatesTheSegment: exactly 20 ms of MARK, with an UNKNOWN member. -/
theorem witness_check_passed :
    let s := (mapped .checking).modSegment 1 fun r => { r with lineSince := 99980 }
    noneIdle s = true ∧ (s.segment 1).state = .checking ∧ (s.segment 1).line = .mark
      ∧ (s.segment 1).lineSince + 20 = s.crystal ∧ s.place 3 = some ⟨1, 4⟩ ∧ (s.member 3).state = .unknown
      ∧ (s.segment 1).inFlight = none ∧ (s.segment 1).candidate = none := by decide +kernel

theorem witness_check_passed_maps :
    ((mapped .checking).modSegment 1 fun r => { r with lineSince := 99980 }).stored.MapsUnique :=
  mapsUnique_of (by decide +kernel)

/-- HeldLineStopsTheSegment: 41 ms of SPACE in ACTIVE and, with a transaction in flight, in CLOSING. -/
theorem witness_line_held :
    (let s := (polling false).modSegment 1 fun r => { r with line := .space, lineSince := 99959 }
     noneIdle s = true ∧ (s.segment 1).line = .space ∧ (s.segment 1).lineSince + 41 = s.crystal
       ∧ (s.segment 1).state = .active ∧ ∀ x ∈ (s.segment 1).inFlight, x.phase ≠ .request)
      ∧ (let s := (polling false).modSegment 1 fun r =>
           { r with state := .closing, line := .space, lineSince := 99959 }
         noneIdle s = true ∧ (s.segment 1).state = .closing ∧ (s.segment 1).inFlight ≠ none
           ∧ ∀ x ∈ (s.segment 1).inFlight, x.phase ≠ .request) := by decide +kernel

/-- A turnaround that ends now, with a candidate POLL, a queue and a backlog. -/
def turning (queue : List Txn) (backlog : Nat) : State :=
  ((mapped .active).modSegment 1 fun r =>
    { r with queue := queue, candidate := some ⟨.poll, 3, 0, 100000⟩ }).setPoll 3 (some ⟨.running 100000, backlog, false⟩)

/-- RecheckSendsWhatTheArbiterNames: nothing; the poll; an ORDER; a QUERY in place of the poll owed. -/
theorem witness_recheck :
    (noneIdle (turning [] 0) = true ∧ (turning [] 0).arbiter 1 = none)
      ∧ (noneIdle (turning [] 1) = true ∧ (turning [] 1).arbiter 1 = some ⟨.poll, 3, 0⟩)
      ∧ (let x : Txn := ⟨.order 0 ⟨12, 6, 900, 0, 1000, .step⟩, 3, 900, 4⟩
         (turning [x] 1).arbiter 1 = some ⟨.order, 3, 4⟩ ∧ (turning [x] 1).place x.target = some ⟨1, 4⟩)
      ∧ (turning [⟨.query, 3, 900, 4⟩] 1).arbiter 1 = some ⟨.query, 3, 4⟩
      ∧ ((turning [] 1).segment 1).state = .active ∧ ((turning [] 1).segment 1).inFlight = none := by decide +kernel

/-- A POLL whose reply window, which closes at 100 s, holds the bytes of a reply. -/
def window (waited : Bool) (heard : List Byte) (lastAt : Nat) : State :=
  (mapped .active).modSegment 1 fun r =>
    { r with inFlight := some ⟨.poll 0 none, 3, 4, 1000, 1000, 0, .window 100000 waited heard lastAt⟩ }

/-- ReplyWindowOpensAndIsMovedOnce: a request being sent; an empty window before and after a WAIT marker, with bytes before the
marker at the ends of what is ignored; a byte of the form of a marker in a reply begun, as drop and as the last byte but one; and a
segment without a window. -/
theorem witness_window :
    (let s := (mapped .active).modSegment 1 fun r =>
       { r with inFlight := some ⟨.poll 0 none, 3, 4, 1000, 1000, 0, .request⟩ }
     noneIdle s = true ∧ (s.segment 1).inFlight = some ⟨.poll 0 none, 3, 4, 1000, 1000, 0, .request⟩)
      ∧ (∀ w : Bool, noneIdle (window w [] 100000) = true
          ∧ ((window w [] 100000).segment 1).inFlight
              = some ⟨.poll 0 none, 3, 4, 1000, 1000, 0, .window 100000 w [] 100000⟩)
      ∧ (∀ b ∈ ([0x59, 0x5B, 0x00, 0xEF] : List Byte), b ≠ 0x5A#8 ∧ b.toNat < 240)
      ∧ (∀ h ∈ [[0x5A], pollBytes.take 11], h ≠ [] ∧ h.length ≠ 2 ∧ noneIdle (window false h 100000) = true
          ∧ wholeReply (h ++ [0xF4]) = false ∧ 240 ≤ (0xF4#8).toNat)
      ∧ ((mapped .active).segment 1).state ≠ .off ∧ ((mapped .active).segment 1).inFlight = none := by decide +kernel

/-- TransactionsCompleteByTheirTable: a reply of the right and of another drop, in one part after noise and in two; the length
bytes 0 and 21; a gap of 3 ms and one of 2 ms in the reply begun; a marker of another drop; the close at its ms with a reply begun
and without, with and without a marker; in CLOSING; with another map. -/
theorem witness_transactions :
    (∀ heard ∈ [[], pollBytes.take 11], noneIdle (window false heard 99998) = true ∧ ¬ 99998 + 2 < (window false heard 99998).crystal
        ∧ 100000 ≤ (window false heard 99998).crystal ∧ (window false heard 99998).place 3 = some ⟨1, 4⟩
        ∧ heard ++ pollBytes.drop heard.length = pollBytes ∧ pollBytes.drop heard.length ≠ [])
      ∧ wholeReply pollBytes = true ∧ (judgeReply 4 .poll pollBytes).isSome = true ∧ judgeReply 5 .poll pollBytes = none
      ∧ (0x00#8).toNat = 0 ∧ 20 < (0x15#8).toNat
      ∧ (pollBytes.take 11 ≠ [] ∧ noneIdle (window false (pollBytes.take 11) 99997) = true
          ∧ 99997 + 2 < (window false (pollBytes.take 11) 99997).crystal)
      ∧ (5 : Drop) ≠ 4
      ∧ (noneIdle (window true [] 99997) = true ∧ (pollBytes.take 11)[2]? = some 9
          ∧ ((pollBytes.take 11).drop 3).length < 9 + 2)
      ∧ (let s := (window false [] 99997).modSegment 1 fun r => { r with state := .closing }
         noneIdle s = true ∧ (s.segment 1).state = .closing)
      ∧ (let s := (window false [] 99997).setPlace 3 none; noneIdle s = true ∧ s.place 3 ≠ some ⟨1, 4⟩) := by decide +kernel

/-- R144: more than 2 ms inside a reply frame have ended it, so that its last byte completes nothing. -/
theorem test_reply_broken_off_by_a_gap :
    let t := run (.replyFrameReceived 1 (pollBytes.drop 11)) (window false (pollBytes.take 11) 99997)
    (t.segment 1).counters.badReply = 1 ∧ (t.segment 1).counters.good = 0 ∧ (t.segment 1).inFlight = none := by decide +kernel

/-! GoodRepliesEnterTheRecord -/

/-- The hypothesis of the statement, as a check. -/
def arrives (s : State) (x : InFlight) (bytes : List Byte) (r : GoodReply) : Bool :=
  noneIdle s && decide ((s.segment 1).inFlight = some x ∧ (s.segment 1).state ≠ .closing ∧ s.place x.target = some ⟨1, x.drop⟩
    ∧ bytes ≠ [] ∧ x.phase = .window 100000 false [] 100000 ∧ wholeReply bytes = true
    ∧ judgeReply x.drop x.body.kind bytes = some r)

theorem arrives_of {s : State} {x : InFlight} {bytes : List Byte} {r : GoodReply} (h : arrives s x bytes r = true) :
    s.ReplyArrives 1 x bytes r := by
  rw [arrives, Bool.and_eq_true, decide_eq_true_eq] at h
  obtain ⟨hn, hf, hs, hp, hb, hx, hw, hj⟩ := h
  refine ⟨noneIdle_of hn, hf, hs, hp, hb, ?_⟩
  rw [hx]
  exact ⟨.inl rfl, hw, hj⟩

/-- The transaction in flight that `polling` has. -/
def inWindow (body : SentBody) : InFlight := ⟨body, 3, 4, 1000, 1000, 0, .window 100000 false [] 100000⟩

/-- A COORDINATED POLL reply without alerts, and its bytes from drop 5. -/
def shown (plan count position : Nat) : PollReply := ⟨.coordinated, plan, count, position, 0, PerAlert.all false⟩

def shownBytes (plan count position : Nat) : List Byte := fieldFrame 4 .poll (shown plan count position).body

/-- TRANSITION and STEADY of group 2 on plan 12. -/
def inTransition : Group := { Group.initial with state := .transition, current := 12, target := 12, ts := some 900 }

def inSteady : Group := { Group.initial with state := .steady, current := 12, target := 12 }

/-- A member of a controller that can do all, which last reported count 45. -/
def worker (st : MemberState) : Member := { Member.initial with state := st, capability := some able, count := some 45 }

/-- A member ORDERED for plan 12 from Tm = 900. -/
def switcher (outcome : OrderOutcome) : Member :=
  { worker .ordered with order := some ⟨.order, ⟨12, 6, 900, 0, 900, .shortway⟩, outcome, 0, true⟩ }

/-- Member 3 of group 2 polled at E = `e`, with plan 12 as given and offset 250 in it; every class is of policy `policy`. -/
def following (m : Member) (r : Group) (p : Plan) (policy : Policy) (e : Nat) : State :=
  let s := ((polling false).setGroup 2 r).setMember 3 m
  { s with
    tref := { s.tref with e := e }
    nextOid := 1
    stored := { s.stored with
      plans := vset s.stored.plans 11 (some p)
      offsets := vset s.stored.offsets 11 (vset (Vector.replicate 64 0) 3 250)
      groupOf := vset s.stored.groupOf 3 (some 2)
      policies := PerClass.all ⟨policy, .member⟩ } }

/-- Table 7-6: C = 900, SHORTWAY. -/
def plan900 : Plan := ⟨900, 6, .shortway⟩

/-- In Table 7-6's first reply, at E = 517253 and position 872, a = 430; at E = 517250 and position 0, a = 0 and in step. -/
theorem witness_reply_measures :
    advanceOf 517253 250 900 872 5 = 430 ∧ signedError 430 900 = 430 ∧ advanceOf 513250 250 900 0 5 = 0
      ∧ chooseDirection .shortway 430 900 180 135 = some (.delay, 3) ∧ effectiveMethod .shortway able.methods = .shortway
      ∧ lengthenLimit .shortway 900 1200 20 5 = 180 ∧ shortenLimit .shortway 900 700 15 5 = 135 := by decide +kernel

/-- Every member that the clauses name is calm and the replies are quiet, the standing policies are those named, and the reply
arrives. -/
def arrivesQuietly (s : State) (p : PollReply) : Bool :=
  arrives s (inWindow (.poll 0 none)) (fieldFrame 4 .poll p.body) (.poll p)
    && decide ((∀ c ∈ allClasses, ((s.member 3).faults.get c).standing = false)
      ∧ (s.member 3).alertSet = PerAlert.all false ∧ p.alerts = PerAlert.all false ∧ p.mode = .coordinated)
    && decide (s.groupOf 3 = some 2)

/-- Members outside coordination; a position at C and one below it; an ORDERED member that neither switches nor missed its order,
and one that reports another plan after a delivered order, one ds before and at the cycle that begins at Tm. -/
theorem witness_poll_reply_orders :
    (∀ st ∈ [MemberState.unknown, .free, .latched, .offline],
        arrivesQuietly (following (worker st) inSteady plan900 .latched 2000) (shown 12 46 900) = true)
      ∧ (∀ policy ∈ [Policy.latched, .recovering, .reportOnly, .off],
          arrivesQuietly (following (switcher .delivered) inTransition plan900 policy 1000) (shown 20 46 100) = true
            ∧ 900 + 100 ≤ 1000)
      ∧ arrivesQuietly (following (switcher .delivered) inTransition plan900 .latched 1000) (shown 20 46 101) = true
      ∧ arrivesQuietly (following (switcher .owed) inTransition plan900 .latched 1000) (shown 12 46 101) = true
      ∧ (let t := run (.replyFrameReceived 1 (shownBytes 20 46 100))
           (following (switcher .delivered) inTransition plan900 .reportOnly 1000)
         (t.member 3).missCause = some .notSwitched
           ∧ (t.segment 1).queue = [⟨.order 0 ⟨12, 6, 900, 0, 900, .shortway⟩, 3, 1000, 0⟩]) := by decide +kernel

/-- A member that loses its plan, with a check that passes and one that fails. -/
theorem witness_poll_reply_plan_lost :
    ∀ m ∈ [worker .correcting, worker .inStep, { worker .inStep with capability := some { able with patterns := 5 } }],
      let s := following m inTransition plan900 .latched 517253
      arrivesQuietly s (shown 20 46 872) = true
        ∧ (s.stored.activation m 12 = true ↔ m.capability = some able)
        ∧ ((run (.replyFrameReceived 1 (shownBytes 20 46 872)) s).member 3).state
            = (if m.capability = some able then .ordered else .latched) := by decide +kernel

/-- Transition starts, of an ORDERED, a re-syncing and a drifting member: a check that fails, in step, and a way chosen. -/
theorem witness_poll_reply_starts :
    ∀ m ∈ [switcher .delivered, { worker .correcting with resync := true }, { worker .inStep with resync := true },
        worker .inStep],
      (let s := following { m with capability := some { able with valid := false } } inTransition plan900 .latched 517253
       arrivesQuietly s (shown 12 46 872) = true ∧ s.stored.activation (s.member 3) 12 = false
         ∧ ((run (.replyFrameReceived 1 (shownBytes 12 46 872)) s).member 3).state = .latched)
        ∧ (let s := following m inTransition plan900 .latched 513250
           arrivesQuietly s (shown 12 46 0) = true ∧ s.stored.activation m 12 = true
             ∧ (m = worker .inStep ∨ ((run (.replyFrameReceived 1 (shownBytes 12 46 0)) s).group 2).state = .steady))
        ∧ (let s := following m inSteady plan900 .latched 517253
           arrivesQuietly s (shown 12 46 872) = true ∧ ((run (.replyFrameReceived 1 (shownBytes 12 46 872)) s).group 2).state = .transition) := by
  decide +kernel

/-- Table 7-6, first row: the reply finds a = 430 and the member goes to CORRECTING in DELAY with 470 remaining and +180 for count
46. -/
theorem test_transition_start :
    let m := (run (.replyFrameReceived 1 (shownBytes 12 46 872))
      (following (switcher .delivered) inTransition plan900 .latched 517253)).member 3
    m.state = .correcting ∧ m.error = some 430 ∧ m.direction = .delay ∧ m.remaining = 470 ∧ m.correction = 180
      ∧ m.correctionCount = some 46 ∧ m.expected = some 3 := by decide +kernel

/-- A plan of 299 s and a controller that lengthens it by 1 s at most and never shortens it: 298 cycles for a = 10; and one that
cannot move at all. -/
def stiff (cmax : Nat) : Capability := ⟨2990, cmax, 10, 8, ⟨true, true, true⟩, true, true⟩

theorem witness_poll_reply_blocked :
    ∀ m ∈ [switcher .delivered, worker .inStep],
      ∀ policy ∈ [Policy.latched, .recovering, .reportOnly, .off], ∀ cmax ∈ [2990, 3000],
        let s := following { m with capability := some (stiff cmax) } inTransition ⟨2990, 6, .delay⟩ policy 3290
        arrivesQuietly s (shown 12 46 40) = true ∧ advanceOf 3290 250 2990 40 10 = 10 
          ∧ chooseDirection .delay 10 2990 (lengthenLimit .delay 2990 cmax 20 10) (shortenLimit .delay 2990 2990 15 10)
              = (if cmax = 3000 then some (.delay, 298) else none)
          ∧ s.stored.activation (s.member 3) 12 = true := by decide +kernel

/-- A member IN_STEP that stays, and one in CORRECTING that completes, that reports no new cycle, and that begins a new one: on its
course, late, with more to correct than before, without a way, and with a failing check. -/
def corrector (remaining : Nat) (deadline : Option Nat) (c : Capability) : Member :=
  { worker .correcting with
    capability := some c, direction := .delay, remaining := remaining, correction := 180, correctionCount := some 45
    method := some .shortway, expected := some 3, deadline := deadline }

theorem witness_poll_reply_course :
    arrivesQuietly (following (worker .inStep) inSteady plan900 .latched 513250) (shown 12 46 0) = true
      ∧ arrivesQuietly (following (corrector 100 (some 9) able) inTransition plan900 .latched 513250) (shown 12 46 0) = true
      ∧ arrivesQuietly (following (corrector 470 (some 9) able) inTransition plan900 .latched 517253) (shown 12 45 872) = true
      ∧ (∀ policy ∈ [Policy.latched, .recovering, .reportOnly, .off], ∀ deadline ∈ [some 9, some 1],
          arrivesQuietly (following (corrector 470 deadline able) inTransition plan900 policy 517253) (shown 12 46 872) = true
            ∧ arrivesQuietly (following (corrector 100 deadline able) inTransition plan900 policy 517253) (shown 12 46 872) = true
            ∧ arrivesQuietly (following (corrector 470 deadline { able with cmin := 900, cmax := 900 }) inTransition plan900 policy 517253)
                (shown 12 46 872) = true)
      ∧ arrivesQuietly (following (corrector 470 (some 9) { able with valid := false }) inTransition plan900 .latched 517253)
          (shown 12 46 872) = true
      ∧ (remainingOf .delay 430 900 = 470 ∧ 100 + Stored.empty.params.tol < 470)
      ∧ chooseDirection .shortway 430 900 (lengthenLimit .shortway 900 900 20 5) (shortenLimit .shortway 900 900 15 5) = none
      ∧ (((run (.replyFrameReceived 1 (shownBytes 12 46 872))
            (following (corrector 470 (some 1) able) inTransition plan900 .off 517253)).member 3).late = true) := by
  decide +kernel

/-- An ORDER reply to a standing order, of each kind, of a controller that acknowledges orders and one that does not: ACCEPT,
REFUSE, and a code of neither; under each policy of ORDER_MISSED. -/
theorem witness_order_reply :
    ∀ acks : Bool, ∀ kind ∈ [OrderKind.order, .release], ∀ answer ∈ [1, 2, 0],
      ∀ policy ∈ [Policy.latched, .recovering, .reportOnly, .off],
        let pay : OrderPayload := ⟨12, 6, 900, 0, 2000, .shortway⟩
        let s := (following
          { worker .ordered with
            capability := some { able with acks := acks }, order := some ⟨kind, pay, .owed, 0, false⟩ }
          inTransition plan900 policy 1000).modSegment 1 fun r => { r with inFlight := some (inWindow (.order 0 pay)) }
        let a : OrderReply := ⟨answer, 3, PerAlert.all false⟩
        arrives s (inWindow (.order 0 pay)) (fieldFrame 4 .order a.body) (.order a) = true
          ∧ (∀ c ∈ allClasses, ((s.member 3).faults.get c).standing = false)
          ∧ ((s.member 3).capability.map (·.acks)) = some acks
          ∧ (answer = 2 → acks = true → kind = .order → policy = .off →
              ((run (.replyFrameReceived 1 (fieldFrame 4 .order a.body)) s).member 3).missReason = some 3) := by
  decide +kernel

/-- A QUERY reply. -/
theorem witness_query_reply :
    let s := (mapped .active).modSegment 1 fun r => { r with inFlight := some (inWindow .query) }
    let q : QueryReply := ⟨66051, 70, 120, 7, 8, ⟨true, true, false⟩, true, PerAlert.all false⟩
    arrives s (inWindow .query) (fieldFrame 4 .query q.body) (.query q) = true
      ∧ ((run (.replyFrameReceived 1 (fieldFrame 4 .query q.body)) s).member 3).capability
          = some ⟨700, 1200, 5, 8, ⟨true, true, false⟩, true, true⟩ := by decide +kernel

/-! Poll scheduling and the arbiter -/

/-- UrgencyFollowsBacklogAndMarker: both ends of each range of Table 10-2. -/
theorem witness_urgency :
    (∀ b ∈ [8, 12, 15], Poll.Sound ⟨.stopped 0, b, true⟩) ∧ ∀ b ∈ [0, 1, 3, 4, 7, 8, 11], Poll.Sound ⟨.stopped 0, b, false⟩ := by
  unfold Poll.Sound; decide

/-- PollsOwedAreCounted: a counter that has just reached 0, at the backlogs 11 and 15, on a free segment and on another. -/
theorem witness_polls_owed :
    (let s := mapped .active
     noneIdle s = true ∧ s.place 3 = some ⟨1, 4⟩ ∧ s.poll 3 = some ⟨.running 100000, 0, false⟩ ∧ 100000 ≤ s.crystal
       ∧ (s.segment 1).state = .active ∧ (s.segment 1).inFlight = none ∧ (s.segment 1).candidate = none)
      ∧ ∀ p ∈ [(⟨.running 100000, 11, false⟩ : Poll), ⟨.running 100000, 15, true⟩],
          let s := (polling false).setPoll 3 (some p)
          noneIdle s = true ∧ s.poll 3 = some p ∧ p.backlog ≤ 15 ∧ (s.segment 1).inFlight ≠ none := by decide +kernel

/-- ArbiterNamesTheFirstOfTheFirstClass: nothing, a POLL, an urgent and another ORDER before an OFFER poll. -/
theorem witness_arbiter :
    (turning [] 0).arbiter 1 = none ∧ (turning [⟨.query, 3, 900, 0⟩] 4).arbiter 1 = some ⟨.poll, 3, 0⟩
      ∧ (let o (tm seq : Nat) : Txn := ⟨.order 0 ⟨12, 6, 900, 0, tm, .step⟩, 3, 900, seq⟩
         (turning [o 1101 4, o 1100 5] 4).arbiter 1 = some ⟨.order, 3, 5⟩
           ∧ (turning [o 1101 4] 4).arbiter 1 = some ⟨.order, 3, 4⟩) := by decide +kernel

theorem witness_arbiter_maps : (turning [] 0).stored.MapsUnique := mapped_maps.1

/-! Faults -/

/-- RaisesFollowTheirPolicy: each policy, a member in service, one that is not, a group that is suspended, and one that the exclusion
of its last working member makes STEADY. -/
theorem witness_raise :
    (∀ policy ∈ [Policy.latched, .recovering, .reportOnly, .off],
      ((ordered .owed policy).stored.policies.get .orderMissed).policy = policy
        ∧ ((ordered .owed policy).member 3).state = .ordered ∧ (ordered .owed policy).place 3 ≠ none)
      ∧ ((mapped .active).member 3).state = .unknown ∧ (mapped .active).place 5 = none
      ∧ (let s0 := following (worker .inStep) inSteady plan900 .latched 1000
         let s := { s0 with stored := { s0.stored with policies := s0.stored.policies.set .capability ⟨.latched, .group⟩ } }
         s.stored.policies.get .capability = ⟨.latched, .group⟩ ∧ s.groupOf 3 = some 2 ∧ (s.group 2).state ≠ .suspended
           ∧ (s.raise 3 .capability none none |>.group 2).state = .suspended)
      ∧ (let s := following (worker .correcting) inTransition plan900 .recovering 1000
         s.phase = .running ∧ (s.group 2).state = .transition
           ∧ (s.raise 3 .transitionBlocked none none |>.group 2).state = .steady) := by decide +kernel

/-- A LATCHED member 3 whose controller can run plan 12, with NO_REPLY latched, an ALERT as given and a standing order. -/
def latchedMember (applied : Option Policy) (order : Option StandingOrder) (c : Capability) : Member :=
  { Member.initial with
    state := .latched, noReplies := 9, capability := some c, order := order
    faults := { PerClass.all FaultEntry.clear with
      noReply := ⟨true, true, 1, some .latched⟩, alert := ⟨applied.isSome, false, 1, applied⟩ } }

/-- Member 3 of group 2, each as given, with plan 12 defined and a policy of CAPABILITY. -/
def clearing (r : Group) (m : Member) (policy : Policy) : State :=
  let s := (quiet.setGroup 2 r).setMember 3 m
  { s with stored := { s.stored with
      plans := vset s.stored.plans 11 (some plan900), groupOf := vset s.stored.groupOf 3 (some 2)
      policies := s.stored.policies.set .capability ⟨policy, .member⟩ } }

/-- A SUSPENDED group with a hold. -/
def suspendedGroup (hold : Option Hold) : Group :=
  { Group.initial with state := .suspended, suspension := some ⟨.alert, 3, 0⟩, hold := hold }

/-- ClearFaultsEndsLatchedConditions: the targets at their ends and one beyond; and for each target a LATCHED member with and without
another condition that holds it, in a group that is FREE, that switches to 0, that coordinates with Ts ahead of and before the lead
time, in TRANSITION and in STEADY, with the target's order, with another and with a failing check, under each policy; and one that is
not LATCHED. -/
theorem witness_clear_faults :
    parseClearFaults [0, 64] = some ⟨0, 64⟩ ∧ parseClearFaults [1, 16] = some ⟨1, 16⟩ ∧ parseClearFaults [3, 0] = some ⟨3, 0⟩
      ∧ parseClearFaults [0, 63] = some ⟨0, 63⟩ ∧ parseClearFaults [1, 15] = some ⟨1, 15⟩
      ∧ parseClearFaults [2, 255] = some ⟨2, 255⟩
      ∧ Ready quiet (fr .centre [0, 63]) ∧ (∀ c ∈ allClasses, ((quiet.member 63).faults.get c).latched = false)
      ∧ (∀ r ∈ [Group.initial, { Group.initial with state := .pending, current := 12, ts := some 2000 },
            { Group.initial with state := .pending, target := 12, ts := some 2000 },
            { Group.initial with state := .pending, target := 12, ts := some 1100 }, inTransition, inSteady],
          ∀ applied ∈ [none, some Policy.recovering],
            ∀ order ∈ [none, some (⟨.order, ⟨12, 6, 900, 0, 3000, .shortway⟩, .owed, 0, false⟩ : StandingOrder),
                some ⟨.order, ⟨20, 6, 900, 0, 3000, .shortway⟩, .owed, 0, false⟩,
                some ⟨.release, ⟨0, 0, 0, 0, 3000, .delay⟩, .owed, 0, false⟩],
              let s := clearing r (latchedMember applied order able) .latched
              s.groupOf 3 = some 2 ∧ (s.group 2).state ≠ .suspended
                ∧ ((s.member 3).faults.get .noReply).latched = true ∧ (s.member 3).state = .latched
                ∧ ((s.member 3).faults.get .alert).applied = applied
                ∧ s.stored.policies.get .capability ≠ ⟨.latched, .group⟩ ∧ s.stored.activation (s.member 3) 12 = true)
      ∧ (∀ bytes ∈ [[0, 3], [1, 2], [2, 0]],
          let s := clearing inSteady (latchedMember none none able) .latched
          noneIdle s = true
            ∧ replyAt .centre (run (.clearFaults (fr .centre bytes)) s) = some (.ok, [.n1 1, .n1 0])
            ∧ ((run (.clearFaults (fr .centre bytes)) s).member 3).state = .ordered)
      ∧ (∀ policy ∈ [Policy.latched, .recovering, .reportOnly, .off],
          let s := clearing inSteady (latchedMember none none { able with patterns := 5 }) policy
          s.stored.activation (s.member 3) 12 = false
            ∧ ((run (.clearFaults (fr .centre [0, 3])) s).member 3).state
                = (match policy with | .latched => .latched | .recovering => .excluded | _ => .free))
      ∧ (let s := clearing inSteady { latchedMember none none able with state := .unknown } .latched
         ((run (.clearFaults (fr .centre [0, 3])) s).member 3).state = .unknown) := by
  refine ⟨?_, ?_, ?_, ?_, ?_, ?_, ready (by decide +kernel), ?_, ?_, ?_, ?_, ?_⟩ <;> decide +kernel

/-- A SUSPENDED group that is a target of its own or under ALL: without a hold, and held for plan 0, it stays FREE; held for plan 12
it starts a switch; and under a target that is its member alone it stays SUSPENDED. -/
theorem witness_clear_faults_resumes :
    (∀ bytes ∈ [[1, 2], [2, 0]],
      (∀ hold ∈ [none, some (⟨.centre, 0, none, 0, 0⟩ : Hold)],
        let s := clearing (suspendedGroup hold) (latchedMember none none able) .latched
        noneIdle s = true ∧ replyAt .centre (run (.clearFaults (fr .centre bytes)) s) = some (.ok, [.n1 1, .n1 1, .n1 2])
          ∧ ((run (.clearFaults (fr .centre bytes)) s).group 2).state = .free
          ∧ ((run (.clearFaults (fr .centre bytes)) s).member 3).state = .free)
        ∧ (let s := clearing (suspendedGroup (some ⟨.event, 12, none, 0, 0⟩)) (latchedMember none none able) .latched
           let t := run (.clearFaults (fr .centre bytes)) s
           noneIdle s = true ∧ (t.group 2).wanted = 12 ∧ (t.group 2).state = .pending ∧ (t.group 2).ts = some 1300
             ∧ (t.member 3).state = .ordered))
      ∧ (let s := clearing (suspendedGroup none) (latchedMember none none able) .latched
         ((run (.clearFaults (fr .centre [0, 3])) s).group 2).state = .suspended) := by decide +kernel

/-! Ports and the store -/

/-- FramesAreJudgedInOrder: a port that serves, a part that starts up, a payload too long, a role without the right, a request
handed over; unknown codes 0 and 35, and the known codes 1 and 34. -/
theorem witness_frames_judged :
    (let s := run (.readTime (fr .centre [])) quiet
     noneIdle s = true ∧ (s.port .centre).service ≠ none)
      ∧ noneIdle State.reset = true ∧ State.reset.phase ≠ .running
      ∧ Instr.payloadFits (.commit (fr .centre [0])) = false ∧ Instr.payloadFits (.commit (fr .event [])) = true
      ∧ Request.commit ∉ ([.readTime, .readPlan, .readOffset, .readParams, .addEntry, .removeEntry, .readEntry, .listEntries,
          .placeHold, .releaseHold, .readGroup, .readIntersection, .readSegment, .readFaults, .setNoticeMask, .readPorts,
          .readStore] : List Request)
      ∧ (0x00#8).toNat = 0 ∧ 34 < (0x23#8).toNat ∧ 1 ≤ (0x01#8).toNat ∧ (0x22#8).toNat ≤ 34
      ∧ (let s := quiet.modPort .centre fun q => { q with
           tx := some (.busy ⟨1, 3, .busy, []⟩), busyList := List.replicate 4 ⟨1, 3, .busy, []⟩ }
         noneIdle s = true ∧ ¬ (s.port .centre).busyList.length < 4) := by decide +kernel

/-- ReadsReportAndChangeNothing: an id that no entry has; the entries of both lists; the selectors 0, 1 and 2; each number at its
last value and one beyond. -/
theorem witness_reads :
    Ready listed (fr .event [4]) ∧ (∀ x ∈ listed.stored.recurring ++ listed.stored.dated, x.id ≠ 5)
      ∧ listed.stored.recurring = [] ++ ⟨4, .cabinet, .recurring 127, 0x0003, 0, 2, 60, 0⟩ :: []
      ∧ listed.stored.dated = [] ++ ⟨9, .event, .dated 0 none, 0x0001, 0, 3, 1, 0⟩ :: []
      ∧ parseListEntries [0, 31] = some ⟨0, 31⟩ ∧ parseListEntries [1, 0] = some ⟨1, 0⟩
      ∧ parseListEntries [2, 0] = some ⟨2, 0⟩
      ∧ parseByte [16] = some 16 ∧ parseByte [15] = some 15 ∧ parseByte [64] = some 64 ∧ parseByte [63] = some 63
      ∧ parseByte [4] = some 4 ∧ parseByte [3] = some 3
      ∧ parseReadFaults [0, 0] = some none ∧ parseReadFaults [1, 64] = some (some 64)
      ∧ parseReadFaults [1, 63] = some (some 63) :=
  ⟨ready (by decide +kernel), by decide +kernel⟩

/-- A centre port that has received the first bytes of a frame, the last of them at the instant given. -/
def receiving (held : List Byte) (lastAt : Nat) : State :=
  quiet.modPort .centre fun q => { q with rx := .receiving held lastAt }

/-- R170: a good frame that comes 6 ms after the last byte of an unfinished one leaves that one counted as discarded. -/
theorem test_frame_after_a_gap :
    let c (lastAt : Nat) := ((run (.readTime (fr .centre [])) (receiving [0xA5, 0] lastAt)).port .centre).counters
    (c 99994).frameError = 1 ∧ (c 99994).request = 1 ∧ (c 99995).frameError = 0 := by decide +kernel

/-- MasksAreSetAndBadFramesDropped: a mask; a hunting port after bytes that are no frame start, and one that holds the frame start
alone, one length byte more, and all but the last byte; the lengths 2 and 301; a whole frame of the shortest length with a wrong and
a right CRC; a gap of 6 ms and one of 5 ms; what follows a gap: nothing, and a frame start. -/
theorem witness_masks_and_frames :
    Ready quiet (fr .event [0xFF, 1]) ∧ (fr .event [0xFF, 1]).payload = [0xFF, 1]
      ∧ (∀ x ∈ ([0, 0xA4, 0xA6] : List Byte), x ≠ 0xA5#8) ∧ quiet.ports.centre.rx = .hunting
      ∧ (∀ held ∈ [[0xA5], [0xA5, 0], [0xA5, 0, 3], [0xA5, 0, 3, 0, 7, 3, 0]],
          ∀ lastAt ∈ [99994, 99995],
            noneIdle (receiving held lastAt) = true ∧ (receiving held lastAt).ports.centre.rx = .receiving held lastAt
              ∧ ([0, 7, 3, 0] : List Byte).length < 3 + 2
              ∧ (lastAt = 99994 → 99994 + 5 < (receiving held lastAt).crystal
                ∧ (run (.frameGapTimeout .centre [] [1, 0xA5]) (receiving held lastAt)).ports.centre.rx = .receiving [0xA5] 100000
                ∧ (run (.frameGapTimeout .centre [] [1]) (receiving held lastAt)).ports.centre.rx = .hunting
                ∧ (run (.frameDiscarded .centre [9, 0xA5]) (receiving held lastAt)).ports.centre.rx = .receiving [0xA5] 100000
                ∧ (run (.frameDiscarded .centre [9, 0xA5]) (receiving held lastAt)).ports.centre.counters.frameError = 1)
              ∧ (lastAt = 99995 → ¬ 99995 + 5 < (receiving held lastAt).crystal))
      ∧ (0 * 256 + 2 < 3) ∧ 300 < (1#8).toNat * 256 + (45#8).toNat
      ∧ ((crc16 [0, 3, 0, 7, 3]).toNat ≠ 0 * 256 + 0 ∧ ([0, 7, 3] : List Byte).length = 3)
      ∧ judgeFrame ([0xA5, 0, 3, 0, 7, 3] ++ u16 (crc16 [0, 3, 0, 7, 3]).toNat) = .good 7 3 [] :=
  ⟨ready (by decide +kernel), by decide +kernel⟩

/-- TransmitterTakesTheNextFrame: a free transmitter; one that ends a served reply, with a notice waiting; one that ends a
notice. -/
theorem witness_transmitter :
    (noneIdle quiet = true ∧ (quiet.port .event).tx = none)
      ∧ (let s := run (.readTime (fr .centre [])) quiet
         noneIdle s = true ∧ ((s.port .centre).tx.isSome = true)
           ∧ (s.port .centre).service = some ⟨7, .readTime, none⟩)
      ∧ (let s := run (.commit (fr .cabinet [])) quiet
         let t := run .commitWriteEnd s
         noneIdle t = true ∧ (t.port .event).tx = some (.notice ⟨1000, .storeDone 1 .cabinet⟩ false)
           ∧ (t.port .cabinet).tx = some (.served ⟨7, 32, .ok, [.n4 1]⟩)
           ∧ (t.port .cabinet).service = some ⟨7, .commit, none⟩) := by decide +kernel

/-- CommitWritesTheSnapshot: the counts 100,000 and 99,999; a write that ends; and a RESET from the cabinet. -/
theorem witness_commit :
    (let s := { quiet with cfs := { quiet.cfs with countCell := some 100000 } }
     Ready s (fr .centre []) ∧ s.cfs.commit = none)
      ∧ (let s := { quiet with cfs := { quiet.cfs with countCell := some 99999 } }
         Ready s (fr .cabinet []) ∧ s.phase = .running)
      ∧ (let s := run (.commit (fr .centre [])) quiet
         noneIdle s = true ∧ s.cfs.commit = some ⟨Stored.empty, .centre, 100000⟩ ∧ s.phase = .running) :=
  ⟨⟨ready (by decide +kernel), rfl⟩, ⟨ready (by decide +kernel), rfl⟩, by decide +kernel⟩

/-- FramesAndFieldsRoundTrip: the ends of the fields. -/
theorem witness_round_trip :
    (List.replicate 297 (0x55#8)).length ≤ 297 ∧ 1099511627775 < 1099511627776
      ∧ judgeFrame (requestFrameBytes 0xFFFF 12 [0xA5, 0x5A]) = .good 0xFFFF 12 [0xA5, 0x5A]
      ∧ (List.replicate 19 (0xF0#8)).length ≤ 19 ∧ (3 : Drop) ≠ 4
      ∧ parseSegParams (SegParamArgs.payload ⟨3, [⟨0, 65535⟩]⟩) = some ⟨3, [⟨0, 65535⟩]⟩
      ∧ parseSetMap (SetMapArgs.payload ⟨63, 255, 0⟩) = some ⟨63, 255, 0⟩
      ∧ parseSetPolicy (SetPolicyArgs.payload ⟨5, 3, 1⟩) = some ⟨5, 3, 1⟩
      ∧ parseClearFaults (ClearFaultsArgs.payload ⟨2, 255⟩) = some ⟨2, 255⟩
      ∧ parseListEntries (ListEntriesArgs.payload ⟨1, 31⟩) = some ⟨1, 31⟩
      ∧ parseReadFaults (readFaultsPayload (some 63)) = some (some 63)
      ∧ (let m : NoticeMask := ⟨true, false, true, false, true, false, true, false, true⟩
         parseNoticeMask m.payload = some m)
      ∧ (let r : PollReply := ⟨.starting, 255, 255, 65535, -32768, PerAlert.all true⟩
         parseReplyBody .poll r.body = some (.poll r))
      ∧ (let r : OrderReply := ⟨255, 255, PerAlert.all true⟩; parseReplyBody .order r.body = some (.order r))
      ∧ (let r : QueryReply := ⟨4294967295, 65535, 65535, 255, 255, ⟨true, false, true⟩, false, PerAlert.all false⟩
         parseReplyBody .query r.body = some (.query r)) := by
  decide +kernel

/-! What every step keeps: the state after power-on meets the invariants (ResetStateMeetsTheInvariants is a statement), and so
does one that holds something of each kind. -/

/-- A state with a LOCKED clock at its last ds, a group in TRANSITION with an ORDERED member, a queue in order with the ORDER of that
member, an overdue poll and a waiting notice. -/
def busy : State :=
  let s := { (turning [⟨.query, 3, 900, 0⟩, ⟨.order 0 ⟨12, 6, 900, 0, 5000, .step⟩, 3, 900, 1⟩] 12).modPort .event fun q =>
      { q with tx := some (.busy ⟨1, 3, .busy, []⟩), queue := [⟨1, .storeDone 1 .centre⟩] } with
    tref := { quiet.tref with e := 56623103999, slew := -20 }
    polls := vset quiet.polls 3 (some ⟨.running 100000, 12, true⟩)
    groups := vset quiet.groups 2 { Group.initial with state := .transition, current := 12, target := 12, ts := some 5 }
    members := vset quiet.members 3
      { Member.initial with
        state := .ordered, order := some ⟨.order, ⟨12, 6, 900, 0, 5000, .step⟩, .owed, 0, false⟩ }
    nextOid := 1 }
  { s with stored := { s.stored with groupOf := vset s.stored.groupOf 3 (some 2) } }

theorem witness_busy_quiet : busy.QuietBeforeService := fun h => absurd rfl h

theorem witness_busy_members : busy.MembersFollow := by
  intro i
  by_cases h : i = 3
  · subst h
    exact ⟨fun _ => ⟨2, by decide +kernel⟩, fun h => absurd h (by decide +kernel), fun h => absurd h (by decide +kernel)⟩
  · have hn : ∀ j : Ix, j ≠ 3 → (busy.member j).state = .offline := by decide +kernel
    rw [hn i h]
    exact ⟨(nomatch ·), (nomatch ·), (nomatch ·)⟩

theorem witness_busy_works : busy.TransitionsWork := by
  have hn : ∀ g : GroupNo, (busy.group g).state = .transition → g = 2 := by decide +kernel
  intro g h
  have := hn g h
  subst this
  exact ⟨3, by decide +kernel⟩

theorem witness_busy_serves : busy.QueuesServe := by
  have hq : ∀ k : SegNo, (busy.segment k).queue ≠ [] → k = 1 := by decide +kernel
  intro k
  by_cases h : k = 1
  · subst h
    refine ⟨fun x hx => ?_, by decide +kernel⟩
    have ht : ∀ y ∈ (busy.segment 1).queue, busy.place y.target = some ⟨1, 4⟩ := by decide +kernel
    exact ⟨4, ht x hx⟩
  · have : (busy.segment k).queue = [] := Decidable.byContradiction fun hne => h (hq k hne)
    rw [this]
    exact ⟨fun x hx => absurd hx List.not_mem_nil, .nil⟩

theorem witness_busy_orders : busy.OrdersApart := by
  have hm : ∀ i : Ix, ∀ o ∈ (busy.member i).order, o.oid < 1 ∧ o.outcome = .owed := by decide +kernel
  have hb : ∀ k : SegNo, ∀ y ∈ (busy.segment k).queue, y.body = .query ∨ y.body = .order 0 ⟨12, 6, 900, 0, 5000, .step⟩ := by
    decide +kernel
  have hf : ∀ k : SegNo, (busy.segment k).inFlight = none := by decide +kernel
  refine ⟨fun i o h => (hm i o h).1, fun k y hy oid p h => ?_, fun k x oid p h => ?_⟩
  · rcases hb k y hy with hy | hy <;> rw [hy] at h <;> cases h
    exact ⟨by decide, fun o ho _ => by rw [(hm y.target o ho).2]; decide⟩
  · rw [hf k] at h
    cases h

theorem witness_busy_none_idle : busy.NoneIdle := noneIdle_of (by decide +kernel)

theorem witness_busy_clock : busy.ClockInRange := by unfold State.ClockInRange; decide +kernel

theorem witness_busy_groups : busy.GroupsSound := by unfold State.GroupsSound Group.Sound; decide +kernel

theorem witness_busy_queues : busy.QueuesInOrder := by unfold State.QueuesInOrder; decide +kernel

theorem witness_busy_polls : busy.PollsSound := by
  refine ⟨fun i p h => ?_, ?_⟩
  · have hs : ∀ j : Ix, ∀ q ∈ busy.poll j, (q.backlog ≤ 15 ∧ (q.overdue = true → 8 ≤ q.backlog)
        ∧ (12 ≤ q.backlog → q.overdue = true)) := by decide +kernel
    exact hs i p h
  · decide +kernel

theorem witness_busy_ports : busy.PortsInRange := by
  intro p
  unfold PortState.InRange PortCounters.InRange
  cases p <;> decide +kernel

theorem witness_busy_commit : busy.CommitSound := by unfold State.CommitSound; decide +kernel

/-- Every image of a state with a good image is in form. -/
def imaged : State :=
  { quiet with stored := goodTables, cfs := { quiet.cfs with image := .held [1, 2] (crc16 [1, 2]) goodTables } }

theorem imaged_every {P : Stored → Prop} (h : P goodTables) : imaged.EveryImage P := by
  refine ⟨h, fun _ => h, fun c hc => ?_⟩
  have hn : imaged.cfs.commit = none := rfl
  rw [hn] at hc
  cases hc

theorem witness_images :
    imaged.EveryImage Stored.ParamsInRange ∧ imaged.EveryImage Stored.OffsetsBelowCycle
      ∧ imaged.EveryImage Stored.MapsUnique ∧ imaged.EveryImage Stored.TimetableInOrder := by
  refine ⟨imaged_every ?_, imaged_every ?_, imaged_every witness_start_up_maps, imaged_every ?_⟩
  · unfold Stored.ParamsInRange Params.InRange SegParams.InRange; decide +kernel
  · intro j
    by_cases hj : j = 11
    · subst hj
      have hp : vget goodTables.plans 11 = some ⟨900, 6, .shortway⟩ := by decide +kernel
      rw [hp]
      refine ⟨by unfold Plan.InRange; decide, by decide +kernel⟩
    · have hn : ∀ j : Fin 48, j ≠ 11 → vget goodTables.plans j = none := by decide +kernel
      rw [hn j hj]
      have hz : ∀ j : Fin 48, j ≠ 11 → ∀ i : Ix, vget (vget goodTables.offsets j) i = 0 := by decide +kernel
      exact hz j hj
  · refine ⟨by decide +kernel, by decide +kernel, by decide +kernel, ?_, by decide +kernel, by decide +kernel⟩
    intro x hx
    have : x = ⟨1, .centre, .dated 3 none, 1, 0, 0, 0, 0⟩ := by simpa [goodTables] using hx
    subst this
    exact ⟨rfl, trivial⟩

end Sys2Proof.Tests
end

section
/-! SUPPORT. Notices that one event offers, all at once (`State.told`); when nothing can start to move; and how a served request and an
event of the part end when they change no segment. -/

namespace Sys2Proof.Machine

/-! ### Notices offered together -/

/-- The state after notices have been offered one after another, before any transmitter begins (R176). -/
def State.told (s : State) (ns : List Notice) : State :=
  if s.phase = .running then
    { s with ports := ⟨s.ports.centre.copies ns, s.ports.event.copies ns, s.ports.cabinet.copies ns⟩ }
  else s

theorem State.offer_eq_told (s : State) (b : NoticeBody) : s.offer b = s.told [⟨s.tref.e, b⟩] := rfl

@[simp] theorem State.told_nil (s : State) : s.told [] = s := by
  unfold State.told
  split <;> rfl

theorem State.told_running {s : State} (h : s.phase = .running) (ns : List Notice) :
    s.told ns
      = { s with ports := ⟨s.ports.centre.copies ns, s.ports.event.copies ns, s.ports.cabinet.copies ns⟩ } := if_pos h

theorem State.told_not_running {s : State} (h : s.phase ≠ .running) (ns : List Notice) : s.told ns = s := if_neg h

@[simp] theorem State.told_phase (s : State) (ns : List Notice) : (s.told ns).phase = s.phase := by
  unfold State.told
  split <;> rfl

/-- Offering notices changes nothing but ports. -/
theorem State.told_eq (s : State) (ns : List Notice) : s.told ns = { s with ports := (s.told ns).ports } := by
  unfold State.told
  split <;> rfl

theorem State.told_told (s : State) (a b : List Notice) : (s.told a).told b = s.told (a ++ b) := by
  by_cases h : s.phase = .running
  · rw [State.told_running (s := s.told a) (by simpa using h), State.told_running h, State.told_running h]
    simp [PortState.copies]
  · rw [State.told_not_running h, State.told_not_running h, State.told_not_running h]

/-! ### When nothing can start to move -/

theorem State.owedPolls_congr {s u : State} (hp : u.polls = s.polls) (hm : u.stored.maps = s.stored.maps) (k : SegNo) :
    u.owedPolls k = s.owedPolls k := by
  have hd : u.atDrop k = s.atDrop k := by
    funext d
    unfold State.atDrop State.place
    rw [hm]
  simp only [State.owedPolls, State.mappedTo, State.poll, hp, hd]

/-- Whether a segment can start to move depends on the segments, the poll states and the maps alone. -/
theorem State.Quiet.congr {s u : State} (h : s.Quiet) (hs : u.segments = s.segments) (hp : u.polls = s.polls)
    (hm : u.stored.maps = s.stored.maps) : u.Quiet := by
  intro k hk
  have hseg : u.segment k = s.segment k := by simp only [State.segment, hs]
  rw [State.arbiter_none, hseg, State.owedPolls_congr hp hm, ← State.arbiter_none]
  rw [hseg] at hk
  exact h k hk

/-- An event that starts no segment ends with its notices at the ports. -/
theorem State.settle_told {u : State} (hq : u.Quiet) (hp : u.pump = u) (ns : List Notice) :
    (u.told ns).settle = { u with ports := u.announced ns } := by
  have hq' : (u.told ns).Quiet := by
    rw [u.told_eq ns]
    exact hq
  rw [State.settle_quiet hq']
  by_cases h : u.phase = .running
  · rw [State.told_running h, State.announced, if_pos h]
    rfl
  · rw [State.told_not_running h, State.announced, if_neg h, hp]

/-- A served request whose block leaves `u` with notices: nothing but ports differs from `u`. -/
theorem State.request_told {α : Type} {s u : State} {f : RequestFrame} {rq : Request} {a : α}
    {block : α → State → State × Answer} {ns : List Notice} {st : Status} {items : List Item} (h : s.Serves f)
    (hr : rq.allowed f.port = true) (hq : u.Quiet) (hu : u.phase = s.phase) (hports : u.ports = s.ports)
    (hc : u.crystal = s.crystal)
    (hb : block a (s.handedOver f rq) = ((u.handedOver f rq).told ns, (st, items))) :
    (s.request f rq (some a) (answering block)).settle = u.answered f rq ns st items := by
  have hrun : (u.handedOver f rq).phase = .running := hu.trans h.1
  have hfr : u.handedOver f rq = { u with ports := (s.handedOver f rq).ports } := by
    simp only [State.handedOver, State.modPort, State.setPort, State.port, hports, hc]
  rw [State.request_answered (ns := ns) h hr hb]
  · rw [State.told_running hrun, hfr]
    simp only [State.answered, State.servedPort, hfr, State.port]
  · rw [State.told_running hrun, hfr]
    exact hq
  · intro p
    rw [State.told_running hrun, hfr]
    cases p <;> rfl

end Sys2Proof.Machine
end

section
namespace Sys2Proof.Machine

theorem State.segment_reset (k : SegNo) : State.reset.segment k = Segment.initial := by
  simp [State.segment, State.reset, vget]

theorem State.member_reset (i : Ix) : State.reset.member i = Member.initial := by
  simp [State.member, State.reset, vget]

theorem State.group_reset (g : GroupNo) : State.reset.group g = Group.initial := by
  simp [State.group, State.reset, vget]

theorem State.poll_reset (i : Ix) : State.reset.poll i = none := by simp [State.poll, State.reset, vget]

theorem State.port_reset (p : Port) : State.reset.port p = PortState.initial := by cases p <;> rfl

/-- A property of the empty tables is one of every image of the part right after power-on: its image is blank. -/
theorem State.everyImage_reset {P : Stored → Prop} (h : P Stored.empty) : State.reset.EveryImage P :=
  ⟨h, fun hg => absurd hg (by decide), fun c hc => by cases hc⟩

theorem Stored.paramsInRange_empty : Stored.empty.ParamsInRange := by
  refine ⟨by unfold Params.InRange; decide, fun k => ?_⟩
  have hk : vget Stored.empty.segParams k = SegParams.default := by simp [Stored.empty, vget]
  rw [hk]
  unfold SegParams.InRange
  decide

theorem Stored.offsetsBelowCycle_empty : Stored.empty.OffsetsBelowCycle := by
  intro j
  have hj : vget Stored.empty.plans j = none := by simp [Stored.empty, vget]
  rw [hj]
  intro i
  simp [Stored.empty, vget]

theorem Stored.mapsUnique_empty : Stored.empty.MapsUnique := by
  intro i j pl hi
  simp [Stored.empty, vget] at hi

theorem Stored.timetableInOrder_empty : Stored.empty.TimetableInOrder := by
  unfold Stored.TimetableInOrder
  simp [Stored.empty, Stored.entryCount]

theorem Group.sound_initial : Group.initial.Sound := by simp [Group.Sound, Group.initial]

theorem PortState.inRange_initial : PortState.initial.InRange := by
  unfold PortState.InRange PortCounters.InRange
  decide

theorem State.noneIdle_reset : State.reset.NoneIdle := by
  refine ⟨fun k hk => ?_, fun p => ?_⟩
  · rw [State.segment_reset] at hk
    exact absurd hk (by decide)
  · rw [State.port_reset]
    rfl

end Sys2Proof.Machine

section
open Sys2Proof Sys2Proof.Machine

/-- Settles O4: nothing is under way, mapped, stored or queued in the state after power-on. -/
theorem resetStateMeetsTheInvariants : Obligations.ResetStateMeetsTheInvariants := by
  unfold Obligations.ResetStateMeetsTheInvariants
  refine ⟨State.noneIdle_reset, by unfold State.ClockInRange; decide, State.everyImage_reset Stored.paramsInRange_empty,
    State.everyImage_reset Stored.offsetsBelowCycle_empty, State.everyImage_reset Stored.mapsUnique_empty,
    State.everyImage_reset Stored.timetableInOrder_empty, nofun, ?_, ?_, ?_, ?_, ?_, ?_, ?_, ?_, ?_⟩
  case refine_1 => intro g; rw [State.group_reset]; exact Group.sound_initial
  case refine_2 => intro k; rw [State.segment_reset]; exact .nil
  case refine_3 => exact ⟨fun i p h => by simp [State.poll_reset] at h, nofun⟩
  case refine_4 => intro p; rw [State.port_reset]; exact PortState.inRange_initial
  case refine_5 =>
    refine fun _ => ⟨rfl, fun g => ?_, fun i => ?_, fun k => ?_⟩
    · rw [State.group_reset]; rfl
    · rw [State.member_reset]; exact ⟨rfl, rfl⟩
    · rw [State.segment_reset]; exact ⟨rfl, rfl, rfl⟩
  case refine_6 => intro i; rw [State.member_reset]; exact ⟨nofun, nofun, nofun⟩
  case refine_7 => intro g hg; rw [State.group_reset] at hg; cases hg
  case refine_8 => intro k; rw [State.segment_reset]; exact ⟨nofun, .nil⟩
  case refine_9 =>
    refine ⟨fun i o h => ?_, fun k y hy => ?_, fun k x oid p h => ?_⟩
    · rw [State.member_reset] at h; cases h
    · rw [State.segment_reset] at hy; cases hy
    · rw [State.segment_reset] at h; cases h

/-- Settles O5: POWER_ON puts the state after power-on in place, beside the store's image and count cell and the contact. -/
theorem powerOnGivesTheResetState : Obligations.PowerOnGivesTheResetState := by
  unfold Obligations.PowerOnGivesTheResetState
  intro s
  refine ⟨s.poweredOn, rfl, ?_⟩
  have live : s.poweredOn = { State.reset with
      pending := s.pending, contactClosed := s.contactClosed, freeUses := s.freeUses
      phase := if s.contactClosed then .held .powerOn else .loading 0
      cfs := { State.reset.cfs with image := s.cfs.image, countCell := s.cfs.countCell } } := by
    unfold State.poweredOn
    split <;> simp_all [State.reset]
  rw [live]
  exact ⟨rfl, rfl, State.group_reset, State.member_reset, State.segment_reset, State.poll_reset, State.port_reset,
    rfl, rfl, rfl, rfl, rfl, rfl⟩

end
end

section
namespace Sys2Proof.Machine

/-! ### The part's own clock -/

/-- When events are due, one of them is picked. -/
theorem pickEvent_mem {l : List Instr} (h : l ≠ []) (n : Nat) : ∃ ev ∈ l, pickEvent l n = some ev := by
  match l, h with
  | [a], _ => exact ⟨a, by simp, rfl⟩
  | a :: b :: rest, _ =>
    have hlt : Config.choice n % ((b :: rest).length + 1) < (a :: b :: rest).length := Nat.mod_lt _ (by simp)
    exact ⟨_, List.getElem_mem hlt, List.getElem?_eq_getElem hlt⟩

theorem pickEvent_nil (n : Nat) : pickEvent [] n = none := rfl

/-- With nothing due, the next ms is that of the slew, else that of the end of the count, else a plain one. -/
theorem State.idle_of_none_due {s : State} (h : s.dueEvents = []) :
    s.idle
      = if s.slewDue then { s with pending := [.slewAdjustment] }
        else if s.countEndDue then { s with pending := [.epochCountEnd] } else s.tick := by
  rw [State.idle, h, pickEvent_nil]

theorem State.minuteOwed_of_none_due {s : State} (h : s.dueEvents = []) : s.tref.minuteOwed = false := by
  cases hm : s.tref.minuteOwed
  · rfl
  · simp [State.dueEvents, dueIf, hm] at h

theorem State.dsEnds_iff (s : State) : s.dsEnds = true ↔ (s.crystal + 1) % 100 = 0 := by simp [State.dsEnds]

theorem State.slewDue_iff (s : State) :
    s.slewDue = true
      ↔ s.tref.slew ≠ 0 ∧ (s.crystal + 1) % 100 = 0 ∧ s.tref.slewStart + 100 ≤ (s.crystal + 1) / 100 := by
  simp [State.slewDue, State.dsEnds_iff, and_assoc]

theorem State.countEndDue_iff (s : State) :
    s.countEndDue = true ↔ (s.crystal + 1) % 100 = 0 ∧ s.tref.e + 1 = 56623103999 ∧ s.slewDue = false := by
  simp [State.countEndDue, State.dsEnds_iff, Config.lastE, and_assoc]

/-- One ds reaches a multiple of 600 exactly when E moves onto it. -/
theorem minute_crossed_iff (e : Nat) :
    e / 600 < min 56623103999 (e + 1) / 600 ↔ e < 56623103999 ∧ (e + 1) % 600 = 0 := by omega

/-- A plain ms of crystal time (R1, R3). -/
theorem State.tick_eq {s : State} (h : s.tref.minuteOwed = false) :
    s.tick = { s with
      crystal := s.crystal + 1
      tref :=
        if (s.crystal + 1) % 100 = 0 then
          { s.tref with
            e := min 56623103999 (s.tref.e + 1)
            minuteOwed := decide (s.tref.e < 56623103999 ∧ (s.tref.e + 1) % 600 = 0) }
        else s.tref } := by
  unfold State.tick
  simp only [State.dsEnds_iff]
  split
  · simp only [Tref.advance, Config.lastE, h, Bool.false_or, minute_crossed_iff]
  · rfl

/-! ### The cabinet reset -/

/-- A cabinet reset gives live state its reset values, wherever the part then stands (R180). -/
theorem State.resetFrom_cabinetReset (s : State) (phase : RunPhase) (closed : Bool) (cause : StartCause) :
    s.ResetFrom { s.cabinetReset with
      phase := phase, contactClosed := closed, cfs := { s.cabinetReset.cfs with cause := cause } } := by
  refine ⟨rfl, rfl, rfl, rfl, ?_, rfl, rfl, rfl, rfl, rfl, rfl, ?_, ?_, ?_, ?_, ?_, rfl, rfl, rfl⟩
  · simp only [State.cabinetReset, Tref.cabinetReset, State.crystalDs]
    cases s.tref.state <;> simp
  · simp [State.group, State.cabinetReset, vget]
  · simp [State.member, State.cabinetReset, vget]
  · simp [State.segment, State.cabinetReset, vget]
  · simp [State.poll, State.place, State.cabinetReset, vget, stoppedPoll]
  · intro p
    cases p <;> rfl

end Sys2Proof.Machine

section
open Sys2Proof Sys2Proof.Machine

/-- Settles O2: an event that is due is picked; else the next ms is one of the two commands that are ms, or a plain one. -/
theorem idlePartRunsItsClock : Obligations.IdlePartRunsItsClock := by
  unfold Obligations.IdlePartRunsItsClock
  intro s hp
  have hstep : step s = .next s.idle := by rw [step, hp]
  rw [hstep]
  refine ⟨fun hd => ?_, fun hd hs hc => ?_, fun hd hds => ⟨fun hs => ?_, fun hs he => ?_⟩⟩
  · obtain ⟨ev, hev, hpick⟩ := pickEvent_mem hd s.freeUses
    exact ⟨ev, hev, by rw [State.idle, hpick]⟩
  · rw [State.idle_of_none_due hd, hs, hc, ← State.tick_eq (State.minuteOwed_of_none_due hd)]
    rfl
  · have hslew : s.slewDue = true := s.slewDue_iff.mpr ⟨hs.1, hds, hs.2⟩
    rw [State.idle_of_none_due hd, hslew]
    rfl
  · have hslew : s.slewDue = false := Bool.eq_false_iff.mpr fun h => hs ⟨(s.slewDue_iff.mp h).1, (s.slewDue_iff.mp h).2.2⟩
    have hend : s.countEndDue = true := s.countEndDue_iff.mpr ⟨hds, by rw [he], hslew⟩
    rw [State.idle_of_none_due hd, hslew, hend]
    rfl

/-- Settles O6: the three commands that take a cabinet reset leave the same live state, held or loading. -/
theorem cabinetResetIsTakenFromLineAndRequest : Obligations.CabinetResetIsTakenFromLineAndRequest := by
  unfold Obligations.CabinetResetIsTakenFromLineAndRequest
  refine ⟨fun s hc => ?_, fun s cause hc hp => ?_, fun s v r hv hreset htx => ?_⟩
  · refine ⟨{ s.cabinetReset with contactClosed := true, phase := .held .resetLine }, ?_, ?_, rfl, rfl⟩
    · simp [exec, execResetLineClose, hc]
    · exact s.resetFrom_cabinetReset (.held .resetLine) true s.cfs.cause
  · simp [exec, execResetLineOpen, State.openContact, State.beginStartUp, hc, hp]
  · have hleaving : s.resetReplyLeaving = true := by simp [State.resetReplyLeaving, hv, hreset, htx]
    have hsending : (s.port .cabinet).tx.isNone = false := by simp [State.port, PerPort.get, htx]
    refine ⟨s.requestedReset, ?_, ?_, ?_, rfl, rfl⟩
    · simp [exec, execResetRequestTaken, hleaving]
    · simp [exec, execTransmitEnd, hsending, hleaving]
    · exact s.resetFrom_cabinetReset (.loading s.crystal) s.contactClosed .resetRequest

end
end

section
namespace Sys2Proof.Machine

/-! ### TREF: locking, steps and timers -/

/-- TREF goes to LOCKED, with a notice when it was not (R10, R12, R17). -/
theorem State.lock_eq (s : State) (cause : TimeCause) :
    s.lock cause
      = State.told { s with tref := { s.tref with state := .locked, timerStart := some (s.crystal / 100) } }
          (if s.tref.state = .locked then [] else [⟨s.tref.e, .timeState .locked s.tref.state cause⟩]) := by
  unfold State.lock
  simp only [State.offer_eq_told]
  split
  · rw [State.told_nil]
    rfl
  · rfl

/-- An accepted mark is counted and recorded, and locks TREF (R10). -/
theorem State.acceptMark_eq (s : State) :
    s.acceptMark
      = State.told { s with tref := { s.tref with
            state := .locked, timerStart := some (s.crystal / 100), accepted := min 65535 (s.tref.accepted + 1)
            lastMark := some ⟨s.tref.e, s.crystal / 100⟩ } }
          (if s.tref.state = .locked then [] else [⟨s.tref.e, .timeState .locked s.tref.state .mark⟩]) := by
  rw [State.acceptMark, State.lock_eq]
  rfl

theorem Member.resyncStep_eq :
    Member.resyncStep = fun m => if m.state = .correcting ∨ m.state = .inStep then { m with resync := true } else m := by
  funext m
  unfold Member.resyncStep
  cases m.state <;> simp [MemberState.inTransition]

/-- A step sets the re-sync flags and triggers one evaluation of all groups (R13, R14). -/
theorem State.stepped_eq (s : State) :
    s.stepped = { s with
      members := s.members.map fun m => if m.state = .correcting ∨ m.state = .inStep then { m with resync := true } else m
      owed := s.owed ++ [⟨everyGroup⟩] } := by
  rw [State.stepped, Member.resyncStep_eq]
  rfl

theorem State.stepped_told (s : State) (ns : List Notice) : (s.told ns).stepped = s.stepped.told ns := by
  by_cases h : s.phase = .running
  · rw [State.told_running h, State.told_running (s := s.stepped) h]
    rfl
  · rw [State.told_not_running h, State.told_not_running (s := s.stepped) h]

theorem State.owe_told (s : State) (ns : List Notice) (g : GroupSet) : (s.told ns).owe g = (s.owe g).told ns := by
  by_cases h : s.phase = .running
  · rw [State.told_running h, State.told_running (s := s.owe g) h]
    rfl
  · rw [State.told_not_running h, State.told_not_running (s := s.owe g) h]

/-- The value names a day beyond the last one of the epoch (Table 1-3). -/
theorem beyondEpoch_iff (v : Nat) : Config.days ≤ v / Config.dayDs ↔ 56623104000 ≤ v := by
  simp only [Config.days, Config.dayDs]
  omega

end Sys2Proof.Machine

section
open Sys2Proof Sys2Proof.Machine

/-- Settles O8: the block reads TREF and changes nothing. -/
theorem readTimeReportsTref : Obligations.ReadTimeReportsTref := by
  unfold Obligations.ReadTimeReportsTref
  intro s f hs hn hf
  have hr : Request.readTime.allowed f.port = true := by cases f.port <;> rfl
  have key := State.request_told (u := s) (ns := []) hs hr hn.quiet rfl rfl rfl
    (show readTimeBlock () (s.handedOver f .readTime)
        = ((s.handedOver f .readTime).told [], (.ok, (s.handedOver f .readTime).timeItems)) by
      rw [State.told_nil]; rfl)
  simp only [exec, execReadTime, hf, parseNothing, key]
  congr 2
  simp only [State.timeItems, State.handedOver, State.modPort_tref, weekday, Config.dayDs, optItem, State.crystalDs,
    State.modPort_crystal]
  cases s.tref.lastMark <;> cases s.tref.timerStart <;> rfl

/-- Settles O10: the block sets E, then locks, then steps. -/
theorem setTimeSetsAndLocks : Obligations.SetTimeSetsAndLocks := by
  unfold Obligations.SetTimeSetsAndLocks
  intro s f v hs hn hport hv
  have hr : Request.setTime.allowed f.port = true := decide_eq_true hport
  simp only [exec, execSetTime, hv]
  refine ⟨fun h => ?_, fun h => ?_⟩
  · rw [State.request_told (u := s) (ns := []) (st := .badArg) (items := []) hs hr hn.quiet rfl rfl rfl]
    rw [setTimeBlock, if_pos ((beyondEpoch_iff v).mpr h), State.told_nil]
    rfl
  · refine congrArg Host.Outcome.next (State.request_told hs hr (hn.quiet.congr rfl rfl rfl) rfl rfl rfl ?_)
    have hb : ¬ Config.days ≤ v / Config.dayDs := fun hle => by
      have := (beyondEpoch_iff v).mp hle
      omega
    rw [setTimeBlock, if_neg hb, State.lock_eq, State.stepped_told, State.stepped_eq]
    rfl

end
end

section
namespace Sys2Proof.Machine

/-! ### Table 2-4 -/

/-- The last accepted mark lies `d` ds back, which is too near for a further mark (R9). -/
def State.EarlyBy (s : State) (d : Nat) : Prop :=
  ∃ m, s.tref.lastMark = some m ∧ s.crystal / 100 - m.crystalDs = d ∧ d < 5 * s.stored.params.markPeriod

theorem State.judgeMark_beyondEpoch {s : State} {ec : Nat} (h : 56623104000 ≤ ec) : s.judgeMark ec = .beyondEpoch := by
  have hb := (beyondEpoch_iff ec).mpr h
  simp only [State.judgeMark, hb, if_true]

section
variable {s : State} {ec : Nat} (h : ec < 56623104000)
include h

theorem withinEpoch : ¬ Config.days ≤ ec / Config.dayDs := fun hle => by
  have := (beyondEpoch_iff ec).mp hle
  omega

theorem State.judgeMark_set (hu : s.tref.state = .unset) : s.judgeMark ec = .accepted .set := by
  simp only [State.judgeMark, if_neg (withinEpoch h), hu, if_true]

theorem State.judgeMark_early (hu : s.tref.state ≠ .unset) {d : Nat} (he : s.EarlyBy d) : s.judgeMark ec = .early d := by
  obtain ⟨m, hm, rfl, hd⟩ := he
  have hf : (s.tref.lastMark.map fun m => s.crystalDs - m.crystalDs).filter
      (fun t => t < 5 * s.stored.params.markPeriod) = some (s.crystal / 100 - m.crystalDs) := by
    rw [hm]
    exact Option.filter_some_pos (decide_eq_true hd)
  simp only [State.judgeMark, if_neg (withinEpoch h), if_neg hu, hf]

/-- With no mark too near, Δ alone decides. -/
theorem State.judgeMark_late (hu : s.tref.state ≠ .unset) (he : ∀ d, ¬ s.EarlyBy d) :
    s.judgeMark ec
      = if 36000 < ((ec : Int) - s.tref.e).natAbs then .range
        else if ((ec : Int) - s.tref.e).natAbs ≤ 20 then .accepted .slewed else .accepted .stepped := by
  have hf : (s.tref.lastMark.map fun m => s.crystalDs - m.crystalDs).filter
      (fun t => t < 5 * s.stored.params.markPeriod) = none := by
    rw [Option.filter_eq_none_iff]
    intro d hd
    obtain ⟨m, hm, rfl⟩ := Option.map_eq_some_iff.mp hd
    exact fun hlt => he _ ⟨m, hm, rfl, of_decide_eq_true hlt⟩
  simp only [State.judgeMark, if_neg (withinEpoch h), if_neg hu, hf]
  rfl

end

/-- An accepted mark that is a step: E takes its value, TREF locks, and the step's effects follow (R10, R13). -/
theorem markBlock_set {s : State} {ec : Nat} (h : s.judgeMark ec = .accepted .set) :
    markBlock ec s
      = (({ s with tref := { s.tref with e := ec } }.acceptMark).stepped,
          (.ok, [.n1 0, .delta ((ec : Int) - s.tref.e)])) := by
  simp only [markBlock, h]
  rfl

theorem markBlock_stepped {s : State} {ec : Nat} (h : s.judgeMark ec = .accepted .stepped) :
    markBlock ec s
      = (({ s with tref := { s.tref with e := ec, slew := 0 } }.acceptMark).stepped,
          (.ok, [.n1 2, .delta ((ec : Int) - s.tref.e)])) := by
  simp only [markBlock, h]
  rfl

/-- An accepted mark that is slewed: E stays, and Δ becomes the slew remaining (R11, R15). -/
theorem markBlock_slewed {s : State} {ec : Nat} (h : s.judgeMark ec = .accepted .slewed) :
    markBlock ec s
      = (if s.tref.state = .untimed then
            ({ s with tref := { s.tref with slew := (ec : Int) - s.tref.e, slewStart := s.crystal / 100 } }.acceptMark).owe
              everyGroup
          else { s with tref := { s.tref with slew := (ec : Int) - s.tref.e, slewStart := s.crystal / 100 } }.acceptMark,
          (.ok, [.n1 1, .delta ((ec : Int) - s.tref.e)])) := by
  simp only [markBlock, h]
  rfl

end Sys2Proof.Machine

section
open Sys2Proof Sys2Proof.Machine

/-- Settles O9: the judgement of Table 2-4 names the outcome, and the block of each outcome is a lock, a step or a counter. -/
theorem markIsJudgedByItsTable : Obligations.MarkIsJudgedByItsTable := by
  unfold Obligations.MarkIsJudgedByItsTable
  intro s f ec hs hn hport hp delta now early locked note synced
  have hr : Request.mark.allowed f.port = true := decide_eq_true hport
  simp only [exec, execMark, hp]
  have judged {u : State} {ns : List Notice} {st : Status} {items : List Item} (hq : u.Quiet) (hph : u.phase = s.phase)
      (hpo : u.ports = s.ports) (hc : u.crystal = s.crystal)
      (hb : markBlock ec (s.handedOver f .mark) = ((u.handedOver f .mark).told ns, (st, items))) :
      Host.Outcome.next (ρ := Refusal) (φ := Fault) (s.request f .mark (some ec) (answering markBlock)).settle
        = .next (u.answered f .mark ns st items) :=
    congrArg Host.Outcome.next (State.request_told hs hr hq hph hpo hc hb)
  have hj : (s.handedOver f .mark).judgeMark ec = s.judgeMark ec := rfl
  refine ⟨fun h => judged (hn.quiet.congr rfl rfl rfl) rfl rfl rfl ?_,
    fun h hu => judged (hn.quiet.congr rfl rfl rfl) rfl rfl rfl ?_,
    fun d h hu he => judged (hn.quiet.congr rfl rfl rfl) rfl rfl rfl ?_,
    fun h hu he hd => judged (hn.quiet.congr rfl rfl rfl) rfl rfl rfl ?_,
    fun h hu he hd => judged (hn.quiet.congr rfl rfl rfl) rfl rfl rfl ?_,
    fun h hu he hd hd' => judged (hn.quiet.congr rfl rfl rfl) rfl rfl rfl ?_⟩
  · rw [State.told_nil, markBlock, hj, State.judgeMark_beyondEpoch h]
    rfl
  · rw [markBlock_set (hj.trans (State.judgeMark_set h hu)), State.acceptMark_eq, State.stepped_told, State.stepped_eq]
    rfl
  · rw [State.told_nil, markBlock, hj, State.judgeMark_early h hu he]
    rfl
  · have hcase : s.judgeMark ec = .range := by rw [State.judgeMark_late h hu he, if_pos hd]
    rw [State.told_nil, markBlock, hj, hcase]
    rfl
  · have hcase : s.judgeMark ec = .accepted .slewed := by
      rw [State.judgeMark_late h hu he, if_neg (by omega), if_pos hd]
    rw [markBlock_slewed (hj.trans hcase), State.acceptMark_eq, State.owe_told]
    have hst : (s.handedOver f .mark).tref.state = s.tref.state := rfl
    by_cases huu : s.tref.state = .untimed
    · rw [hst, if_pos huu, if_pos huu]
      rfl
    · rw [hst, if_neg huu, if_neg huu]
      rfl
  · have hcase : s.judgeMark ec = .accepted .stepped := by
      rw [State.judgeMark_late h hu he, if_neg (by omega), if_neg (by omega)]
    rw [markBlock_stepped (hj.trans hcase), State.acceptMark_eq, State.stepped_told, State.stepped_eq]
    rfl

end
end

section
namespace Sys2Proof.Machine

/-! ### Events that change no segment -/

/-- No transmitter can begin a frame while the ports are those of a state in which nothing idles. -/
theorem State.NoneIdle.pump_congr {s u : State} (h : s.NoneIdle) (hp : u.ports = s.ports) : u.pump = u := by
  have hs : s.pump.ports = s.ports := by rw [h.pump_eq]
  have hu : u.pump = { u with ports := s.pump.ports } := by
    simp only [State.pump, hp]
  rw [hu, hs, ← hp]

/-- An event that leaves segments, poll states, maps and ports alone ends as it is. -/
theorem State.NoneIdle.settle_congr {s u : State} (h : s.NoneIdle) (hs : u.segments = s.segments) (hp : u.polls = s.polls)
    (hm : u.stored.maps = s.stored.maps) (hports : u.ports = s.ports) : u.settle = u := by
  rw [State.settle_quiet (h.quiet.congr hs hp hm), h.pump_congr hports]

/-- An event that leaves segments, poll states, maps and ports alone ends with its notices at the ports. -/
theorem State.NoneIdle.settle_told_congr {s u : State} (h : s.NoneIdle) (hs : u.segments = s.segments)
    (hp : u.polls = s.polls) (hm : u.stored.maps = s.stored.maps) (hports : u.ports = s.ports) (ns : List Notice) :
    (u.told ns).settle = { u with ports := u.announced ns } :=
  State.settle_told (h.quiet.congr hs hp hm) (h.pump_congr hports) ns

/-! ### The timers (R5 to R7) -/

theorem State.due2P_iff (s : State) :
    s.due2P = true
      ↔ s.tref.state = .locked
        ∧ ∃ a, s.tref.timerStart = some a ∧ a + 20 * s.stored.params.markPeriod ≤ s.crystal / 100 := by
  unfold State.due2P State.crystalDs
  cases s.tref.timerStart <;> simp

theorem State.dueH_iff (s : State) :
    s.dueH = true
      ↔ (s.tref.state = .locked ∨ s.tref.state = .holdover)
        ∧ ∃ a, s.tref.timerStart = some a ∧ a + 36000 * s.stored.params.holdover ≤ s.crystal / 100 := by
  unfold State.dueH State.crystalDs
  cases s.tref.timerStart <;> simp

theorem State.expire2P_due {s : State} (h : s.due2P = true) :
    s.expire2P = State.told { s with tref := { s.tref with state := .holdover } }
      [⟨s.tref.e, .timeState .holdover .locked .timer⟩] := by
  rw [State.expire2P, if_pos h, State.offer_eq_told, ((s.due2P_iff).mp h).1]

theorem State.expire2P_not_due {s : State} (h : s.due2P = false) : s.expire2P = s := by simp [State.expire2P, h]

theorem State.expireH_due {s : State} (h : s.dueH = true) :
    s.expireH = State.told { s with tref := { s.tref with state := .untimed, timerStart := none } }
      [⟨s.tref.e, .timeState .untimed s.tref.state .timer⟩] := by
  rw [State.expireH, if_pos h, State.offer_eq_told]

theorem State.expireH_not_due {s : State} (h : s.dueH = false) : s.expireH = s := by simp [State.expireH, h]

/-! ### The slew and the end of the count (R1, R11) -/

/-- E stands still for a ds while a negative slew is taken up. -/
theorem Tref.advance_zero {t : Tref} (h : t.e ≤ 56623103999) : t.advance 0 = t := by
  have he : min Config.lastE t.e = t.e := Nat.min_eq_right h
  simp [Tref.advance, he]

/-- The ds that ends the count raises no minute boundary: the last value of E is no multiple of 600. -/
theorem Tref.advance_to_end {t : Tref} (h : t.e = 56623103998) : t.advance 1 = { t with e := 56623103999 } := by
  simp [Tref.advance, Config.lastE, h]

end Sys2Proof.Machine

section
open Sys2Proof Sys2Proof.Machine

/-- Settles O11: each of the four events, guarded by its own instant, updates TREF alone and offers at most one notice. -/
theorem timersSlewAndCountEndRunTheClock : Obligations.TimersSlewAndCountEndRunTheClock := by
  unfold Obligations.TimersSlewAndCountEndRunTheClock
  intro s hn
  refine ⟨fun a hst ha hd => ?_, fun a hst ha hd => ?_, fun hst => ?_, fun hst => ?_, fun he hds => ⟨fun hs hp => ?_,
    fun hs hneg => ?_, fun hz he => ?_⟩⟩
  · have hdue : s.due2P = true := s.due2P_iff.mpr ⟨hst, a, ha, hd⟩
    simp only [exec, execTimer2pExpiry, hdue, if_true, State.expire2P_due hdue]
    rw [hn.settle_told_congr] <;> rfl
  · have hdue : s.dueH = true := s.dueH_iff.mpr ⟨hst, a, ha, hd⟩
    simp only [exec, execTimerHExpiry, hdue, if_true, State.expireH_due hdue]
    rw [hn.settle_told_congr] <;> rfl
  · have hdue : ¬ s.due2P = true := fun h => hst (s.due2P_iff.mp h).1
    simp only [exec, execTimer2pExpiry, if_neg hdue]
  · have hdue : ¬ s.dueH = true := fun h => by
      rcases (s.dueH_iff.mp h).1 with h | h <;> simp [h] at hst
    simp only [exec, execTimerHExpiry, if_neg hdue]
  · have hdue : s.slewDue = true := s.slewDue_iff.mpr ⟨by omega, hds, hs⟩
    simp only [exec, execSlewAdjustment, hdue, if_true, State.slewDs, hp, slewAfter]
    rw [hn.settle_congr] <;> rfl
  · have hdue : s.slewDue = true := s.slewDue_iff.mpr ⟨by omega, hds, hs⟩
    have hnp : ¬ 0 < s.tref.slew := by omega
    simp only [exec, execSlewAdjustment, hdue, if_true, State.slewDs, if_neg hnp, slewAfter, Tref.advance_zero he]
    rw [hn.settle_congr] <;> rfl
  · have hslew : s.slewDue = false := Bool.eq_false_iff.mpr fun h => (s.slewDue_iff.mp h).1 hz
    have hdue : s.countEndDue = true := s.countEndDue_iff.mpr ⟨hds, by rw [he], hslew⟩
    simp only [exec, execEpochCountEnd, hdue, if_true, Tref.advance_to_end he]
    rw [hn.settle_congr] <;> rfl

end
end

section
namespace Sys2Proof.Machine

/-! ### Tables given entry by entry -/

theorem vget_ext {α : Type} {n : Nat} {v w : Vector α n} (h : ∀ i, vget v i = vget w i) : v = w :=
  Vector.ext fun i hi => h ⟨i, hi⟩

@[simp] theorem vget_ofFn {α : Type} {n : Nat} (f : Fin n → α) (i : Fin n) : vget (Vector.ofFn f) i = f i := by
  simp [vget]

/-! ### The hold ends of a minute boundary (R65) -/

/-- The hold of a group that ends at E. -/
def State.endingHold (s : State) (g : GroupNo) : Option Hold :=
  (s.group g).hold.filter fun h => h.ends.any fun m => decide (m.instant ≤ s.tref.e)

theorem State.endingHold_eq (s : State) (g : GroupNo) :
    ((s.group g).hold.filter fun h =>
        match h.ends with
        | some m => decide (m.day * 864000 + m.minute * 600 ≤ s.tref.e)
        | none => false) = s.endingHold g := by
  unfold State.endingHold EpochMinute.instant
  congr 1
  funext h
  cases h.ends
  · exact Option.any_none.symm
  · exact Option.any_some.symm

theorem State.endHold_none {s : State} {g : GroupNo} (h : s.endingHold g = none) : s.endHold g = s := by
  unfold State.endHold Group.holdEnded
  cases hh : (s.group g).hold with
  | none => rfl
  | some x =>
    rw [State.endingHold, hh] at h
    have hne : ¬ (x.ends.any fun m => decide (m.instant ≤ s.tref.e)) = true := Option.filter_eq_none_iff.mp h x rfl
    simp only [Option.any_some, if_neg hne]

/-- A hold that ends leaves its slot with its notice and one evaluation of its group (R65, R67). -/
theorem State.endHold_some {s : State} {g : GroupNo} {x : Hold} (h : s.endingHold g = some x) :
    s.endHold g
      = State.told { s with
          groups := vset s.groups g { s.group g with hold := none }, owed := s.owed ++ [⟨oneGroup g⟩] }
        [⟨s.tref.e, .holdEnded g x .ended⟩] := by
  obtain ⟨hh, hx⟩ := Option.filter_eq_some_iff.mp h
  unfold State.endHold Group.holdEnded
  simp only [hh, Option.any_some, hx, if_true]
  rw [State.offer_eq_told, State.owe_told]
  rfl

theorem State.told_with (s : State) (ns : List Notice) (gs : Vector Group 16) (os : List OwedEvaluation) :
    { s.told ns with groups := gs, owed := os } = State.told { s with groups := gs, owed := os } ns := by
  by_cases h : s.phase = .running
  · rw [State.told_running h, State.told_running (s := { s with groups := gs, owed := os }) h]
  · rw [State.told_not_running h, State.told_not_running (s := { s with groups := gs, owed := os }) h]

/-- The hold ends of a list of groups, one after another. -/
theorem State.endHolds_eq (l : List GroupNo) (hl : l.Nodup) (s : State) :
    l.foldl State.endHold s
      = State.told { s with
          groups := Vector.ofFn fun g =>
            if g ∈ l ∧ (s.endingHold g).isSome = true then { s.group g with hold := none } else s.group g
          owed := s.owed ++ (l.filter fun g => (s.endingHold g).isSome).map fun g => ⟨oneGroup g⟩ }
        (l.filterMap fun g => (s.endingHold g).map fun h => ⟨s.tref.e, .holdEnded g h .ended⟩) := by
  induction l generalizing s with
  | nil =>
    have hg : (Vector.ofFn fun g => s.group g) = s.groups := vget_ext fun g => by simp [State.group]
    simp [hg]
  | cons g l ih =>
    obtain ⟨hgl, hl⟩ := List.nodup_cons.mp hl
    rw [List.foldl_cons]
    cases he : s.endingHold g with
    | none =>
      have hmem : ∀ h : GroupNo, (h ∈ g :: l ∧ (s.endingHold h).isSome = true)
          ↔ (h ∈ l ∧ (s.endingHold h).isSome = true) := by
        intro h
        by_cases hg : h = g
        · subst hg; simp [he]
        · simp [hg]
      rw [State.endHold_none he, ih hl]
      simp only [hmem, List.filter_cons, List.filterMap_cons, he, Option.isSome_none, Bool.false_eq_true, if_false,
        Option.map_none]
    | some x =>
      rw [ih hl]
      have hw := State.endHold_some he
      generalize s.endHold g = w at hw ⊢
      have hgroup : ∀ h, w.group h = if h = g then { s.group g with hold := none } else s.group h := by
        intro h
        rw [hw, State.told_eq]
        exact vget_vset _ _ _ _
      have htref : w.tref = s.tref := by rw [hw, State.told_eq]
      have howed : w.owed = s.owed ++ [⟨oneGroup g⟩] := by rw [hw, State.told_eq]
      have hrest : ∀ h ∈ l, w.endingHold h = s.endingHold h := by
        intro h hh
        have hne : h ≠ g := fun e => hgl (e ▸ hh)
        simp only [State.endingHold, hgroup, htref, if_neg hne]
      have hgroups : (Vector.ofFn fun h =>
            if h ∈ l ∧ (w.endingHold h).isSome = true then { w.group h with hold := none } else w.group h)
          = Vector.ofFn fun h =>
            if h ∈ g :: l ∧ (s.endingHold h).isSome = true then { s.group h with hold := none } else s.group h := by
        refine vget_ext fun h => ?_
        by_cases hg : h = g
        · subst hg
          simp [hgl, hgroup, he]
        · by_cases hh : h ∈ l
          · simp [hh, hg, hgroup, hrest h hh]
          · simp [hh, hg, hgroup]
      have hfilter : (l.filter fun h => (w.endingHold h).isSome) = l.filter fun h => (s.endingHold h).isSome :=
        List.filter_congr fun h hh => by rw [hrest h hh]
      have hnotes : (l.filterMap fun h => (w.endingHold h).map fun y => (⟨w.tref.e, .holdEnded h y .ended⟩ : Notice))
          = l.filterMap fun h => (s.endingHold h).map fun y => ⟨s.tref.e, .holdEnded h y .ended⟩ :=
        List.filterMap_congr fun h hh => by rw [hrest h hh, htref]
      rw [hgroups, howed, hfilter, hnotes, hw, State.told_with, State.told_told]
      simp only [List.filter_cons, List.filterMap_cons, he, Option.isSome_some, if_true, Option.map_some, List.map_cons,
        List.append_assoc, List.cons_append, List.nil_append]

end Sys2Proof.Machine

section
open Sys2Proof Sys2Proof.Machine

/-- Settles O12: the fold over the groups is the sum of its hold ends, and one evaluation of all groups joins. -/
theorem minuteBoundaryEndsHolds : Obligations.MinuteBoundaryEndsHolds := by
  unfold Obligations.MinuteBoundaryEndsHolds
  intro s hn hrun hm ends
  have hends : ends = s.endingHold := by
    funext g
    exact s.endingHold_eq g
  simp only [exec, execMinuteBoundary, hm, if_true, if_pos hrun, State.minute]
  rw [State.endHolds_eq allGroups (List.nodup_finRange 16), State.owe_told, hn.settle_told_congr, hends]
  · have hall : ∀ g : GroupNo, g ∈ allGroups := List.mem_finRange
    simp only [hall, true_and]
    rfl
  all_goals rfl

end
end

section
namespace Sys2Proof.Machine

/-! ### Part-scope parameters by identifier (Table 3-2) -/

/-- The value of a part-scope parameter, by its identifier. -/
def Params.field (q : Params) : Nat → Nat
  | 0 => q.markPeriod
  | 1 => q.holdover
  | 2 => q.lead
  | 3 => q.lpct
  | 4 => q.spct
  | 5 => q.tol
  | 6 => q.grace
  | _ => q.deglitch

theorem Params.ext_field {q r : Params} (h : ∀ k, k ≤ 7 → q.field k = r.field k) : q = r := by
  obtain ⟨q0, q1, q2, q3, q4, q5, q6, q7⟩ := q
  obtain ⟨r0, r1, r2, r3, r4, r5, r6, r7⟩ := r
  have h0 : q0 = r0 := h 0 (by decide)
  have h1 : q1 = r1 := h 1 (by decide)
  have h2 : q2 = r2 := h 2 (by decide)
  have h3 : q3 = r3 := h 3 (by decide)
  have h4 : q4 = r4 := h 4 (by decide)
  have h5 : q5 = r5 := h 5 (by decide)
  have h6 : q6 = r6 := h 6 (by decide)
  have h7 : q7 = r7 := h 7 (by decide)
  rw [h0, h1, h2, h3, h4, h5, h6, h7]

/-- An item stored sets its own parameter and no other. -/
theorem Params.field_store (q : Params) (p : ParamItem) (k : Nat) (hp : p.ident ≤ 7) (hk : k ≤ 7) :
    (q.store p).field k = if p.ident = k then clampParam k p.value else q.field k := by
  obtain ⟨ident, v⟩ := p
  simp only at hp
  interval_cases ident <;> interval_cases k <;> rfl

/-- A list without repetition sets each parameter that it names to the clamped value of its item. -/
theorem Params.field_stores (items : List ParamItem) (q : Params) (k : Nat) (hk : k ≤ 7)
    (hid : ∀ x ∈ items, x.ident ≤ 7) (hnd : (items.map (·.ident)).Nodup) :
    (items.foldl Params.store q).field k
      = match items.find? fun x => decide (x.ident = k) with
        | some x => clampParam k x.value
        | none => q.field k := by
  induction items generalizing q with
  | nil => rfl
  | cons x l ih =>
    obtain ⟨hx, hnd⟩ := List.nodup_cons.mp hnd
    rw [List.foldl_cons, ih _ (fun y hy => hid y (List.mem_cons_of_mem _ hy)) hnd, List.find?_cons,
      q.field_store x k (hid x List.mem_cons_self) hk]
    by_cases hxk : x.ident = k
    · have hnone : (l.find? fun y => decide (y.ident = k)) = none :=
        List.find?_eq_none.mpr fun y hy hyk =>
          hx (List.mem_map.mpr ⟨y, hy, (of_decide_eq_true hyk).trans hxk.symm⟩)
      simp [hxk, hnone]
    · simp [hxk]

theorem clampParam_eq (k v : Nat) (range : Nat → Nat × Nat)
    (h : range = fun k =>
      match k with
      | 0 => (60, 3600)
      | 1 => (1, 24)
      | 2 => (10, 120)
      | 3 => (0, 30)
      | 4 => (0, 25)
      | 5 => (1, 20)
      | 6 => (0, 7)
      | _ => (1, 4)) : clampParam k v = max (range k).1 (min (range k).2 v) := by
  subst h
  match k with
  | 0 | 1 | 2 | 3 | 4 | 5 | 6 => rfl
  | _ + 7 => rfl

theorem itemsOk_iff (most : Nat) (items : List ParamItem) :
    itemsOk most items = true
      ↔ 1 ≤ items.length ∧ items.length ≤ most ∧ (∀ x ∈ items, x.ident < most) ∧ (items.map (·.ident)).Nodup := by
  simp [itemsOk, and_assoc]

/-! ### Judging the timers against new limits (R7, R8) -/

@[simp] theorem State.told_tref (s : State) (ns : List Notice) : (s.told ns).tref = s.tref := by rw [s.told_eq ns]

theorem State.told_withTref (s : State) (ns : List Notice) (r : Tref) :
    { s.told ns with tref := r } = State.told { s with tref := r } ns := by
  by_cases h : s.phase = .running
  · rw [State.told_running h, State.told_running (s := { s with tref := r }) h]
  · rw [State.told_not_running h, State.told_not_running (s := { s with tref := r }) h]

theorem State.dueH_told (s : State) (ns : List Notice) : (s.told ns).dueH = s.dueH := by
  rw [s.told_eq ns]
  rfl

/-- The H timer of a LOCKED part that goes to HOLDOVER runs on. -/
theorem State.dueH_holdover {s : State} (h : s.tref.state = .locked) :
    State.dueH { s with tref := { s.tref with state := .holdover } } = s.dueH := by
  rw [Bool.eq_iff_iff, State.dueH_iff, State.dueH_iff]
  simp [h]

theorem State.judgeTimers_none {s : State} (h2 : s.due2P = false) (hH : s.dueH = false) : s.judgeTimers = s := by
  simp [State.judgeTimers, h2, State.expire2P_not_due h2, State.expireH_not_due hH]

theorem State.judgeTimers_2P {s : State} (h2 : s.due2P = true) (hH : s.dueH = false) :
    s.judgeTimers = State.told { s with tref := { s.tref with state := .holdover } }
      [⟨s.tref.e, .timeState .holdover .locked .timer⟩] := by
  have hlocked := (s.due2P_iff.mp h2).1
  rw [State.judgeTimers, h2, hH, State.expire2P_due h2]
  exact State.expireH_not_due ((State.dueH_told _ _).trans ((State.dueH_holdover hlocked).trans hH))

theorem State.judgeTimers_H {s : State} (h2 : s.due2P = false) (hH : s.dueH = true) :
    s.judgeTimers = State.told { s with tref := { s.tref with state := .untimed, timerStart := none } }
      [⟨s.tref.e, .timeState .untimed s.tref.state .timer⟩] := by
  rw [State.judgeTimers, h2, State.expire2P_not_due h2]
  exact State.expireH_due hH

/-- Both timers have run out: 2P then H, or H alone (log entry 9). -/
theorem State.judgeTimers_both {s : State} (h2 : s.due2P = true) (hH : s.dueH = true) :
    ∃ ns,
      (ns = [⟨s.tref.e, .timeState .untimed .locked .timer⟩]
        ∨ ns = [⟨s.tref.e, .timeState .holdover .locked .timer⟩, ⟨s.tref.e, .timeState .untimed .holdover .timer⟩])
      ∧ s.judgeTimers
          = State.told { s with
              tref := { s.tref with state := .untimed, timerStart := none }, freeUses := s.freeUses + 1 } ns := by
  have hlocked := (s.due2P_iff.mp h2).1
  have h2' : State.due2P { s with freeUses := s.freeUses + 1 } = true := h2
  have hH' : State.dueH { s with freeUses := s.freeUses + 1 } = true := hH
  simp only [State.judgeTimers, h2, hH, Bool.and_self, if_true]
  split
  · refine ⟨_, .inr rfl, ?_⟩
    have hthen := (State.dueH_told _ [⟨s.tref.e, .timeState .holdover .locked .timer⟩]).trans
      ((State.dueH_holdover (s := { s with freeUses := s.freeUses + 1 }) hlocked).trans hH')
    rw [State.expire2P_due h2', State.expireH_due hthen, State.told_withTref, State.told_told]
    simp only [State.told_tref, List.cons_append, List.nil_append]
  · refine ⟨_, .inl rfl, ?_⟩
    rw [State.expireH_due hH', ← hlocked]

end Sys2Proof.Machine

section
open Sys2Proof Sys2Proof.Machine

/-- Settles O17: the parameters stored are those of the fold, and the judgement of the timers is that of their new limits. -/
theorem writeParamsClampsAndStores : Obligations.WriteParamsClampsAndStores := by
  unfold Obligations.WriteParamsClampsAndStores
  intro s f items hs hn hport hp hcommit fits range clamped value q q' written echo out2P outH changed
  have hr : Request.writeParams.allowed f.port = true := decide_eq_true hport
  have hclamp : clampParam = clamped := by
    funext k v
    exact clampParam_eq k v range rfl
  have hok : itemsOk 8 items = true ↔ fits := by
    rw [itemsOk_iff]
    simp only [fits, Nat.lt_succ_iff]
  have hstored (hf : fits) : items.foldl Params.store q = q' := by
    obtain ⟨-, -, hid, hnd⟩ := hf
    refine Params.ext_field fun k hk => ?_
    rw [Params.field_stores items q k hk hid hnd, hclamp]
    interval_cases k <;> rfl
  have hcfs : (s.handedOver f .writeParams).cfs.commit.isSome = false := by
    rw [State.handedOver, State.modPort_cfs, hcommit]
    rfl
  have hblock (hf : fits) : writeParamsBlock items (s.handedOver f .writeParams)
      = (if changed then (written.handedOver f .writeParams).judgeTimers else written.handedOver f .writeParams,
          (.ok, echo)) := by
    have hparams : items.foldl Params.store (s.handedOver f .writeParams).stored.params = q' := hstored hf
    rw [writeParamsBlock, unlessCommitting, hcfs, if_neg Bool.false_ne_true, if_pos (hok.mpr hf), hparams, echoItems, hclamp]
    rfl
  have hout2P : (written.handedOver f .writeParams).due2P = true ↔ out2P := State.due2P_iff _
  have houtH : (written.handedOver f .writeParams).dueH = true ↔ outH := State.dueH_iff _
  have answered {u : State} {ns : List Notice} {st : Status} {is : List Item} (hq : u.Quiet) (hph : u.phase = s.phase)
      (hpo : u.ports = s.ports) (hc : u.crystal = s.crystal)
      (hb : writeParamsBlock items (s.handedOver f .writeParams)
        = ((u.handedOver f .writeParams).told ns, (st, is))) :
      exec (.writeParams f) s = .next (u.answered f .writeParams ns st is) := by
    simp only [exec, execWriteParams, hp]
    exact congrArg Host.Outcome.next (State.request_told hs hr hq hph hpo hc hb)
  refine ⟨fun hf => answered hn.quiet rfl rfl rfl ?_, fun hf hno => answered (hn.quiet.congr rfl rfl rfl) rfl rfl rfl ?_,
    fun hf hch h2 hH => answered (hn.quiet.congr rfl rfl rfl) rfl rfl rfl ?_,
    fun hf hch h2 hH => answered (hn.quiet.congr rfl rfl rfl) rfl rfl rfl ?_, fun hf hch h2 hH => ?_⟩
  · rw [writeParamsBlock, unlessCommitting, hcfs, if_neg Bool.false_ne_true, if_neg (mt hok.mp hf), State.told_nil]
    rfl
  · rw [hblock hf, State.told_nil]
    split
    · have hrun : ¬ out2P ∧ ¬ outH := hno.resolve_left (not_not_intro ‹_›)
      rw [State.judgeTimers_none (Bool.eq_false_iff.mpr (mt hout2P.mp hrun.1)) (Bool.eq_false_iff.mpr (mt houtH.mp hrun.2))]
    · rfl
  · rw [hblock hf, if_pos hch, State.judgeTimers_2P (hout2P.mpr h2) (Bool.eq_false_iff.mpr (mt houtH.mp hH))]
    rfl
  · rw [hblock hf, if_pos hch, State.judgeTimers_H (Bool.eq_false_iff.mpr (mt hout2P.mp h2)) (houtH.mpr hH)]
    rfl
  · obtain ⟨ns, hns, hjudged⟩ := State.judgeTimers_both (hout2P.mpr h2) (houtH.mpr hH)
    refine ⟨ns, hns, answered (hn.quiet.congr rfl rfl rfl) rfl rfl rfl ?_⟩
    rw [hblock hf, if_pos hch, hjudged]
    rfl

end
end

section
/-! SUPPORT. The field link's records: queued transactions stand with the segment their target is mapped to, one of a kind each, and
the numbers of the orders tell a standing order from its copies queued and in flight. `LinkStep` is what the operations of coordination
keep of them. -/

namespace Sys2Proof.Machine

/-! ### What member updates make of the standing order -/

@[simp] theorem Member.clearCond_order (m : Member) (c : FaultClass) : (m.clearCond c).order = m.order := rfl

@[simp] theorem Member.clearTransitionConds_order (m : Member) : m.clearTransitionConds.order = m.order := rfl

@[simp] theorem Member.clearTransition_order (m : Member) : m.clearTransition.order = m.order := rfl

@[simp] theorem Member.enter_order (m : Member) (st : MemberState) : (m.enter st).order = m.order := by
  unfold Member.enter
  cases st <;> cases m.state <;> rfl

@[simp] theorem Member.inStepNow_order (m : Member) : m.inStepNow.order = m.order := m.enter_order .inStep

@[simp] theorem Member.correct_order (m : Member) (d : Direction) (a c l sh : Nat) :
    (m.correct d a c l sh).order = m.order := rfl

@[simp] theorem Member.block_order (m : Member) (n : Option Nat) : (m.block n).order = m.order := rfl

@[simp] theorem Member.recordRaise_order (m : Member) (c : FaultClass) (p : Policy) (cause : Option MissCause)
    (reason : Option Nat) : (m.recordRaise c p cause reason).order = m.order := rfl

@[simp] theorem Member.clearModeAlerts_order (m : Member) : m.clearModeAlerts.order = m.order := rfl

@[simp] theorem Member.offline_order (m : Member) : m.offline.order = none := rfl

@[simp] theorem Member.replaceController_order (m : Member) : m.replaceController.order = none := rfl

@[simp] theorem Stored.takePoll_order (t : Stored) (m : Member) (r : PollReply) : (t.takePoll m r).order = m.order := rfl

/-! ### Queues -/

theorem insertTxn_perm (t : Txn) (q : List Txn) : (insertTxn t q).Perm (t :: q) := by
  induction q with
  | nil => exact .refl _
  | cons u q ih =>
    rw [insertTxn]
    split
    · exact .refl _
    · exact (ih.cons u).trans (.swap t u q)

theorem mem_insertTxn {t u : Txn} {q : List Txn} : u ∈ insertTxn t q ↔ u = t ∨ u ∈ q := by
  rw [(insertTxn_perm t q).mem_iff, List.mem_cons]

/-- A queue that serves a segment: its targets are mapped there, one transaction of a kind each (R140). -/
def State.ServedBy (s : State) (k : SegNo) (q : List Txn) : Prop :=
  (∀ x ∈ q, ∃ d, s.place x.target = some ⟨k, d⟩)
    ∧ q.Pairwise fun a b => ¬ (a.target = b.target ∧ a.body.kind = b.body.kind)

theorem State.ServedBy.sublist {s : State} {k : SegNo} {q r : List Txn} (h : s.ServedBy k q) (hr : r.Sublist q) :
    s.ServedBy k r := ⟨fun x hx => h.1 x (hr.subset hx), h.2.sublist hr⟩

/-- A transaction may join when its target is mapped to the segment and has none of its kind queued. -/
theorem State.ServedBy.insert {s : State} {k : SegNo} {q : List Txn} (h : s.ServedBy k q) {t : Txn}
    (hp : ∃ d, s.place t.target = some ⟨k, d⟩) (hn : ∀ x ∈ q, x.target = t.target → x.body.kind ≠ t.body.kind) :
    s.ServedBy k (insertTxn t q) := by
  refine ⟨fun x hx => ?_, ?_⟩
  · rcases mem_insertTxn.mp hx with rfl | hx
    · exact hp
    · exact h.1 x hx
  · rw [(insertTxn_perm t q).pairwise_iff fun hab hba => hab ⟨hba.1.symm, hba.2.symm⟩]
    exact List.pairwise_cons.mpr ⟨fun x hx e => hn x hx e.1.symm e.2.symm, h.2⟩

theorem State.ServedBy.congr {s t : State} {k : SegNo} {q : List Txn} (h : s.ServedBy k q)
    (hm : t.stored.maps = s.stored.maps) : t.ServedBy k q := by
  unfold State.ServedBy State.place at *
  rw [hm]
  exact h

theorem Txn.isOrderOf_iff (t : Txn) (i : Ix) : t.isOrderOf i = true ↔ t.target = i ∧ t.body.kind = .order := by
  simp [Txn.isOrderOf]

theorem Txn.isQueryOf_iff (t : Txn) (i : Ix) : t.isQueryOf i = true ↔ t.target = i ∧ t.body.kind = .query := by
  simp [Txn.isQueryOf]

theorem TxnBody.kind_order {b : TxnBody} : b.kind = .order ↔ ∃ oid p, b = .order oid p := by
  cases b <;> simp [TxnBody.kind]

/-! ### Orders and their numbers -/

/-- Every number in use lies below the next one, and a standing order that is queued is not DELIVERED. -/
def State.OrdersNumbered (s : State) : Prop :=
  (∀ i o, (s.member i).order = some o → o.oid < s.nextOid)
    ∧ ∀ k, ∀ y ∈ (s.segment k).queue, ∀ oid p, y.body = .order oid p →
        oid < s.nextOid ∧ ∀ o, (s.member y.target).order = some o → o.oid = oid → o.outcome ≠ .delivered

/-- An order out of the queue of segment `k` for member `i`: when it is the standing one it is not DELIVERED, the member is still mapped
to that segment, and no ORDER or RELEASE is queued for it (R78). -/
def State.Aloft (s : State) (k : SegNo) (i : Ix) (oid : Nat) : Prop :=
  oid < s.nextOid
    ∧ ∀ o, (s.member i).order = some o → o.oid = oid →
        o.outcome ≠ .delivered ∧ (∃ d, s.place i = some ⟨k, d⟩)
          ∧ ∀ l, ∀ y ∈ (s.segment l).queue, y.target = i → y.body.kind ≠ .order

/-- The records of the field link in form. -/
structure State.LinkSound (s : State) : Prop where
  serve : s.QueuesServe
  numbered : s.OrdersNumbered
  aloft : ∀ k x oid p, (s.segment k).inFlight = some x → x.body = .order oid p → s.Aloft k x.target oid

theorem State.linkSound_iff (s : State) : s.LinkSound ↔ s.QueuesServe ∧ s.OrdersApart :=
  ⟨fun h => ⟨h.serve, h.numbered.1, h.numbered.2, h.aloft⟩, fun h => ⟨h.1, ⟨h.2.1, h.2.2.1⟩, h.2.2.2⟩⟩

/-- What an operation of coordination keeps: the maps; nothing is sent anew; and with the queues and numbers in form, these and any order
aloft. -/
structure LinkStep (s t : State) : Prop where
  maps : t.stored.maps = s.stored.maps
  inFlight : ∀ k x, (t.segment k).inFlight = some x →
    ∃ x', (s.segment k).inFlight = some x' ∧ x'.body = x.body ∧ x'.target = x.target
  keeps : s.QueuesServe → s.OrdersNumbered →
    t.QueuesServe ∧ t.OrdersNumbered ∧ ∀ k i oid, s.Aloft k i oid → t.Aloft k i oid

/-- Nothing is queued anew, and each standing order is one that stood before, no further on than it was: the queues and numbers stay in
form, and so does every order aloft. -/
theorem State.keeps_of_less {s t : State} (hm : t.stored.maps = s.stored.maps) (hoid : s.nextOid ≤ t.nextOid)
    (hq : ∀ k, (t.segment k).queue.Sublist (s.segment k).queue)
    (ho : ∀ i o, (t.member i).order = some o →
      ∃ o', (s.member i).order = some o' ∧ o'.oid = o.oid ∧ (o.outcome = .delivered → o'.outcome = .delivered))
    (hserve : s.QueuesServe) (hnum : s.OrdersNumbered) :
    t.QueuesServe ∧ t.OrdersNumbered ∧ ∀ k i oid, s.Aloft k i oid → t.Aloft k i oid := by
  refine ⟨fun k => (State.ServedBy.sublist (hserve k) (hq k)).congr hm, ⟨fun i o h => ?_, fun k y hy oid p hb => ?_⟩,
    fun k i oid h => ⟨h.1.trans_le hoid, fun o h1 h2 => ?_⟩⟩
  · obtain ⟨o', h', hoo, -⟩ := ho i o h
    exact hoo ▸ (hnum.1 i o' h').trans_le hoid
  · obtain ⟨hlt, hout⟩ := hnum.2 k y ((hq k).subset hy) oid p hb
    refine ⟨hlt.trans_le hoid, fun o h1 h2 hd => ?_⟩
    obtain ⟨o', h', hoo, hdd⟩ := ho _ o h1
    exact hout o' h' (hoo.trans h2) (hdd hd)
  · obtain ⟨o', h', hoo, hdd⟩ := ho _ o h1
    obtain ⟨hnd, hpl, hnq⟩ := h.2 o' h' (hoo.trans h2)
    refine ⟨fun hd => hnd (hdd hd), ?_, fun l y hy => hnq l y ((hq l).subset hy)⟩
    unfold State.place at hpl ⊢
    rw [hm]
    exact hpl

namespace LinkStep

theorem refl (s : State) : LinkStep s s := ⟨rfl, fun _ x h => ⟨x, h, rfl, rfl⟩, fun hq hn => ⟨hq, hn, fun _ _ _ h => h⟩⟩

theorem trans {s t u : State} (h1 : LinkStep s t) (h2 : LinkStep t u) : LinkStep s u where
  maps := h2.maps.trans h1.maps
  inFlight k x h :=
    have ⟨y, hy, hyb, hyt⟩ := h2.inFlight k x h
    have ⟨z, hz, hzb, hzt⟩ := h1.inFlight k y hy
    ⟨z, hz, hzb.trans hyb, hzt.trans hyt⟩
  keeps hq hn :=
    have ⟨hq1, hn1, ha1⟩ := h1.keeps hq hn
    have ⟨hq2, hn2, ha2⟩ := h2.keeps hq1 hn1
    ⟨hq2, hn2, fun k i oid h => ha2 k i oid (ha1 k i oid h)⟩

theorem foldl {α : Type} {f : State → α → State} (h : ∀ s a, LinkStep s (f s a)) (l : List α) (s : State) :
    LinkStep s (l.foldl f s) := by
  induction l generalizing s with
  | nil => exact .refl _
  | cons a l ih => exact .trans (h s a) (ih _)

theorem place_eq {s t : State} (h : LinkStep s t) (i : Ix) : t.place i = s.place i := by
  unfold State.place
  rw [h.maps]

theorem linkSound {s t : State} (h : LinkStep s t) (hs : s.LinkSound) : t.LinkSound := by
  obtain ⟨hq, hn, ha⟩ := h.keeps hs.serve hs.numbered
  refine ⟨hq, hn, fun k x oid p hx hb => ?_⟩
  obtain ⟨y, hy, hyb, hyt⟩ := h.inFlight k x hx
  rw [← hyt]
  exact ha _ _ _ (hs.aloft k y oid p hy (hyb.trans hb))

/-- A segment with nothing in flight has nothing in flight afterwards. -/
theorem landed {s t : State} (h : LinkStep s t) {k : SegNo} (hk : (s.segment k).inFlight = none) :
    (t.segment k).inFlight = none := by
  cases hx : (t.segment k).inFlight with
  | none => rfl
  | some x =>
    obtain ⟨y, hy, -⟩ := h.inFlight k x hx
    rw [hk] at hy
    cases hy

theorem inFlight_of_eq {s t : State} (h : ∀ k, (t.segment k).inFlight = (s.segment k).inFlight) (k : SegNo) (x : InFlight)
    (hx : (t.segment k).inFlight = some x) :
    ∃ x', (s.segment k).inFlight = some x' ∧ x'.body = x.body ∧ x'.target = x.target :=
  ⟨x, (h k).symm.trans hx, rfl, rfl⟩

/-- Nothing is queued anew, each standing order is one that stood before, no further on than it was, and what is in flight was. -/
theorem of_less {s t : State} (hm : t.stored.maps = s.stored.maps)
    (hf : ∀ k x, (t.segment k).inFlight = some x →
      ∃ x', (s.segment k).inFlight = some x' ∧ x'.body = x.body ∧ x'.target = x.target) (hoid : s.nextOid ≤ t.nextOid)
    (hq : ∀ k, (t.segment k).queue.Sublist (s.segment k).queue)
    (ho : ∀ i o, (t.member i).order = some o →
      ∃ o', (s.member i).order = some o' ∧ o'.oid = o.oid ∧ (o.outcome = .delivered → o'.outcome = .delivered)) :
    LinkStep s t := ⟨hm, hf, State.keeps_of_less hm hoid hq ho⟩

/-- What leaves maps, segments, standing orders and the next number alone. -/
theorem of_same {s t : State} (hm : t.stored.maps = s.stored.maps) (hs : t.segments = s.segments)
    (hoid : t.nextOid = s.nextOid) (hmem : t.members = s.members) : LinkStep s t := by
  have hseg : ∀ k, t.segment k = s.segment k := fun k => by rw [State.segment, hs, State.segment]
  have hmb : ∀ i, t.member i = s.member i := fun i => by rw [State.member, hmem, State.member]
  refine of_less hm (inFlight_of_eq fun k => by rw [hseg]) hoid.ge (fun k => by rw [hseg]) fun i o h => ⟨o, ?_, rfl, id⟩
  rw [← hmb]
  exact h

theorem setGroup (s : State) (g : GroupNo) (r : Group) : LinkStep s (s.setGroup g r) := of_same rfl rfl rfl rfl

theorem offer (s : State) (b : NoticeBody) : LinkStep s (s.offer b) :=
  of_same (by simp) (by simp) (by simp) (by simp)

theorem setPoll (s : State) (i : Ix) (p : Option Poll) : LinkStep s (s.setPoll i p) := of_same rfl rfl rfl rfl

theorem modPoll (s : State) (i : Ix) (f : Poll → Poll) : LinkStep s (s.modPoll i f) := of_same rfl rfl rfl rfl

theorem modPort (s : State) (p : Port) (f : PortState → PortState) : LinkStep s (s.modPort p f) := of_same rfl rfl rfl rfl

/-- A member record changes, its standing order at most to one no further on. -/
theorem modMember_order (s : State) (i : Ix) (f : Member → Member)
    (h : ∀ o, (f (s.member i)).order = some o →
      ∃ o', (s.member i).order = some o' ∧ o'.oid = o.oid ∧ (o.outcome = .delivered → o'.outcome = .delivered)) :
    LinkStep s (s.modMember i f) := by
  refine of_less rfl (inFlight_of_eq fun _ => rfl) (Nat.le_refl _) (fun _ => .refl _) fun j o hj => ?_
  by_cases hji : j = i
  · subst hji
    rw [State.member_modMember_self] at hj
    exact h o hj
  · rw [State.member_modMember_ne _ _ _ _ hji] at hj
    exact ⟨o, hj, rfl, id⟩

/-- A member record changes but for its standing order. -/
theorem modMember (s : State) (i : Ix) (f : Member → Member) (h : ∀ m, (f m).order = m.order := by simp) :
    LinkStep s (s.modMember i f) := modMember_order s i f fun o ho => ⟨o, (h _).symm.trans ho, rfl, id⟩

/-- The standing order of a member is cleared. -/
theorem modMember_none (s : State) (i : Ix) (f : Member → Member) (h : ∀ m, (f m).order = none := by simp) :
    LinkStep s (s.modMember i f) := modMember_order s i f fun o ho => by rw [h] at ho; cases ho

/-- Transactions leave a queue, and what is in flight stays or lands. -/
theorem modSegment (s : State) (k : SegNo) (f : Segment → Segment)
    (hq : ∀ r, (f r).queue.Sublist r.queue := by simp)
    (hf : ∀ r x, (f r).inFlight = some x →
      ∃ x', r.inFlight = some x' ∧ x'.body = x.body ∧ x'.target = x.target := by exact fun _ x h => ⟨x, h, rfl, rfl⟩) :
    LinkStep s (s.modSegment k f) := by
  have hread : ∀ l, (s.modSegment k f).segment l = if l = k then f (s.segment k) else s.segment l := fun l => by
    by_cases h : l = k
    · subst h; simp
    · simp [h, State.segment_modSegment_ne]
  refine of_less rfl (fun l x hx => ?_) (Nat.le_refl _) (fun l => ?_) fun i o h => ⟨o, h, rfl, id⟩
  · rw [hread] at hx
    split at hx
    next h => subst h; exact hf _ x hx
    next => exact ⟨x, hx, rfl, rfl⟩
  · rw [hread]
    split
    next h => subst h; exact hq _
    next => exact .refl _

end LinkStep

end Sys2Proof.Machine
end

section
/-! SUPPORT. The operations of coordination that queue something, and then each operation of coordination, keep the field link's
records in form (`LinkStep`). -/

namespace Sys2Proof.Machine

/-! ### What queues something -/

theorem State.segment_modSegment (s : State) (k l : SegNo) (f : Segment → Segment) :
    (s.modSegment k f).segment l = if l = k then f (s.segment k) else s.segment l := by
  by_cases h : l = k
  · subst h; simp
  · simp [h, State.segment_modSegment_ne]

theorem State.member_modMember (s : State) (i j : Ix) (f : Member → Member) :
    (s.modMember i f).member j = if j = i then f (s.member i) else s.member j := by
  by_cases h : j = i
  · subst h; simp
  · simp [h, State.member_modMember_ne]

/-- The queue after an ORDER or RELEASE has been put (R72, R73): what is queued for others stands, and the body is that of the one
queued for the member. -/
theorem Segment.mem_putOrder {r : Segment} {e : Nat} {i : Ix} {b : TxnBody} {y : Txn} (hy : y ∈ (r.putOrder e i b).queue) :
    (y ∈ r.queue ∧ y.isOrderOf i = false) ∨ (y.target = i ∧ y.body = b) := by
  unfold Segment.putOrder at hy
  split at hy
  · obtain ⟨x, hx, rfl⟩ := List.mem_map.mp hy
    by_cases h : x.isOrderOf i = true
    · rw [if_pos h]
      exact .inr ⟨((x.isOrderOf_iff i).mp h).1, rfl⟩
    · rw [if_neg h]
      exact .inl ⟨hx, by simpa using h⟩
  · rename_i hany
    rcases mem_insertTxn.mp hy with rfl | hy
    · exact .inr ⟨rfl, rfl⟩
    · refine .inl ⟨hy, ?_⟩
      by_contra hc
      exact hany (List.any_eq_true.mpr ⟨y, hy, by simpa using hc⟩)

theorem State.ServedBy.putOrder {s : State} {k : SegNo} {r : Segment} (h : s.ServedBy k r.queue) {i : Ix}
    (hp : ∃ d, s.place i = some ⟨k, d⟩) (e : Nat) {b : TxnBody} (hb : b.kind = .order) :
    s.ServedBy k (r.putOrder e i b).queue := by
  unfold Segment.putOrder
  split
  · have hkey : ∀ t : Txn, (if t.isOrderOf i then { t with body := b } else t).target = t.target
        ∧ (if t.isOrderOf i then { t with body := b } else t).body.kind = t.body.kind := by
      intro t
      split
      next ht => exact ⟨rfl, hb.trans ((t.isOrderOf_iff i).mp ht).2.symm⟩
      next => exact ⟨rfl, rfl⟩
    refine ⟨fun x hx => ?_, ?_⟩
    · obtain ⟨t, ht, rfl⟩ := List.mem_map.mp hx
      rw [(hkey t).1]
      exact h.1 t ht
    · rw [List.pairwise_map]
      refine h.2.imp fun hab => ?_
      simp only [(hkey _).1, (hkey _).2]
      exact hab
  · rename_i hany
    refine h.insert hp fun x hx hxi hk => hany (List.any_eq_true.mpr ⟨x, hx, ?_⟩)
    exact (x.isOrderOf_iff i).mpr ⟨hxi, hk.trans hb⟩

/-- A QUERY may stand queued for a member that is mapped to the segment and has none queued. -/
theorem LinkStep.insertQuery (s : State) (k : SegNo) (f : Segment → Segment) (t : Txn) (ht : t.body = .query)
    (hp : ∃ d, s.place t.target = some ⟨k, d⟩) (hn : (s.segment k).queue.any (·.isQueryOf t.target) = false)
    (hq : (f (s.segment k)).queue = insertTxn t (s.segment k).queue)
    (hf : (f (s.segment k)).inFlight = (s.segment k).inFlight) : LinkStep s (s.modSegment k f) where
  maps := rfl
  inFlight := inFlight_of_eq fun l => by
    rw [State.segment_modSegment]
    split
    next h => subst h; exact hf
    next => rfl
  keeps hserve hnum := by
    have hmem : ∀ l, ∀ y ∈ ((s.modSegment k f).segment l).queue, y = t ∨ y ∈ (s.segment l).queue := by
      intro l y hy
      rw [State.segment_modSegment] at hy
      split at hy
      next h =>
        subst h
        rw [hq] at hy
        exact mem_insertTxn.mp hy
      next => exact .inr hy
    refine ⟨fun l => ?_, ⟨hnum.1, fun l y hy oid p hb => ?_⟩, fun l i oid h => ⟨h.1, fun o h1 h2 => ?_⟩⟩
    · rw [State.segment_modSegment]
      split
      next h =>
        subst h
        rw [hq]
        refine State.ServedBy.insert (hserve l) hp fun x hx hxt hk => ?_
        rw [ht] at hk
        exact absurd ((x.isQueryOf_iff _).mpr ⟨hxt, hk⟩) (by simpa using List.any_eq_false.mp hn x hx)
      next => exact hserve l
    · rcases hmem l y hy with rfl | hy
      · rw [ht] at hb; cases hb
      · exact hnum.2 l y hy oid p hb
    · obtain ⟨hnd, hpl, hnq⟩ := h.2 o h1 h2
      refine ⟨hnd, hpl, fun m y hy hyi => ?_⟩
      rcases hmem m y hy with rfl | hy
      · rw [ht]; exact nofun
      · exact hnq m y hy hyi

theorem State.enqueueQuery_link (s : State) (i : Ix) : LinkStep s (s.enqueueQuery i) := by
  unfold State.enqueueQuery
  split
  next pl hpl =>
    by_cases hq : (s.segment pl.seg).queue.any (·.isQueryOf i) = true
    · refine .of_same rfl ?_ rfl rfl
      rw [State.modSegment, Segment.putQuery, if_pos hq]
      simp [State.setSegment, State.segment, vset, vget]
    · refine .insertQuery s pl.seg _ ⟨.query, i, s.tref.e, (s.segment pl.seg).nextSeq⟩ rfl ⟨pl.drop, hpl⟩
        (by simpa using hq) ?_ ?_ <;> rw [Segment.putQuery, if_neg hq] <;> rfl
  next => exact .refl _

/-! ### A fresh order (R72, R73) -/

theorem State.placeOrder_stored (s : State) (i : Ix) (kind : OrderKind) (p : OrderPayload) :
    (s.placeOrder i kind p).stored = s.stored := (s.placeOrder_works i kind p).stored_eq

theorem State.placeOrder_segment (s : State) (i : Ix) (kind : OrderKind) (p : OrderPayload) (k : SegNo) :
    (s.placeOrder i kind p).segment k
      = if (s.place i).map (·.seg) = some k then (s.segment k).putOrder s.tref.e i (.order s.nextOid p)
        else s.segment k := by
  unfold State.placeOrder
  cases hpl : s.place i with
  | none => rfl
  | some pl =>
    change (s.modSegment pl.seg (·.putOrder s.tref.e i (.order s.nextOid p))).segment k = _
    rw [State.segment_modSegment]
    simp only [Option.map_some, Option.some.injEq, eq_comm (a := k)]
    split
    next h => rw [h]
    next => rfl

theorem State.placeOrder_order (s : State) (i j : Ix) (kind : OrderKind) (p : OrderPayload) :
    ((s.placeOrder i kind p).member j).order
      = if j = i then some ⟨kind, p, .owed, s.nextOid, false⟩ else (s.member j).order := by
  have hread : ∀ u : State, u.members = s.members →
      ((u.modMember i fun m => { m.clearCond .orderMissed with order := some ⟨kind, p, .owed, s.nextOid, false⟩ }).member
          j).order
        = if j = i then some ⟨kind, p, .owed, s.nextOid, false⟩ else (s.member j).order := by
    intro u hu
    rw [State.member_modMember]
    split
    · rfl
    · rw [State.member, hu, State.member]
  unfold State.placeOrder
  cases s.place i with
  | none => exact hread s rfl
  | some pl => exact hread (s.modSegment pl.seg (·.putOrder s.tref.e i (.order s.nextOid p))) rfl

theorem Segment.putOrder_inFlight (r : Segment) (e : Nat) (i : Ix) (b : TxnBody) :
    (r.putOrder e i b).inFlight = r.inFlight := by
  unfold Segment.putOrder
  split <;> rfl

/-- What is queued after a fresh order: all that was queued but for the order it replaces, and the order itself. -/
theorem State.mem_placeOrder {s : State} (hs : s.QueuesServe) {i : Ix} {kind : OrderKind} {p : OrderPayload} {k : SegNo}
    {y : Txn} (hy : y ∈ ((s.placeOrder i kind p).segment k).queue) :
    (y ∈ (s.segment k).queue ∧ y.isOrderOf i = false) ∨ (y.target = i ∧ y.body = .order s.nextOid p) := by
  rw [State.placeOrder_segment] at hy
  split at hy
  · exact Segment.mem_putOrder hy
  · rename_i hk
    refine .inl ⟨hy, Bool.eq_false_iff.mpr fun ho => hk ?_⟩
    obtain ⟨d, hd⟩ := (hs k).1 y hy
    rw [((y.isOrderOf_iff i).mp ho).1] at hd
    rw [hd]
    rfl

/-- A fresh order carries a number that no queued order, no order aloft and no other standing order has. -/
theorem State.placeOrder_link (s : State) (i : Ix) (kind : OrderKind) (p : OrderPayload) :
    LinkStep s (s.placeOrder i kind p) where
  maps := by rw [State.placeOrder_stored]
  inFlight := LinkStep.inFlight_of_eq fun k => by
    rw [State.placeOrder_segment]
    split
    · exact Segment.putOrder_inFlight _ _ _ _
    · rfl
  keeps hserve hnum := by
    have hoid : (s.placeOrder i kind p).nextOid = s.nextOid + 1 := rfl
    have hplace : ∀ j, (s.placeOrder i kind p).place j = s.place j := fun j => by
      rw [State.place, State.placeOrder_stored, State.place]
    refine ⟨fun k => ?_, ⟨fun j o h => ?_, fun k y hy oid q hb => ?_⟩, fun k j oid h => ⟨?_, fun o h1 h2 => ?_⟩⟩
    · refine State.ServedBy.congr (s := s) ?_ (by rw [State.placeOrder_stored])
      rw [State.placeOrder_segment]
      split
      next hk =>
        obtain ⟨pl, hpl, rfl⟩ := Option.map_eq_some_iff.mp hk
        exact State.ServedBy.putOrder (hserve pl.seg) ⟨pl.drop, hpl⟩ _ rfl
      next => exact hserve k
    · rw [State.placeOrder_order] at h
      rw [hoid]
      split at h
      · cases h
        exact Nat.lt_succ_self _
      · exact Nat.lt_succ_of_lt (hnum.1 j o h)
    · rw [hoid]
      rcases State.mem_placeOrder hserve hy with ⟨hy, hno⟩ | ⟨hyi, hyb⟩
      · obtain ⟨hlt, hout⟩ := hnum.2 k y hy oid q hb
        refine ⟨Nat.lt_succ_of_lt hlt, fun o h1 h2 => hout o ?_ h2⟩
        have hne : y.target ≠ i := fun e => by
          have : y.isOrderOf i = true := (y.isOrderOf_iff i).mpr ⟨e, by rw [hb]; rfl⟩
          rw [hno] at this
          cases this
        rwa [State.placeOrder_order, if_neg hne] at h1
      · rw [hyb] at hb
        cases hb
        refine ⟨Nat.lt_succ_self _, fun o h1 _ => ?_⟩
        rw [State.placeOrder_order, if_pos hyi] at h1
        cases h1
        exact nofun
    · rw [hoid]
      exact Nat.lt_succ_of_lt h.1
    · rw [State.placeOrder_order] at h1
      split at h1
      · cases h1
        exact absurd h2 (Nat.ne_of_gt h.1)
      · rename_i hji
        obtain ⟨hnd, hpl, hnq⟩ := h.2 o h1 h2
        rw [hplace]
        refine ⟨hnd, hpl, fun l y hy hyj => ?_⟩
        rcases State.mem_placeOrder hserve hy with ⟨hy, -⟩ | ⟨hyi, -⟩
        · exact hnq l y hy hyj
        · exact absurd (hyj.symm.trans hyi) hji

/-! ### An order queued again -/

/-- A member's standing order is not DELIVERED, and what is queued anew is queued for that member: the numbers still tell the orders
apart, and every order aloft stays so but that one. -/
theorem State.OrdersNumbered.requeued {s t : State} (hn : s.OrdersNumbered) {i : Ix} {o : StandingOrder}
    (hm : t.stored.maps = s.stored.maps) (hoid : t.nextOid = s.nextOid)
    (hord : ∀ j, (t.member j).order = if j = i then some o else (s.member j).order) (hlt : o.oid < s.nextOid)
    (hout : o.outcome ≠ .delivered)
    (hq : ∀ l, ∀ y ∈ (t.segment l).queue,
      y ∈ (s.segment l).queue ∨ (y.target = i ∧ ∀ n p, y.body = .order n p → n < s.nextOid)) :
    t.OrdersNumbered ∧ ∀ l j n, (j = i → n ≠ o.oid) → s.Aloft l j n → t.Aloft l j n := by
  refine ⟨⟨fun j o' h => ?_, fun l y hy n p hb => ⟨?_, fun o' h1 h2 => ?_⟩⟩,
    fun l j n hne h => ⟨hoid ▸ h.1, fun o' h1 h2 => ?_⟩⟩
  · rw [hord] at h
    rw [hoid]
    split at h
    · cases h; exact hlt
    · exact hn.1 j o' h
  · rw [hoid]
    rcases hq l y hy with hy | ⟨-, hy⟩
    · exact (hn.2 l y hy n p hb).1
    · exact hy n p hb
  · rw [hord] at h1
    split at h1
    · cases h1; exact hout
    · rename_i hyi
      rcases hq l y hy with hy | ⟨hy, -⟩
      · exact (hn.2 l y hy n p hb).2 o' h1 h2
      · exact absurd hy hyi
  · rw [hord] at h1
    split at h1
    next hji =>
      cases h1
      exact absurd h2.symm (hne hji)
    next hji =>
      obtain ⟨hnd, hpl, hnq⟩ := h.2 o' h1 h2
      refine ⟨hnd, ?_, fun m y hy hyj => ?_⟩
      · rw [State.place, hm]
        exact hpl
      · rcases hq m y hy with hy | ⟨hy, -⟩
        · exact hnq m y hy hyj
        · exact absurd (hyj.symm.trans hy) hji

/-- With its queued ORDER dropped, a member's order may join the queue of its segment. -/
theorem State.ServedBy.rejoin {s : State} {k : SegNo} {r : Segment} (h : s.ServedBy k r.queue) {i : Ix}
    (hp : ∃ d, s.place i = some ⟨k, d⟩) (e n : Nat) (p : OrderPayload) :
    s.ServedBy k ((r.dropOrder i).join e i (.order n p)).queue := by
  refine State.ServedBy.insert (h.sublist List.filter_sublist) hp fun x hx hxi hk => ?_
  have hno := (List.mem_filter.mp hx).2
  rw [(x.isOrderOf_iff i).mpr ⟨hxi, hk⟩] at hno
  cases hno

theorem Segment.mem_rejoin {r : Segment} {e n : Nat} {i : Ix} {p : OrderPayload} {y : Txn}
    (hy : y ∈ ((r.dropOrder i).join e i (.order n p)).queue) :
    y ∈ r.queue ∨ (y.target = i ∧ y.body = .order n p) := by
  rcases mem_insertTxn.mp hy with rfl | hy
  · exact .inr ⟨rfl, rfl⟩
  · exact .inl (List.mem_of_mem_filter hy)

/-- A DELIVERED order seen unswitched is put at the tail and OWED again: it was neither queued nor aloft (R83). -/
theorem State.requeue_link (s : State) (i : Ix) (o : StandingOrder) (ho : (s.member i).order = some o)
    (hd : o.outcome = .delivered) :
    LinkStep s (State.modMember
      (match s.place i with
       | some pl => (s.dropOrder i).modSegment pl.seg (·.join s.tref.e i (.order o.oid o.payload))
       | none => s) i fun m => { m with order := some { o with outcome := .owed } }) := by
  have step : ∀ u : State, u.stored = s.stored → u.members = s.members → u.nextOid = s.nextOid →
      (∀ k, (u.segment k).inFlight = (s.segment k).inFlight) →
      (s.QueuesServe → u.QueuesServe) →
      (∀ l, ∀ y ∈ (u.segment l).queue,
        y ∈ (s.segment l).queue ∨ (y.target = i ∧ y.body = .order o.oid o.payload)) →
      LinkStep s (u.modMember i fun m => { m with order := some { o with outcome := .owed } }) := by
    intro u hst hmem hoid hf hserve hq
    refine ⟨by rw [State.modMember_stored, hst], LinkStep.inFlight_of_eq hf, fun hs hn => ?_⟩
    have hlt := hn.1 i o ho
    obtain ⟨hnum, haloft⟩ := hn.requeued (i := i) (o := { o with outcome := .owed })
      (t := u.modMember i fun m => { m with order := some { o with outcome := .owed } })
      (by rw [State.modMember_stored, hst]) hoid (fun j => by
        rw [State.member_modMember]
        split
        · rfl
        · rw [State.member, hmem, State.member]) hlt nofun fun l y hy => by
        rcases hq l y hy with hy | ⟨hyi, hyb⟩
        · exact .inl hy
        · refine .inr ⟨hyi, fun n p hb => ?_⟩
          rw [hyb] at hb
          cases hb
          exact hlt
    refine ⟨hserve hs, hnum, fun l j n h => haloft l j n (fun hji hne => ?_) h⟩
    subst hji
    exact (h.2 o ho hne.symm).1 hd
  cases hpl : s.place i with
  | none => exact step s rfl rfl rfl (fun _ => rfl) id fun l y hy => .inl hy
  | some pl =>
    have hseg : ∀ l, ((s.dropOrder i).modSegment pl.seg (·.join s.tref.e i (.order o.oid o.payload))).segment l
        = if l = pl.seg then ((s.segment pl.seg).dropOrder i).join s.tref.e i (.order o.oid o.payload)
          else s.segment l := by
      intro l
      rw [State.dropOrder, hpl]
      simp only [State.segment_modSegment, if_true]
      split <;> rfl
    refine step _ ?_ ?_ ?_ (fun k => ?_) (fun hs l => ?_) fun l y hy => ?_
    · rw [State.dropOrder, hpl]; rfl
    · rw [State.dropOrder, hpl]; rfl
    · rw [State.dropOrder, hpl]; rfl
    · rw [hseg]
      split
      next h => rw [h]; rfl
      next => rfl
    · refine State.ServedBy.congr (s := s) ?_ (by rw [State.dropOrder, hpl]; rfl)
      rw [hseg]
      split
      next h => subst h; exact State.ServedBy.rejoin (hs pl.seg) ⟨pl.drop, hpl⟩ _ _ _
      next => exact hs l
    · rw [hseg] at hy
      split at hy
      next h => subst h; exact Segment.mem_rejoin hy
      next => exact .inl hy

end Sys2Proof.Machine
end

section
namespace Sys2Proof.Machine

/-! ### Segments -/

theorem State.dropOrder_link (s : State) (i : Ix) : LinkStep s (s.dropOrder i) := by
  unfold State.dropOrder
  split
  · exact .modSegment _ _ _ fun _ => List.filter_sublist
  · exact .refl _

theorem State.choose_link (s : State) (k : SegNo) : LinkStep s (s.choose k) := by
  unfold State.choose
  split
  · split
    · exact .modSegment _ _ _
    · exact .refl _
  · exact .refl _

theorem State.enterSegment_link (s : State) (k : SegNo) (st : SegState) (c : SegCause) :
    LinkStep s (s.enterSegment k st c) :=
  .trans (.modSegment s k (fun r => { r with state := st })) (.offer _ _)

theorem State.startChecking_link (s : State) (k : SegNo) (c : SegCause) : LinkStep s (s.startChecking k c) :=
  .trans (.modSegment s k (fun r => { r with line := .mark, lineSince := s.crystal }))
    (State.enterSegment_link _ _ _ _)

/-! ### Coordination -/

theorem State.clearCond_link (s : State) (i : Ix) (c : FaultClass) : LinkStep s (s.clearCond i c) :=
  .modMember _ _ _

theorem State.enter_link (s : State) (i : Ix) (st : MemberState) : LinkStep s (s.enter i st) :=
  .modMember _ _ _

theorem State.offerSteady_link (s : State) (g : GroupNo) : LinkStep s (s.offerSteady g) := .offer _ _

theorem State.testSteady_link (s : State) (g : GroupNo) : LinkStep s (s.testSteady g) := by
  unfold State.testSteady
  split
  · exact .trans (.setGroup _ _ _) (State.offerSteady_link _ _)
  · exact .refl _

theorem State.testWorking_link (s : State) (g : GroupNo) : LinkStep s (s.testWorking g) := by
  unfold State.testWorking
  split
  · exact .setGroup _ _ _
  · exact .refl _

theorem State.groupTests_link (s : State) (g : GroupNo) : LinkStep s (s.groupTests g) :=
  .trans (State.testWorking_link _ _) (State.testSteady_link _ _)

theorem State.testsOf_link (s : State) (i : Ix) : LinkStep s (s.testsOf i) := by
  unfold State.testsOf
  split
  · exact State.groupTests_link _ _
  · exact .refl _

theorem State.clearOrder_link (s : State) (i : Ix) : LinkStep s (s.clearOrder i) :=
  .modMember_none _ _ _

theorem State.release_link (s : State) (i : Ix) (tm : Nat) : LinkStep s (s.release i tm) := by
  unfold State.release
  extract_lets s1
  have h1 : LinkStep s s1 := by
    unfold s1
    split
    · exact .modMember _ _ _
    · exact .refl _
  split
  · exact h1.trans (State.clearOrder_link _ _)
  · exact h1.trans (State.placeOrder_link _ _ _ _)

theorem State.releaseTo_link (s : State) (i : Ix) (tm : Nat) (st : MemberState) :
    LinkStep s ((s.release i tm).enter i st) := .trans (State.release_link _ _ _) (State.enter_link _ _ _)

theorem State.suspendMember_link (s : State) (i : Ix) : LinkStep s (s.suspendMember i) := by
  unfold State.suspendMember
  split
  case h_5 =>
    extract_lets s1
    have h1 : LinkStep s s1 := State.release_link _ _ _
    split
    · exact h1
    · exact h1.trans (State.enter_link _ _ _)
  case h_6 => exact .refl _
  all_goals exact State.releaseTo_link _ _ _ _

theorem State.suspend_link (s : State) (g : GroupNo) (c : FaultClass) (i : Ix) : LinkStep s (s.suspend g c i) :=
  .trans (.setGroup _ _ _) (.foldl (fun s i => s.suspendMember_link i) _ _)

theorem State.latch_link (s : State) (i : Ix) (c : FaultClass) : LinkStep s (s.latch i c) := by
  unfold State.latch
  extract_lets s1
  have h1 : LinkStep s s1 := .modMember _ _ _
  split
  case h_6 => exact h1
  all_goals exact h1.trans (State.releaseTo_link _ _ _ _)

theorem State.exclude_link (s : State) (i : Ix) : LinkStep s (s.exclude i) := by
  unfold State.exclude
  split
  case h_5 => exact .refl _
  all_goals exact State.enter_link _ _ _

theorem State.raise_link (s : State) (i : Ix) (c : FaultClass) (cause : Option MissCause) (reason : Option Nat) :
    LinkStep s (s.raise i c cause reason) := by
  unfold State.raise
  extract_lets pair s1 s2
  have h1 : LinkStep s s1 := .modMember _ _ _
  have h2 : LinkStep s s2 := by
    unfold s2
    split
    · exact h1
    · exact h1.trans (.offer _ _)
  split
  · have h3 : LinkStep s (s2.latch i c) := h2.trans (State.latch_link _ _ _)
    split
    · split
      · exact h3.trans (State.suspend_link _ _ _ _)
      · exact h3
    · exact h3.trans (State.testsOf_link _ _)
  · exact (h2.trans (State.exclude_link _ _)).trans (State.testsOf_link _ _)
  · exact h2
  · exact h2

theorem State.failCheck_link (s : State) (i : Ix) : LinkStep s (s.failCheck i) := by
  unfold State.failCheck
  extract_lets m s1
  have h1 : LinkStep s s1 := by
    unfold s1
    split
    · exact State.releaseTo_link _ _ _ _
    · exact .refl _
  exact (h1.trans (State.raise_link _ _ _ _ _)).trans (State.testsOf_link _ _)

theorem State.orderMember_link (s : State) (i : Ix) (plan tm : Nat) : LinkStep s (s.orderMember i plan tm) := by
  unfold State.orderMember
  split
  · split
    · extract_lets s1
      have h1 : LinkStep s s1 := (State.clearCond_link _ _ _).trans (State.placeOrder_link _ _ _ _)
      exact (h1.trans (.modMember _ _ _)).trans (State.testsOf_link _ _)
    · exact State.failCheck_link _ _
  · exact State.failCheck_link _ _

theorem State.readmit_link (s : State) (i : Ix) (b : Bool) : LinkStep s (s.readmit i b) := by
  unfold State.readmit
  extract_lets s1 stay kept
  have h1 : LinkStep s s1 := State.enter_link _ _ _
  have hs : LinkStep s stay := by
    unfold stay
    split
    · exact h1.trans (State.release_link _ _ _)
    · exact h1
  have ho : LinkStep s ((s1.enter i .ordered).testsOf i) :=
    (h1.trans (State.enter_link _ _ _)).trans (State.testsOf_link _ _)
  have hm : ∀ plan tm, LinkStep s (s1.orderMember i plan tm) := fun _ _ => h1.trans (State.orderMember_link _ _ _ _)
  split
  · exact hs
  · extract_lets r
    split
    · exact hs
    · exact hs
    · split
      · exact hs
      · split
        · exact ho
        · exact hm _ _
    · split
      · exact ho
      · exact hm _ _
    · split
      · exact ho
      · exact hm _ _

theorem State.tryReadmit_link (s : State) (i : Ix) : LinkStep s (s.tryReadmit i) := by
  unfold State.tryReadmit
  split
  · exact State.readmit_link _ _ _
  · exact .refl _

theorem State.endCond_link (s : State) (i : Ix) (c : FaultClass) : LinkStep s (s.endCond i c) := by
  unfold State.endCond
  split
  · exact .trans (State.clearCond_link _ _ _) (State.tryReadmit_link _ _)
  · exact .refl _

theorem State.placeUnknown_link (s : State) (i : Ix) : LinkStep s (s.placeUnknown i) := by
  unfold State.placeUnknown
  extract_lets refreshed s1
  have h1 : LinkStep s s1 := .modMember _ _ _
  split
  · exact h1.trans (State.releaseTo_link _ _ _ _)
  · split
    · exact h1.trans (State.enter_link _ _ _)
    · exact h1.trans (State.readmit_link _ _ _)

theorem State.goOffline_link (s : State) (i : Ix) : LinkStep s (s.goOffline i) := by
  unfold State.goOffline
  extract_lets s1
  have h1 : LinkStep s s1 := by
    unfold s1
    split
    · exact .modSegment _ _ _ fun _ => List.filter_sublist
    · exact .refl _
  exact (h1.trans (.modMember_none _ _ _)).trans (State.testsOf_link _ _)

/-! ### Transition -/

theorem State.raiseBlocked_link (s : State) (i : Ix) : LinkStep s (s.raiseBlocked i) := by
  unfold State.raiseBlocked
  split
  · exact .refl _
  · exact State.raise_link _ _ _ _ _

theorem State.startCorrecting_link (s : State) (i : Ix) (x : Measured) (m : Method) :
    LinkStep s (s.startCorrecting i x m) := by
  unfold State.startCorrecting
  extract_lets s1
  split
  have h1 : LinkStep s s1 := .modMember _ _ _
  split
  · exact h1.trans (.modMember _ _ _)
  · exact (h1.trans (.modMember _ _ _)).trans (State.raiseBlocked_link _ _)

theorem State.transitionStart_link (s : State) (i : Ix) : LinkStep s (s.transitionStart i) := by
  unfold State.transitionStart
  split
  · exact .refl _
  · extract_lets method s1
    have h1 : LinkStep s s1 := .modMember _ _ _
    split
    · have h2 : LinkStep s (s1.clearCond i .capability) := h1.trans (State.clearCond_link _ _ _)
      split
      · exact h2
      · extract_lets s3 s4
        have h3 : LinkStep s s3 := h2.trans (.modMember _ _ _)
        have h4 : LinkStep s s4 := by
          unfold s4
          split
          · exact h3.trans (.modMember _ _ _)
          · exact h3.trans (State.startCorrecting_link _ _ _ _)
        exact h4.trans (State.testsOf_link _ _)
    · exact (h1.trans (.modMember _ _ _)).trans (State.failCheck_link _ _)

theorem State.complete_link (s : State) (i : Ix) : LinkStep s (s.complete i) :=
  .trans (.modMember _ _ _) (State.testsOf_link _ _)

theorem State.deadlineTest_link (s : State) (i : Ix) : LinkStep s (s.deadlineTest i) := by
  unfold State.deadlineTest
  extract_lets m
  split
  · exact .trans (.modMember _ _ _) (State.raise_link _ _ _ _ _)
  · exact .refl _

theorem State.redirect_link (s : State) (i : Ix) (x : Measured) : LinkStep s (s.redirect i x) := by
  unfold State.redirect
  extract_lets m method
  split
  extract_lets c
  split
  · split
    · exact .modMember _ _ _
    · exact .trans (.modMember _ _ _) (State.raiseBlocked_link _ _)
  · exact .modMember _ _ _

theorem State.recompute_link (s : State) (i : Ix) (k : Nat) (x : Measured) : LinkStep s (s.recompute i k x) := by
  unfold State.recompute
  split
  · exact ((State.clearCond_link _ _ _).trans (State.redirect_link _ _ _)).trans (State.deadlineTest_link _ _)
  · exact State.failCheck_link _ _

theorem State.planLost_link (s : State) (i : Ix) : LinkStep s (s.planLost i) := by
  unfold State.planLost
  split
  · exact .trans (.modMember _ _ _) (State.orderMember_link _ _ _ _)
  · exact .refl _

theorem State.follow_link (s : State) (i : Ix) (b : Bool) : LinkStep s (s.follow i b) := by
  unfold State.follow
  split
  · exact .refl _
  · extract_lets k
    split
    · exact State.planLost_link _ _
    · split
      · exact State.transitionStart_link _ _
      · split
        · exact .refl _
        · extract_lets s1 near
          have h1 : LinkStep s s1 := .modMember _ _ _
          split
          · split
            · exact h1
            · exact h1.trans (State.transitionStart_link _ _)
          · split
            · exact h1.trans (State.complete_link _ _)
            · split
              · exact h1.trans (State.recompute_link _ _ _ _)
              · exact h1

theorem State.measureExcluded_link (s : State) (i : Ix) : LinkStep s (s.measureExcluded i) := by
  unfold State.measureExcluded
  split
  · exact .refl _
  · extract_lets r
    split
    · split
      · exact .refl _
      · extract_lets s1
        have h1 : LinkStep s s1 := .modMember _ _ _
        split
        · exact (h1.trans (.modMember _ _ _)).trans (State.tryReadmit_link _ _)
        · exact h1
    · exact .refl _

/-! ### Replies and no-replies -/

theorem State.takeAlerts_link (s : State) (i : Ix) (r : GoodReply) : LinkStep s (s.takeAlerts i r) := by
  unfold State.takeAlerts
  extract_lets m after s1 new s2
  have h1 : LinkStep s s1 := .modMember _ _ _
  have h2 : LinkStep s s2 := by
    unfold s2
    split
    · exact h1
    · exact h1.trans (.offer _ _)
  split
  · exact h2.trans (State.enqueueQuery_link _ _)
  · exact h2

theorem State.commonSteps_link (s : State) (i : Ix) (r : GoodReply) : LinkStep s (s.commonSteps i r) := by
  unfold State.commonSteps
  extract_lets prev hadNoReply s1 new alertStands s2 ends s3
  have h1 : LinkStep s s1 := .trans (.modMember _ _ _) (State.takeAlerts_link _ _ _)
  have h2 : LinkStep s s2 := by
    unfold s2
    split
    · exact h1.trans (State.clearCond_link _ _ _)
    · exact h1
  have h3 : LinkStep s s3 := by
    unfold s3
    split
    · exact h2.trans (State.raise_link _ _ _ _ _)
    · split
      · exact h2.trans (State.clearCond_link _ _ _)
      · exact h2
  split
  · exact h3.trans (State.tryReadmit_link _ _)
  · exact h3

theorem State.switchMember_link (s : State) (i : Ix) : LinkStep s (s.switchMember i) :=
  ((State.clearOrder_link _ _).trans (State.dropOrder_link _ _)).trans (State.transitionStart_link _ _)

theorem Member.standingOrder_some {m : Member} {o : StandingOrder} (h : m.standingOrder = some o) :
    m.order = some o ∧ o.kind = .order := by
  simpa [Member.standingOrder, Option.filter_eq_some_iff] using h

theorem State.notSwitched_link (s : State) (i : Ix) : LinkStep s (s.notSwitched i) := by
  unfold State.notSwitched
  split
  next o ho =>
    split
    next hc =>
      exact .trans (State.requeue_link s i o (Member.standingOrder_some ho).1 hc.2.1) (State.raise_link _ _ _ _ _)
    next => exact .refl _
  next => exact .refl _

theorem State.switchingTests_link (s : State) (i : Ix) : LinkStep s (s.switchingTests i) := by
  unfold State.switchingTests
  extract_lets s1
  have h1 : LinkStep s s1 := by
    unfold s1
    split
    · exact State.endCond_link _ _ _
    · exact .refl _
  split
  · exact h1.trans (State.switchMember_link _ _)
  · exact h1.trans (State.notSwitched_link _ _)

theorem State.handlePoll_link (s : State) (i : Ix) (b : Bool) : LinkStep s (s.handlePoll i b) := by
  unfold State.handlePoll
  split
  · exact State.switchingTests_link _ _
  · extract_lets s1
    have h1 : LinkStep s s1 := State.switchingTests_link _ _
    split
    · exact h1.trans (State.measureExcluded_link _ _)
    · exact h1
  · exact State.follow_link _ _ _
  · exact State.follow_link _ _ _
  · exact .refl _

theorem State.endUndelivered_link (s : State) (i : Ix) : LinkStep s (s.endUndelivered i) := by
  unfold State.endUndelivered
  split
  · exact State.endCond_link _ _ _
  · exact State.endCond_link _ _ _
  · exact .refl _

theorem State.recheckCapability_link (s : State) (i : Ix) : LinkStep s (s.recheckCapability i) := by
  unfold State.recheckCapability
  extract_lets m against
  cases against with
  | none => exact .refl _
  | some k =>
    simp only
    split
    · exact .refl _
    · exact State.failCheck_link _ _

theorem State.handleQuery_link (s : State) (i : Ix) (q : QueryReply) : LinkStep s (s.handleQuery i q) := by
  unfold State.handleQuery
  extract_lets differs s1 s2 s3 s4
  have h1 : LinkStep s s1 := by
    unfold s1
    split
    · exact .trans (State.dropOrder_link _ _) (.modMember_none _ _ _)
    · exact .refl _
  have h3 : LinkStep s s3 := (h1.trans (.modMember _ _ _)).trans (State.endCond_link _ _ _)
  have h4 : LinkStep s s4 := by
    unfold s4
    split
    · exact h3.trans (State.placeUnknown_link _ _)
    · exact h3.trans (State.recheckCapability_link _ _)
  split
  · exact h4.trans (State.testsOf_link _ _)
  · exact h4

/-! ### Switches -/

theorem State.switchTake_link (g : GroupNo) (s : State) (i : Ix) : LinkStep s (State.switchTake g s i) := by
  unfold State.switchTake
  extract_lets r
  split
  · split
    · exact .trans (State.release_link _ _ _) (.modMember _ _ _)
    · exact State.orderMember_link _ _ _ _
  · exact .refl _

theorem State.withdraw_link (g : GroupNo) (s : State) (i : Ix) : LinkStep s (State.withdraw g s i) := by
  unfold State.withdraw
  split
  · exact (State.dropOrder_link _ _).trans (State.clearOrder_link _ _)
  · exact .refl _

theorem State.switchEnds_link (g : GroupNo) (s : State) (i : Ix) : LinkStep s (State.switchEnds g s i) := by
  unfold State.switchEnds
  split
  · exact .trans (.modMember _ _ _) (State.tryReadmit_link _ _)
  · exact .refl _

theorem State.startSwitch_link (s : State) (g : GroupNo) :
    LinkStep s (s.startSwitch g) := by
  unfold State.startSwitch
  extract_lets r ts members found s1 s2 s3 s4
  have h2 : LinkStep s s2 := .trans (.setGroup _ _ _) (.offer _ _)
  have h3 : LinkStep s s3 := h2.trans (.foldl (State.switchTake_link g) _ _)
  have h4 : LinkStep s s4 := h3.trans (.foldl (State.withdraw_link g) _ _)
  exact h4.trans (.foldl (State.switchEnds_link g) _ _)

theorem State.evaluateGroup_link (s : State) (g : GroupNo) : LinkStep s (s.evaluateGroup g) := by
  unfold State.evaluateGroup
  extract_lets w r s1
  have h1 : LinkStep s s1 := .setGroup _ _ _
  split
  · exact h1.trans (State.startSwitch_link _ _)
  · exact h1

/-! ### Commands' own operations -/

theorem State.leaveMember_link (s : State) (i : Ix) : LinkStep s (s.leaveMember i) := by
  unfold State.leaveMember
  split
  case h_5 =>
    extract_lets s1
    have h1 : LinkStep s s1 := State.release_link _ _ _
    split
    · exact h1
    · exact h1.trans (State.enter_link _ _ _)
  case h_6 => exact .refl _
  all_goals exact State.releaseTo_link _ _ _ _

theorem State.leave_link (s : State) (x : Ix × GroupNo) : LinkStep s (s.leave x) := by
  unfold State.leave
  split
  · exact .trans (State.leaveMember_link _ _) (State.groupTests_link _ _)
  · exact .refl _

theorem State.joinGroup_link (g : GroupNo) (s : State) (i : Ix) : LinkStep s (State.joinGroup g s i) := by
  unfold State.joinGroup
  extract_lets r
  split
  · split
    · split
      · exact .refl _
      · exact State.orderMember_link _ _ _ _
    · exact State.orderMember_link _ _ _ _
    · exact State.orderMember_link _ _ _ _
    · exact .refl _
    · exact .refl _
  · exact .refl _

theorem State.freeOrdered_link (s : State) (i : Ix) : LinkStep s (s.freeOrdered i) := by
  unfold State.freeOrdered
  split
  · exact State.enter_link _ _ _
  · exact .refl _

theorem State.reachTs_link (s : State) (g : GroupNo) : LinkStep s (s.reachTs g) := by
  unfold State.reachTs
  extract_lets r ms
  split
  · exact .trans (.setGroup _ _ _) (.foldl State.freeOrdered_link _ _)
  · split
    · exact .setGroup _ _ _
    · exact .trans (.setGroup _ _ _) (State.offerSteady_link _ _)

theorem State.reachTm_link (s : State) (i : Ix) : LinkStep s (s.reachTm i) := by
  unfold State.reachTm
  extract_lets s1
  have h1 : LinkStep s s1 := .modMember_order _ _ _ fun o ho => by
    obtain ⟨o', ho', rfl⟩ := Option.map_eq_some_iff.mp ho
    exact ⟨o', ho', rfl, id⟩
  split
  · exact h1.trans (State.raise_link _ _ _ _ _)
  · exact h1

theorem State.membersUnknown_link (s : State) (k : SegNo) : LinkStep s (s.membersUnknown k) :=
  .foldl (fun s i => s.enter_link i _) _ _

theorem State.lineReads_link (s : State) (k : SegNo) (l : Level) : LinkStep s (s.lineReads k l) :=
  .modSegment _ _ _

theorem State.raiseStuck_link (s : State) (i : Ix) : LinkStep s (s.raiseStuck i) := by
  unfold State.raiseStuck
  split
  · exact .refl _
  · exact State.raise_link _ _ _ _ _

theorem State.endLatched_link (s : State) (i : Ix) (c : FaultClass) : LinkStep s (s.endLatched i c) := by
  unfold State.endLatched
  extract_lets s1 prev s2 new
  have h1 : LinkStep s s1 := .modMember _ _ _
  split
  · exact h1.trans (.modMember _ _ _)
  · have h2 : LinkStep s s2 := h1.trans (.modMember _ _ _)
    split
    · exact h2
    · exact h2.trans (.offer _ _)
  · exact h1

theorem State.clearClass_link (i : Ix) (s : State) (c : FaultClass) : LinkStep s (State.clearClass i s c) := by
  unfold State.clearClass
  split
  · exact State.endLatched_link _ _ _
  · exact .refl _

theorem State.clearMember_link (s : State) (i : Ix) : LinkStep s (s.clearMember i) := by
  unfold State.clearMember
  split
  · extract_lets s1
    have h1 : LinkStep s s1 := .foldl (State.clearClass_link i) _ _
    split
    · split
      · exact h1.trans (State.enter_link _ _ _)
      · exact h1.trans (State.readmit_link _ _ _)
    · exact h1
  · exact .refl _

end Sys2Proof.Machine
end

section
/-! SUPPORT. What completes, sends, maps or loads keeps the field link's records in form (`State.LinkSound`). -/

namespace Sys2Proof.Machine

/-! ### An order whose transaction has just completed -/

/-- An order is in hand on a segment: its transaction has left the segment, and it is not queued when it still stands. -/
def State.InHand (s : State) (k : SegNo) (i : Ix) (oid : Nat) : Prop :=
  s.Aloft k i oid ∧ (s.segment k).inFlight = none

theorem State.InHand.step {s t : State} {k : SegNo} {i : Ix} {oid : Nat} (h : s.InHand k i oid) (hs : s.LinkSound)
    (hl : LinkStep s t) : t.InHand k i oid :=
  ⟨(hl.keeps hs.serve hs.numbered).2.2 k i oid h.1, hl.landed h.2⟩

/-- A standing order in hand is in flight nowhere. -/
theorem State.InHand.not_inFlight {s : State} {k : SegNo} {i : Ix} {o : StandingOrder} (h : s.InHand k i o.oid)
    (hs : s.LinkSound) (ho : (s.member i).order = some o) {l : SegNo} {x : InFlight} {p : OrderPayload}
    (hx : (s.segment l).inFlight = some x) (hb : x.body = .order o.oid p) : x.target ≠ i := by
  rintro rfl
  obtain ⟨-, ⟨d, hd⟩, -⟩ := (hs.aloft l x _ p hx hb).2 o ho rfl
  obtain ⟨-, ⟨d', hd'⟩, -⟩ := h.1.2 o ho rfl
  rw [hd] at hd'
  cases hd'
  rw [h.2] at hx
  cases hx

/-- An order in hand, not DELIVERED, goes back to the queue of its segment (R73, R77, R78). -/
theorem State.InHand.requeue {s t : State} {k : SegNo} {i : Ix} {o o' : StandingOrder} (h : s.InHand k i o.oid)
    (hs : s.LinkSound) (ho : (s.member i).order = some o) (hoid : o'.oid = o.oid) (hout : o'.outcome ≠ .delivered)
    {y : Txn} (hyi : y.target = i) (hyb : ∃ p, y.body = .order o.oid p)
    (hm : t.stored.maps = s.stored.maps) (hnext : t.nextOid = s.nextOid)
    (hord : ∀ j, (t.member j).order = if j = i then some o' else (s.member j).order)
    (hf : ∀ l, (t.segment l).inFlight = (s.segment l).inFlight)
    (hq : ∀ l, (t.segment l).queue = if l = k then insertTxn y (s.segment k).queue else (s.segment l).queue) :
    t.LinkSound := by
  obtain ⟨p, hyb⟩ := hyb
  obtain ⟨-, hpl, hnone⟩ := h.1.2 o ho rfl
  obtain ⟨hnum, haloft⟩ := hs.numbered.requeued hm hnext hord (hoid ▸ h.1.1) hout fun l x hx => by
    rw [hq] at hx
    split at hx
    next hl =>
      subst hl
      rcases mem_insertTxn.mp hx with rfl | hx
      · refine .inr ⟨hyi, fun n q hb => ?_⟩
        rw [hyb] at hb
        cases hb
        exact h.1.1
      · exact .inl hx
    next => exact .inl hx
  refine ⟨fun l => ?_, hnum, fun l x n q hx hb => haloft l x.target n (fun hxi hne => ?_) ?_⟩
  · refine State.ServedBy.congr (s := s) ?_ hm
    rw [hq]
    split
    next hl =>
      subst hl
      refine State.ServedBy.insert (hs.serve l) (hyi ▸ hpl) fun x hx hxi hk => hnone l x hx (hxi.trans hyi) ?_
      rw [hk, hyb]
      rfl
    next => exact hs.serve l
  · rw [hf] at hx
    exact h.not_inFlight hs ho hx (by rw [hb, hne, hoid]) hxi
  · rw [hf] at hx
    exact hs.aloft l x n q hx hb

theorem State.InHand.putBack {s : State} {k : SegNo} {t : InFlight} {o : StandingOrder} (h : s.InHand k t.target o.oid)
    (hs : s.LinkSound) (ho : (s.member t.target).order = some o) (p : OrderPayload) :
    (s.putBackOrder k t o.oid p).LinkSound := by
  have hseg : ∀ l, (s.putBackOrder k t o.oid p).segment l
      = if l = k then
          { s.segment k with queue := insertTxn ⟨.order o.oid p, t.target, t.enqueued, t.seq⟩ (s.segment k).queue }
        else s.segment l := fun l => s.segment_modSegment k l _
  refine h.requeue (y := ⟨.order o.oid p, t.target, t.enqueued, t.seq⟩) hs ho rfl (h.1.2 o ho rfl).1 rfl ⟨p, rfl⟩ rfl rfl
    (fun j => ?_) (fun l => ?_) fun l => ?_
  · split
    next hj => exact hj ▸ ho
    next => rfl
  · rw [hseg]
    split
    next hl => rw [hl]
    next => rfl
  · rw [hseg]
    split <;> rfl

/-- The standing order in hand is DELIVERED: it is queued nowhere and in flight nowhere (R77). -/
theorem State.InHand.delivered {s : State} {k : SegNo} {i : Ix} {o : StandingOrder} (h : s.InHand k i o.oid)
    (hs : s.LinkSound) (ho : (s.member i).order = some o) :
    (s.modMember i fun m => { m with order := some { o with outcome := .delivered } }).LinkSound := by
  have hord : ∀ j, ((s.modMember i fun m => { m with order := some { o with outcome := .delivered } }).member j).order
      = if j = i then some { o with outcome := .delivered } else (s.member j).order := fun j => by
    rw [State.member_modMember]
    split <;> rfl
  obtain ⟨-, -, hnone⟩ := h.1.2 o ho rfl
  refine ⟨hs.serve, ⟨fun j o' hj => ?_, fun l y hy n p hb => ?_⟩, fun l x n p hx hb => ?_⟩
  · rw [hord] at hj
    split at hj
    · cases hj; exact h.1.1
    · exact hs.numbered.1 j o' hj
  · obtain ⟨hlt, hout⟩ := hs.numbered.2 l y hy n p hb
    refine ⟨hlt, fun o' h1 h2 => ?_⟩
    rw [hord] at h1
    split at h1
    next hyi => exact absurd (TxnBody.kind_order.mpr ⟨n, p, hb⟩) (hnone l y hy hyi)
    next => exact hout o' h1 h2
  · have ha := hs.aloft l x n p hx hb
    refine ⟨ha.1, fun o' h1 h2 => ?_⟩
    rw [hord] at h1
    split at h1
    next hxi =>
      cases h1
      exact absurd hxi (h.not_inFlight hs ho hx (by rw [hb, ← h2]))
    next => exact ha.2 o' h1 h2

/-- The standing order in hand is REFUSED and joins its segment's queue again (R77). -/
theorem State.InHand.refused {s : State} {k : SegNo} {i : Ix} {o : StandingOrder} (h : s.InHand k i o.oid)
    (hs : s.LinkSound) (ho : (s.member i).order = some o) :
    ((s.modMember i fun m => { m with order := some { o with outcome := .refused } }).modSegment k
      (·.join s.tref.e i (.order o.oid o.payload))).LinkSound := by
  have hseg : ∀ l, ((s.modMember i fun m => { m with order := some { o with outcome := .refused } }).modSegment k
      (·.join s.tref.e i (.order o.oid o.payload))).segment l
      = if l = k then (s.segment k).join s.tref.e i (.order o.oid o.payload) else s.segment l := fun l =>
    State.segment_modSegment _ k l _
  refine h.requeue (o' := { o with outcome := .refused }) (y := ⟨.order o.oid o.payload, i, s.tref.e, (s.segment k).nextSeq⟩)
    hs ho rfl nofun rfl ⟨o.payload, rfl⟩ rfl rfl (fun j => ?_) (fun l => ?_) fun l => ?_
  · have hmem := s.member_modMember i j fun m => { m with order := some { o with outcome := .refused } }
    refine (congrArg Member.order hmem).trans ?_
    split <;> rfl
  · rw [hseg]
    split
    next hl => rw [hl]; rfl
    next => rfl
  · rw [hseg]
    split <;> rfl

theorem State.orderAnswered_sound {s : State} {k : SegNo} {i : Ix} {o : StandingOrder} (h : s.InHand k i o.oid)
    (hs : s.LinkSound) (ho : (s.member i).order = some o) (r : OrderReply) : (s.orderAnswered i k o r).LinkSound := by
  unfold State.orderAnswered
  extract_lets acks
  split
  · split
    · exact h.refused hs ho
    · exact (State.raise_link _ _ _ _ _).linkSound (h.refused hs ho)
  · exact (State.endUndelivered_link _ _).linkSound (h.delivered hs ho)

theorem State.releaseAnswered_sound {s : State} {k : SegNo} {t : InFlight} {o : StandingOrder}
    (h : s.InHand k t.target o.oid) (hs : s.LinkSound) (ho : (s.member t.target).order = some o) (r : OrderReply) :
    (s.releaseAnswered t.target k t o r).LinkSound := by
  unfold State.releaseAnswered
  extract_lets acks
  split
  · exact h.putBack hs ho _
  · exact (State.clearOrder_link _ _).linkSound hs

theorem State.handleOrder_sound {s : State} {k : SegNo} {t : InFlight} {oid : Nat} (h : s.InHand k t.target oid)
    (hs : s.LinkSound) (r : OrderReply) : (s.handleOrder t.target k t oid r).LinkSound := by
  unfold State.handleOrder
  split
  next o ho =>
    split
    next hoid =>
      subst hoid
      split
      · exact State.orderAnswered_sound h hs ho r
      · exact State.releaseAnswered_sound h hs ho r
    next => exact hs
  next => exact hs

/-! ### Completion (R144) -/

theorem State.goodReply_sound {s : State} {k : SegNo} {t : InFlight}
    (h : ∀ oid p, t.body = .order oid p → s.InHand k t.target oid) (hs : s.LinkSound) (r : GoodReply) :
    (s.goodReply t.target k t r).LinkSound := by
  unfold State.goodReply
  split
  · exact (((LinkStep.modMember _ _ _).trans (State.commonSteps_link _ _ _)).trans (State.handlePoll_link _ _ _)).linkSound hs
  · have hc : ∀ r, LinkStep s (s.commonSteps t.target r) := fun r => State.commonSteps_link _ _ _
    split
    next oid p hb => exact State.handleOrder_sound ((h oid p hb).step hs (hc _)) ((hc _).linkSound hs) _
    next => exact (hc _).linkSound hs
  · exact ((State.commonSteps_link _ _ _).trans (State.handleQuery_link _ _ _)).linkSound hs

theorem State.noReplyTo_sound {s : State} {k : SegNo} {t : InFlight}
    (h : ∀ oid p, t.body = .order oid p → s.InHand k t.target oid) (hs : s.LinkSound)
    (hp : ∃ d, s.place t.target = some ⟨k, d⟩) : (s.noReplyTo t.target k t).LinkSound := by
  unfold State.noReplyTo
  extract_lets m s1 s2
  have h1 : LinkStep s s1 := .modMember _ _ _
  have h2 : LinkStep s s2 := by
    unfold s2
    split
    · exact h1.trans (State.raise_link _ _ _ _ _)
    · exact h1
  have hs2 : s2.LinkSound := h2.linkSound hs
  split
  next => exact hs2
  next oid p hb =>
    split
    next ho =>
      obtain ⟨o, hso, rfl⟩ := Option.map_eq_some_iff.mp ho
      exact ((h _ p hb).step hs h2).putBack hs2 hso p
    next => exact hs2
  next =>
    split
    next => exact hs2
    next hq =>
      refine (LinkStep.insertQuery s2 k _ ⟨.query, t.target, t.enqueued, t.seq⟩ rfl ?_ (by simpa using hq) rfl rfl).linkSound
        hs2
      simpa only [h2.place_eq] using hp

theorem State.deliver_sound {s : State} {k : SegNo} {t : InFlight}
    (h : ∀ oid p, t.body = .order oid p → s.InHand k t.target oid) (hs : s.LinkSound) (c : Completion) :
    (s.deliver k t c).LinkSound := by
  unfold State.deliver
  split
  next hpl =>
    extract_lets s1
    have h1 : LinkStep s s1 := by
      unfold s1
      split
      · exact .modPoll _ _ _
      · exact .refl _
    have hand : ∀ oid p, t.body = .order oid p → s1.InHand k t.target oid := fun oid p hb => (h oid p hb).step hs h1
    split
    · exact State.goodReply_sound hand (h1.linkSound hs) _
    · exact State.noReplyTo_sound hand (h1.linkSound hs) ⟨t.drop, (h1.place_eq _).trans hpl⟩
  next => exact hs

/-- The transaction in flight lands: its order, when it is one, is in hand. -/
theorem State.completeTxn_sound {s : State} (hs : s.LinkSound) (k : SegNo) (c : Completion) :
    (s.completeTxn k c).LinkSound := by
  unfold State.completeTxn
  split
  next => exact hs
  next t ht =>
    extract_lets s1
    have h1 : LinkStep s s1 := .modSegment _ _ _ (fun _ => .refl _) fun _ _ => nofun
    split
    next => exact (State.enterSegment_link _ _ _ _).linkSound (h1.linkSound hs)
    next =>
      refine State.deliver_sound (fun oid p hb => ⟨?_, ?_⟩) (h1.linkSound hs) c
      · exact (h1.keeps hs.serve hs.numbered).2.2 _ _ _ (hs.aloft k t oid p ht hb)
      · simp [s1]

/-! ### Sending (R142) -/

/-- The queued ORDER that is sent leaves the queue, and no other is queued for its target. -/
theorem State.LinkSound.sent {s : State} (hs : s.LinkSound) {k : SegNo} {y : Txn} {oid : Nat} {p : OrderPayload}
    (hy : y ∈ (s.segment k).queue) (hb : y.body = .order oid p) {q : SegNo → List Txn}
    (hq : ∀ l, (q l).Sublist (s.segment l).queue)
    (hout : ∀ x ∈ q k, ¬ (x.seq = y.seq ∧ x.target = y.target ∧ x.body.kind = y.body.kind)) :
    ∀ l, ∀ x ∈ q l, x.target = y.target → x.body.kind ≠ .order := by
  intro l x hx hxt hk
  obtain ⟨d, hd⟩ := (hs.serve l).1 x ((hq l).subset hx)
  obtain ⟨d', hd'⟩ := (hs.serve k).1 y hy
  rw [hxt, hd'] at hd
  cases hd
  have hyk : y.body.kind = .order := by rw [hb]; rfl
  by_cases hxy : x = y
  · subst hxy
    exact hout x hx ⟨rfl, rfl, rfl⟩
  · have : Std.Symm fun a b : Txn => ¬ (a.target = b.target ∧ a.body.kind = b.body.kind) :=
      ⟨fun _ _ hab hba => hab ⟨hba.1.symm, hba.2.symm⟩⟩
    exact (hs.serve k).2.forall ((hq k).subset hx) hy hxy ⟨hxt, hk.trans hyk.symm⟩

/-- What is sent as an ORDER was queued as it is. -/
theorem State.sentBody_order {s : State} {k : SegNo} {n : Named} {oid enq : Nat} {p : OrderPayload}
    (h : s.sentBody k n = some (.order oid p, enq)) :
    ∃ y ∈ (s.segment k).queue, y.body = .order oid p ∧ y.seq = n.seq ∧ y.target = n.target ∧ y.body.kind = n.kind := by
  unfold State.sentBody at h
  split at h
  · cases h
  · split at h
    next t ht =>
      have hfound := List.find?_some ht
      simp only [Bool.and_eq_true, decide_eq_true_eq] at hfound
      split at h
      next oid' p' hb =>
        cases h
        exact ⟨t, List.mem_of_find?_eq_some ht, hb, hfound.1.1, hfound.1.2, hfound.2⟩
      next => cases h
    next => cases h

theorem State.send_sound {s : State} (hs : s.LinkSound) (k : SegNo) (n : Named) : (s.send k n).LinkSound := by
  unfold State.send
  split
  next b enq pl hb hpl =>
    generalize hr : (fun r : Segment => ({ r with
      queue := r.queue.filter fun t => !(t.seq = n.seq && t.target = n.target && t.body.kind = n.kind)
      candidate := none
      inFlight := some ⟨b, n.target, pl.drop, s.tref.e, enq, n.seq, .request⟩
      line := .mark
      lineSince := s.crystal
      counters := r.counters.sent n.kind } : Segment)) = f
    have hseg : ∀ l, (s.modSegment k f).segment l = if l = k then f (s.segment k) else s.segment l := fun l =>
      s.segment_modSegment k l f
    have hq : ∀ l, ((s.modSegment k f).segment l).queue.Sublist (s.segment l).queue := fun l => by
      rw [hseg]
      split
      next h => subst h; rw [← hr]; exact List.filter_sublist
      next => exact .refl _
    obtain ⟨hserve, hnum, haloft⟩ := State.keeps_of_less (s := s) (t := s.modSegment k f) rfl (Nat.le_refl _) hq
      (fun i o h => ⟨o, h, rfl, id⟩) hs.serve hs.numbered
    refine ⟨hserve, hnum, fun l x oid p hx hxb => ?_⟩
    rw [hseg] at hx
    split at hx
    next hl =>
      subst hl
      rw [← hr] at hx
      cases hx
      subst hxb
      obtain ⟨y, hy, hyb, hyn⟩ := State.sentBody_order hb
      obtain ⟨hlt, hout⟩ := hs.numbered.2 l y hy oid p hyb
      rw [← hyn.2.1]
      refine ⟨hlt, fun o h1 h2 => ⟨hout o h1 h2, (hs.serve l).1 y hy, ?_⟩⟩
      refine hs.sent hy hyb hq fun x hx hxy => ?_
      rw [hseg, if_pos rfl, ← hr] at hx
      have hkept := (List.mem_filter.mp hx).2
      simp [hxy, hyn] at hkept
    next => exact haloft _ _ _ (hs.aloft l x oid p hx hxb)
  next => exact hs

theorem State.recheck_sound {s : State} (hs : s.LinkSound) (k : SegNo) (c : Candidate) : (s.recheck k c).LinkSound := by
  unfold State.recheck
  extract_lets displaced s0
  have h0 : LinkStep s s0 := .modSegment _ _ _
  split
  · exact h0.linkSound hs
  · refine State.send_sound ((h0.trans (.modSegment _ _ _ (fun r => ?_) fun r x h => ⟨x, ?_, rfl, rfl⟩)).linkSound hs) _ _
    · split <;> exact .refl _
    · split at h <;> exact h

theorem State.setPhase_link (s : State) (k : SegNo) (p : FieldPhase) : LinkStep s (s.setPhase k p) :=
  .modSegment _ _ _ (fun _ => .refl _) fun r x h => by
    obtain ⟨y, hy, rfl⟩ := Option.map_eq_some_iff.mp h
    exact ⟨y, hy, rfl, rfl⟩

/-! ### Mapping (R119, R121) -/

@[simp] theorem State.testsOf_members (s : State) (i : Ix) : (s.testsOf i).members = s.members := by
  unfold State.testsOf State.groupTests State.testSteady State.testWorking State.offerSteady
  split
  · split <;> split <;> simp
  · rfl

@[simp] theorem State.testsOf_segments (s : State) (i : Ix) : (s.testsOf i).segments = s.segments := by
  unfold State.testsOf State.groupTests State.testSteady State.testWorking State.offerSteady
  split
  · split <;> split <;> simp
  · rfl

theorem State.goOffline_order (s : State) (i : Ix) : ((s.goOffline i).member i).order = none := by
  unfold State.goOffline
  extract_lets s1
  rw [State.member, State.testsOf_members, ← State.member, State.member_modMember_self, Member.offline_order]

/-- A member that goes OFFLINE has nothing queued (R119). -/
theorem State.goOffline_queue {s : State} (hs : s.QueuesServe) (i : Ix) (k : SegNo) :
    ∀ y ∈ ((s.goOffline i).segment k).queue, y.target ≠ i := by
  intro y hy hyi
  unfold State.goOffline at hy
  extract_lets s1 at hy
  rw [State.segment, State.testsOf_segments, State.modMember_segments, ← State.segment] at hy
  unfold s1 at hy
  split at hy
  next pl hpl =>
    rw [State.segment_modSegment] at hy
    split at hy
    next => simpa [hyi] using (List.mem_filter.mp hy).2
    next hk =>
      obtain ⟨d, hd⟩ := (hs k).1 y hy
      rw [hyi, hpl] at hd
      cases hd
      exact hk rfl
  next hpl =>
    obtain ⟨d, hd⟩ := (hs k).1 y hy
    rw [hyi, hpl] at hd
    cases hd

theorem State.place_setPlace (s : State) (i j : Ix) (pl : Option Place) :
    (s.setPlace i pl).place j = if j = i then pl else s.place j := vget_vset _ _ _ _

/-- The map of an intersection may change while nothing is queued for it and it has no standing order aloft. -/
theorem State.LinkSound.setPlace {s : State} (hs : s.LinkSound) {i : Ix}
    (hq : ∀ k, ∀ y ∈ (s.segment k).queue, y.target ≠ i)
    (ha : ∀ k oid, s.Aloft k i oid → ∀ o, (s.member i).order = some o → o.oid ≠ oid) (pl : Option Place) :
    (s.setPlace i pl).LinkSound := by
  refine ⟨fun k => ⟨fun x hx => ?_, (hs.serve k).2⟩, hs.numbered, fun k x oid p hx hb => ?_⟩
  · rw [State.place_setPlace, if_neg (hq k x hx)]
    exact (hs.serve k).1 x hx
  · have haloft := hs.aloft k x oid p hx hb
    refine ⟨haloft.1, fun o h1 h2 => ?_⟩
    have hxi : x.target ≠ i := by
      rintro rfl
      exact ha k oid haloft o h1 h2
    obtain ⟨hnd, hpl, hnq⟩ := haloft.2 o h1 h2
    refine ⟨hnd, ?_, hnq⟩
    rw [State.place_setPlace, if_neg hxi]
    exact hpl

theorem State.unmap_sound {s : State} (hs : s.LinkSound) (i : Ix) : (s.unmap i).LinkSound := by
  have h1 := (s.goOffline_link i).linkSound hs
  refine (LinkStep.setPoll _ _ _).linkSound (h1.setPlace (s.goOffline_queue hs.serve i) (fun k oid _ o ho => ?_) none)
  rw [State.goOffline_order] at ho
  cases ho

theorem State.mapTo_sound {s : State} (hs : s.LinkSound) {i : Ix} (hi : s.place i = none) (pl : Place) :
    (s.mapTo i pl).LinkSound := by
  have h0 : (s.setPlace i (some pl)).LinkSound := by
    refine hs.setPlace (fun k y hy hyi => ?_) (fun k oid h o ho hoid => ?_) (some pl)
    · obtain ⟨d, hd⟩ := (hs.serve k).1 y hy
      rw [hyi, hi] at hd
      cases hd
    · obtain ⟨-, ⟨d, hd⟩, -⟩ := h.2 o ho hoid
      rw [hi] at hd
      cases hd
  unfold State.mapTo
  extract_lets st s1 s2
  have h1 : s1.LinkSound := (LinkStep.setPoll _ _ _).linkSound h0
  have h2 : s2.LinkSound := by
    unfold s2
    split
    · exact (State.enter_link _ _ _).linkSound h1
    · exact h1
  split
  · exact (State.enqueueQuery_link _ _).linkSound h2
  · exact h2

theorem State.unmap_place (s : State) (i : Ix) : (s.unmap i).place i = none := by
  rw [State.unmap, State.place, State.setPoll_stored, ← State.place, State.place_setPlace, if_pos rfl]

/-! ### Without anything under way (R134) -/

/-- With nothing queued, in flight or standing the records are in form, whatever the maps are. -/
theorem State.LinkSound.of_still {s : State} (hm : ∀ i, (s.member i).order = none) (hq : ∀ k, (s.segment k).queue = [])
    (hf : ∀ k, (s.segment k).inFlight = none) : s.LinkSound := by
  refine ⟨fun k => ?_, ⟨fun i o h => ?_, fun k y hy => ?_⟩, fun k x oid p hx => ?_⟩
  · rw [hq]; exact ⟨nofun, .nil⟩
  · rw [hm] at h; cases h
  · rw [hq] at hy; cases hy
  · rw [hf] at hx; cases hx

end Sys2Proof.Machine
end

section
/-! SUPPORT. What a command keeps of the clock, the segment queues, the poll states, the ports and the field link's records (`Kept`). -/

namespace Sys2Proof.Machine

/-! ### Ports (R169, R177, R179) -/

theorem count16_le (n : Nat) : count16 n ≤ 65535 := Nat.min_le_left _ _

namespace PortState.InRange

variable {p : PortState} (h : p.InRange)
include h

theorem copy (n : Notice) : (p.copy n).InRange := by
  obtain ⟨hq, hb, hc⟩ := h
  unfold PortState.copy
  split
  · split
    next hlt => exact ⟨by simpa using hlt, hb, hc⟩
    next =>
      obtain ⟨h1, h2, h3, h4, h5, -, h7⟩ := hc
      exact ⟨hq, hb, h1, h2, h3, h4, h5, count16_le _, h7⟩
  · exact ⟨hq, hb, hc⟩

theorem pump : p.pump.InRange := by
  obtain ⟨hq, hb, hc⟩ := h
  unfold PortState.pump
  split
  · exact ⟨hq, hb, hc⟩
  · split
    · exact ⟨hq, hb, hc⟩
    · split
      next hl =>
        rw [hl] at hb
        exact ⟨hq, Nat.le_of_succ_le hb, hc⟩
      next hl =>
        rw [hl] at hq
        obtain ⟨h1, h2, h3, h4, h5, h6, -⟩ := hc
        exact ⟨Nat.le_of_succ_le hq, hb, h1, h2, h3, h4, h5, h6, count16_le _⟩
      next => exact ⟨hq, hb, hc⟩

theorem joinBusy (r : Reply) : (p.joinBusy r).InRange := by
  obtain ⟨hq, hb, hc⟩ := h
  unfold PortState.joinBusy
  split
  next hlt => exact ⟨hq, by simpa using hlt, hc⟩
  next =>
    obtain ⟨h1, h2, h3, -, h5, h6, h7⟩ := hc
    exact ⟨hq, hb, h1, h2, h3, count16_le _, h5, h6, h7⟩

theorem refuseBusy (tag : BitVec 16) (code : Nat) : (p.refuseBusy tag code).InRange := by
  obtain ⟨hq, hb, h1, h2, h3, h4, h5, h6, h7⟩ := h
  unfold PortState.refuseBusy
  split
  next hlt => exact ⟨hq, by simpa using hlt, h1, h2, count16_le _, h4, h5, h6, h7⟩
  next => exact ⟨hq, hb, h1, h2, h3, count16_le _, h5, h6, h7⟩

theorem refuseDenied (tag : BitVec 16) (code : Nat) : (p.refuseDenied tag code).InRange := by
  obtain ⟨hq, hb, h1, h2, h3, h4, h5, h6, h7⟩ := h
  exact InRange.joinBusy (p := { p with counters := { p.counters with denied := count16 p.counters.denied } })
    ⟨hq, hb, h1, h2, h3, h4, count16_le _, h6, h7⟩ _

theorem giveReply (a : Answer) : (p.giveReply a).InRange := by
  unfold PortState.giveReply
  split
  · exact h
  · exact h

theorem frameError (rx : RxState) : (p.frameError rx).InRange := by
  obtain ⟨hq, hb, h1, h2, h3, h4, h5, h6, h7⟩ := h
  exact ⟨hq, hb, h1, count16_le _, h3, h4, h5, h6, h7⟩

theorem endGap (now : Nat) : (p.endGap now).InRange := by
  unfold PortState.endGap
  split
  · exact InRange.frameError h _
  · exact h

theorem takeFrame (now : Nat) : (p.takeFrame now).InRange := by
  obtain ⟨hq, hb, h1, h2, h3, h4, h5, h6, h7⟩ := InRange.endGap h now
  exact ⟨hq, hb, count16_le _, h2, h3, h4, h5, h6, h7⟩

theorem sent : p.sent.InRange := by
  unfold PortState.sent
  split
  · exact h
  · exact h
  · exact h

end PortState.InRange

/-! ### Queues (R140) -/

theorem Txn.before_iff (a b : Txn) :
    a.before b = true ↔ a.enqueued < b.enqueued ∨ (a.enqueued = b.enqueued ∧ a.seq < b.seq) := by simp [Txn.before]

theorem Txn.not_before_iff (a b : Txn) :
    a.before b = false ↔ b.enqueued < a.enqueued ∨ (a.enqueued = b.enqueued ∧ b.seq ≤ a.seq) := by
  rw [← Bool.not_eq_true, Txn.before_iff]
  omega

/-- A queue in queue order: no transaction stands behind one that it comes before. -/
def InQueueOrder (q : List Txn) : Prop := q.Pairwise fun a b => b.before a = false

theorem InQueueOrder.insert {q : List Txn} (h : InQueueOrder q) (t : Txn) : InQueueOrder (insertTxn t q) := by
  induction q with
  | nil => exact List.pairwise_singleton _ _
  | cons u q ih =>
    obtain ⟨hu, hq⟩ := List.pairwise_cons.mp h
    rw [insertTxn]
    split
    next htu =>
      refine List.pairwise_cons.mpr ⟨fun x hx => ?_, h⟩
      rw [Txn.before_iff] at htu
      rw [Txn.not_before_iff]
      rcases List.mem_cons.mp hx with rfl | hx
      · omega
      · have := (Txn.not_before_iff _ _).mp (hu x hx)
        omega
    next htu =>
      refine List.pairwise_cons.mpr ⟨fun x hx => ?_, ih hq⟩
      rcases mem_insertTxn.mp hx with rfl | hx
      · simpa using htu
      · exact hu x hx

theorem InQueueOrder.edit {q r : List Txn} (h : InQueueOrder q) (he : QueueEdit q r) : InQueueOrder r := by
  cases he with
  | same => exact h
  | insert t => exact h.insert t
  | filter p => exact h.sublist List.filter_sublist
  | rebody f hf =>
    refine List.pairwise_map.mpr (h.imp fun {a b} hab => ?_)
    rw [Txn.not_before_iff] at hab ⊢
    rw [(hf a).1, (hf a).2, (hf b).1, (hf b).2]
    exact hab

/-! ### Poll states (R150 to R154) -/

theorem Poll.Sound.discharge {p : Poll} (h : p.Sound) : p.discharge.Sound := by
  obtain ⟨h15, h8, h12⟩ := h
  refine ⟨?_, fun ho => ?_, fun hb => ?_⟩
  · show p.backlog - 1 ≤ 15
    omega
  · simp [Poll.discharge] at ho
    show 8 ≤ p.backlog - 1
    omega
  · have hb' : 12 ≤ p.backlog - 1 := hb
    have hov := h12 (by omega)
    simp [Poll.discharge, hov]
    omega

theorem Poll.Sound.expire {p : Poll} (h : p.Sound) (due : Nat) : (p.expire due).Sound := by
  obtain ⟨h15, h8, h12⟩ := h
  have hb : (p.expire due).backlog = if p.backlog < 15 then p.backlog + 1 else p.backlog := rfl
  have ho : (p.expire due).overdue = true ↔ p.overdue = true ∨ p.backlog + 1 = 12 := by simp [Poll.expire]
  refine ⟨?_, fun hov => ?_, fun hge => ?_⟩
  · rw [hb]
    split <;> omega
  · rw [hb]
    rcases ho.mp hov with hov | hov
    · have := h8 hov
      split <;> omega
    · split <;> omega
  · rw [hb] at hge
    rw [ho]
    by_cases h11 : p.backlog + 1 = 12
    · exact .inr h11
    · refine .inl (h12 ?_)
      split at hge <;> omega

theorem Poll.Sound.stopAt {p : Poll} (h : p.Sound) (now : Nat) : (p.stopAt now).Sound := by
  unfold Poll.stopAt
  split <;> exact h

theorem Poll.sound_empty (c : IntervalCounter) : Poll.Sound ⟨c, 0, false⟩ := ⟨Nat.zero_le _, nofun, nofun⟩

/-! ### What a command keeps -/

/-- The five promises that a command keeps. -/
structure Kept (s t : State) : Prop where
  clock : s.ClockInRange → t.ClockInRange
  queues : s.QueuesInOrder → t.QueuesInOrder
  polls : s.PollsSound → t.PollsSound
  ports : s.PortsInRange → t.PortsInRange
  link : s.LinkSound → t.LinkSound

namespace Kept

theorem refl (s : State) : Kept s s := ⟨id, id, id, id, id⟩

theorem trans {s t u : State} (h1 : Kept s t) (h2 : Kept t u) : Kept s u :=
  ⟨h2.clock ∘ h1.clock, h2.queues ∘ h1.queues, h2.polls ∘ h1.polls, h2.ports ∘ h1.ports, h2.link ∘ h1.link⟩

theorem foldl {α : Type} {f : State → α → State} (h : ∀ s a, Kept s (f s a)) (l : List α) (s : State) :
    Kept s (l.foldl f s) := by
  induction l generalizing s with
  | nil => exact .refl _
  | cons a l ih => exact .trans (h s a) (ih _)

/-- What leaves the tables of the five promises alone, and starts no service. -/
theorem of_same {s t : State} (htref : t.tref = s.tref) (hsegs : t.segments = s.segments) (hpolls : t.polls = s.polls)
    (hports : t.ports = s.ports) (hmem : t.members = s.members) (hoid : t.nextOid = s.nextOid)
    (hmaps : t.stored.maps = s.stored.maps) (hphase : t.phase = .running → s.phase = .running) : Kept s t where
  clock := by unfold State.ClockInRange; rw [htref]; exact id
  queues := by unfold State.QueuesInOrder State.segment; rw [hsegs]; exact id
  polls := by
    unfold State.PollsSound State.poll State.place
    rw [hpolls, hmaps]
    exact fun h => ⟨h.1, fun hp => h.2 (hphase hp)⟩
  ports := by unfold State.PortsInRange State.port; rw [hports]; exact id
  link := (LinkStep.of_same hmaps hsegs hoid hmem).linkSound

theorem setTref (s : State) (r : Tref) (h : s.ClockInRange → r.e ≤ Config.lastE ∧ -20 ≤ r.slew ∧ r.slew ≤ 20) :
    Kept s { s with tref := r } :=
  ⟨h, id, id, id, (LinkStep.of_same (s := s) (t := { s with tref := r }) rfl rfl rfl rfl).linkSound⟩

theorem setMembers (s : State) (v : Vector Member 64) (h : ∀ i, (vget v i).order = (s.member i).order) :
    Kept s { s with members := v } :=
  ⟨id, id, id, id, (LinkStep.of_less (s := s) (t := { s with members := v }) rfl (LinkStep.inFlight_of_eq fun _ => rfl)
    (Nat.le_refl _) (fun _ => .refl _) fun i o ho => ⟨o, (h i).symm.trans ho, rfl, id⟩).linkSound⟩

theorem owe (s : State) (g : GroupSet) : Kept s (s.owe g) := of_same rfl rfl rfl rfl rfl rfl rfl id

theorem setGroup (s : State) (g : GroupNo) (r : Group) : Kept s (s.setGroup g r) :=
  of_same rfl rfl rfl rfl rfl rfl rfl id

/-- An update of a port that keeps its queue, list and counters within their sizes. -/
theorem modPort (s : State) (p : Port) (f : PortState → PortState) (h : ∀ q, q.InRange → (f q).InRange) :
    Kept s (s.modPort p f) where
  clock := id
  queues := id
  polls := id
  ports hs q := by
    by_cases hqp : q = p
    · subst hqp
      rw [State.port_modPort_self]
      exact h _ (hs q)
    · rw [State.port_modPort_ne _ _ _ _ hqp]
      exact hs q
  link := (LinkStep.modPort _ _ _).linkSound

/-- An update of every port. -/
theorem setPorts (s : State) (ps : PerPort PortState) (h : s.PortsInRange → ∀ p, (ps.get p).InRange) :
    Kept s { s with ports := ps } :=
  ⟨id, id, id, h, (LinkStep.of_same (s := s) (t := { s with ports := ps }) rfl rfl rfl rfl).linkSound⟩

theorem offerAt (s : State) (e : Nat) (b : NoticeBody) : Kept s (s.offerAt e b) := by
  unfold State.offerAt
  split
  · refine setPorts s _ fun hs p => ?_
    cases p
    · exact (hs .centre).copy _
    · exact (hs .event).copy _
    · exact (hs .cabinet).copy _
  · exact refl s

theorem offer (s : State) (b : NoticeBody) : Kept s (s.offer b) := offerAt _ _ _

theorem pump (s : State) : Kept s s.pump := by
  refine setPorts s _ fun hs p => ?_
  cases p
  · exact (hs .centre).pump
  · exact (hs .event).pump
  · exact (hs .cabinet).pump

/-- An update of a poll state that keeps it sound. -/
theorem modPoll (s : State) (i : Ix) (f : Poll → Poll) (h : ∀ p, p.Sound → (f p).Sound) : Kept s (s.modPoll i f) where
  clock := id
  queues := id
  polls hs := by
    have hread : ∀ j, (s.modPoll i f).poll j = if j = i then (s.poll i).map f else s.poll j := fun j => vget_vset _ _ _ _
    refine ⟨fun j p hj => ?_, fun hr j hj => ?_⟩
    · rw [hread] at hj
      split at hj
      · obtain ⟨q, hq, rfl⟩ := Option.map_eq_some_iff.mp hj
        exact h q (hs.1 i q hq)
      · exact hs.1 j p hj
    · have hn := hs.2 hr j hj
      rw [hread]
      split
      next hji =>
        subst hji
        rw [hn]
        rfl
      next => exact hn
  ports := id
  link := (LinkStep.modPoll _ _ _).linkSound

/-- A mapped intersection is given a sound poll state. -/
theorem setPoll (s : State) (i : Ix) (p : Poll) (hi : s.place i ≠ none) (h : p.Sound) : Kept s (s.setPoll i (some p)) where
  clock := id
  queues := id
  polls hs := by
    have hread : ∀ j, (s.setPoll i (some p)).poll j = if j = i then some p else s.poll j := fun j => vget_vset _ _ _ _
    refine ⟨fun j q hj => ?_, fun hr j hj => ?_⟩
    · rw [hread] at hj
      split at hj
      · cases hj; exact h
      · exact hs.1 j q hj
    · rw [hread]
      split
      next hji => exact absurd (hji ▸ hj) hi
      next => exact hs.2 hr j hj
  ports := id
  link := (LinkStep.setPoll _ _ _).linkSound

/-- The operations of coordination and of the field link keep the promises when they keep the field link's records in form. -/
theorem of_works {s t : State} (w : Works s t) (h : s.LinkSound → t.LinkSound) : Kept s t where
  clock := by unfold State.ClockInRange; rw [w.tref_eq]; exact id
  queues hs := w.keeps hs (fun _ _ _ _ h => h) (fun _ _ _ h => h)
    (fun s k r he h l => by
      by_cases hl : l = k
      · subst hl
        rw [State.segment_setSegment_self]
        exact InQueueOrder.edit (h l) he
      · rw [State.segment_setSegment_ne _ _ _ _ hl]
        exact h l)
    (fun _ _ h => h) (fun s b h => (offer s b).queues h) (fun _ _ h => h)
  polls hs := w.keeps hs (fun _ _ _ _ h => h) (fun _ _ _ h => h) (fun _ _ _ _ h => h)
    (fun s i h => (modPoll s i Poll.discharge fun _ => Poll.Sound.discharge).polls h) (fun s b h => (offer s b).polls h)
    (fun _ _ h => h)
  ports hs := w.keeps hs (fun _ _ _ _ h => h) (fun _ _ _ h => h) (fun _ _ _ _ h => h) (fun _ _ h => h)
    (fun s b h => (offer s b).ports h) (fun _ _ h => h)
  link := h

theorem of_step {s t : State} (w : Works s t) (l : LinkStep s t) : Kept s t := of_works w l.linkSound

theorem settle (s : State) : Kept s s.settle :=
  .trans (of_step (.foldl _ State.choose_works _ _) (.foldl State.choose_link _ _)) (pump _)

end Kept

end Sys2Proof.Machine
end

section
/-! SUPPORT. Each request keeps the five promises. -/

namespace Sys2Proof.Machine

/-! ### How a command is built -/

/-- A guarded event keeps what its effect keeps. -/
theorem Kept.guarded {s t : State} {g : Prop} [Decidable g] (h : g → Kept s t) : Kept s (if g then t.settle else s) := by
  split
  next hg => exact (h hg).trans (.settle _)
  next => exact .refl _

/-- A request keeps what its block keeps. -/
theorem Kept.request {α : Type} (s : State) (f : RequestFrame) (rq : Request) (args : Option α)
    {block : α → State → State × Option Answer} (h : ∀ a u, Kept u (block a u).1) :
    Kept s (s.request f rq args block).settle := by
  refine .trans ?_ (.settle _)
  unfold State.request
  extract_lets s1
  have h1 : Kept s s1 := .modPort _ _ _ fun q hq => hq.takeFrame _
  refine h1.trans ?_
  split
  · exact .modPort _ _ _ fun q hq => hq.refuseBusy _ _
  · split
    · exact .modPort _ _ _ fun q hq => hq.joinBusy _
    · split
      · extract_lets r
        have hserve : Kept s1 (s1.modPort f.port fun p => { p with service := some ⟨f.tag, rq, none⟩ }) :=
          .modPort _ _ _ fun _ hq => hq
        have hr : Kept s1 r.1 := hserve.trans (h _ _)
        split
        · exact hr.trans (.modPort _ _ _ fun q hq => hq.giveReply _)
        · exact hr
      · exact .modPort _ _ _ fun q hq => hq.refuseDenied _ _

theorem Kept.unlessCommitting {s : State} {r : State × Answer} (h : Kept s r.1) : Kept s (unlessCommitting s r).1 := by
  unfold Machine.unlessCommitting
  split
  · exact .refl _
  · exact h

/-- The stored tables change but for the maps. -/
theorem Kept.setStored (s : State) (t : Stored) (h : t.maps = s.stored.maps := by rfl) :
    Kept s { s with stored := t } :=
  .of_same rfl rfl rfl rfl rfl rfl h id

/-! ### Network time -/

theorem State.stepped_kept (s : State) : Kept s s.stepped := by
  refine .trans (.setMembers s (s.members.map Member.resyncStep) fun i => ?_) (.owe _ _)
  simp only [State.member, vget, Vector.getElem_map, Member.resyncStep]
  split <;> rfl

theorem State.lock_kept (s : State) (c : TimeCause) : Kept s (s.lock c) := by
  unfold State.lock
  have h1 := Kept.setTref s { s.tref with state := .locked, timerStart := some s.crystalDs } id
  simp only
  split
  · exact h1
  · exact h1.trans (.offer _ _)

theorem State.acceptMark_kept (s : State) : Kept s s.acceptMark :=
  .trans (.setTref s { s.tref with
    accepted := count16 s.tref.accepted, lastMark := some ⟨s.tref.e, s.crystalDs⟩ } id) (State.lock_kept _ _)

theorem le_lastE_of_within {v : Nat} (h : ¬ Config.days ≤ v / Config.dayDs) : v ≤ Config.lastE := by
  rw [beyondEpoch_iff] at h
  simp only [Config.lastE]
  omega

/-- An accepted mark names a day of the epoch. -/
theorem State.judgeMark_accepted {s : State} {ec : Nat} {o : MarkOutcome} (h : s.judgeMark ec = .accepted o) :
    ec ≤ Config.lastE := by
  refine le_lastE_of_within fun hb => ?_
  simp only [State.judgeMark, hb, if_true] at h
  cases h

/-- A slewed mark leaves at most 20 ds to be taken up (Table 2-4). -/
theorem State.judgeMark_slewed {s : State} {ec : Nat} (h : s.judgeMark ec = .accepted .slewed) :
    ((ec : Int) - s.tref.e).natAbs ≤ 20 := by
  unfold State.judgeMark at h
  extract_lets delta elapsed at h
  split at h
  · cases h
  · split at h
    · cases h
    · split at h
      · cases h
      · split at h
        · cases h
        · split at h
          · assumption
          · cases h

theorem markBlock_kept (ec : Nat) (s : State) : Kept s (markBlock ec s).1 := by
  cases hj : s.judgeMark ec with
  | beyondEpoch =>
    simp only [markBlock, hj]
    exact .setTref s _ (by exact id)
  | early d =>
    simp only [markBlock, hj]
    exact .setTref s _ (by exact id)
  | range =>
    simp only [markBlock, hj]
    exact .setTref s _ (by exact id)
  | accepted o =>
    have he := State.judgeMark_accepted hj
    cases o with
    | set =>
      rw [markBlock_set hj]
      exact ((Kept.setTref s { s.tref with e := ec } fun h => ⟨he, h.2⟩).trans (State.acceptMark_kept _)).trans
        (State.stepped_kept _)
    | stepped =>
      rw [markBlock_stepped hj]
      exact ((Kept.setTref s { s.tref with e := ec, slew := 0 } fun _ => ⟨he, by simp⟩).trans
        (State.acceptMark_kept _)).trans (State.stepped_kept _)
    | slewed =>
      have hd := State.judgeMark_slewed hj
      rw [markBlock_slewed hj]
      have h1 : Kept s _ := (Kept.setTref s { s.tref with slew := (ec : Int) - s.tref.e, slewStart := s.crystal / 100 }
        fun h => ⟨h.1, by simp only; omega, by simp only; omega⟩).trans (State.acceptMark_kept _)
      simp only
      split
      · exact h1.trans (.owe _ _)
      · exact h1

theorem setTimeBlock_kept (v : Nat) (s : State) : Kept s (setTimeBlock v s).1 := by
  unfold setTimeBlock
  split
  next => exact .refl _
  next h =>
    exact ((Kept.setTref s { s.tref with e := v, slew := 0, lastMark := none } fun _ =>
      ⟨le_lastE_of_within h, by simp⟩).trans (State.lock_kept _ _)).trans (State.stepped_kept _)

theorem State.expire2P_kept (s : State) : Kept s s.expire2P := by
  unfold State.expire2P
  split
  · exact .trans (.setTref s { s.tref with state := .holdover } id) (.offer _ _)
  · exact .refl _

theorem State.expireH_kept (s : State) : Kept s s.expireH := by
  unfold State.expireH
  split
  · exact .trans (.setTref s { s.tref with state := .untimed, timerStart := none } id) (.offer _ _)
  · exact .refl _

theorem State.judgeTimers_kept (s : State) : Kept s s.judgeTimers := by
  unfold State.judgeTimers
  split
  · extract_lets s1
    have h1 : Kept s s1 := .of_same rfl rfl rfl rfl rfl rfl rfl id
    split
    · exact (h1.trans (State.expire2P_kept _)).trans (State.expireH_kept _)
    · exact h1.trans (State.expireH_kept _)
  · exact (State.expire2P_kept _).trans (State.expireH_kept _)

/-! ### Plans, offsets and parameters -/

theorem writePlanBlock_kept (a : WritePlanArgs) (s : State) : Kept s (writePlanBlock a s).1 := by
  refine .unlessCommitting ?_
  split
  · exact .refl _
  · extract_lets same
    split
    · exact .refl _
    · exact .setStored _ _

theorem deletePlanBlock_kept (k : Nat) (s : State) : Kept s (deletePlanBlock k s).1 := by
  refine .unlessCommitting ?_
  split
  · exact .refl _
  · split
    · exact .refl _
    · split
      · exact .refl _
      · exact .setStored _ _

theorem readPlanBlock_kept (k : Nat) (s : State) : Kept s (readPlanBlock k s).1 := by
  unfold readPlanBlock
  split
  · exact .refl _
  · split <;> exact .refl _

theorem writeOffsetBlock_kept (a : WriteOffsetArgs) (s : State) : Kept s (writeOffsetBlock a s).1 := by
  refine .unlessCommitting ?_
  split
  · split
    · exact .refl _
    next p hp =>
      have h1 := Kept.setStored s (s.stored.setOffset ‹_› ‹_› (a.offset % p.cycle))
      simp only
      split
      · exact h1.trans (.of_step (.modMember _ _ _) (.modMember _ _ _))
      · exact h1
  · exact .refl _

theorem readOffsetBlock_kept (a : ReadOffsetArgs) (s : State) : Kept s (readOffsetBlock a s).1 := by
  unfold readOffsetBlock
  split
  · exact .refl _
  · split
    · split <;> exact .refl _
    · exact .refl _

theorem writeParamsBlock_kept (items : List ParamItem) (s : State) : Kept s (writeParamsBlock items s).1 := by
  refine .unlessCommitting ?_
  split
  · have h1 := Kept.setStored s { s.stored with params := items.foldl Params.store s.stored.params }
    simp only
    split
    · exact h1.trans (State.judgeTimers_kept _)
    · exact h1
  · exact .refl _

theorem setEventGroupsBlock_kept (mask : GroupSet) (s : State) : Kept s (setEventGroupsBlock mask s).1 :=
  .unlessCommitting (.setStored _ _)

theorem writeSegmentParamsBlock_kept (a : SegParamArgs) (s : State) : Kept s (writeSegmentParamsBlock a s).1 := by
  refine .unlessCommitting ?_
  split
  · exact .refl _
  · split
    · exact .setStored _ _
    · exact .refl _

/-! ### The timetable and its evaluation -/

theorem Stored.putEntry_maps (t : Stored) (x : Entry) : (t.putEntry x).maps = t.maps := by
  unfold Stored.putEntry
  split <;> rfl

theorem addEntryBlock_kept (p : Port) (a : AddEntryArgs) (s : State) : Kept s (addEntryBlock p a s).1 := by
  refine .unlessCommitting ?_
  split
  · exact .refl _
  · split
    · exact .refl _
    · split
      · exact .refl _
      · split
        · exact .refl _
        · split
          · exact .refl _
          · split
            · exact .refl _
            · exact .trans (.setStored _ _ (Stored.putEntry_maps _ _)) (.owe _ _)

theorem removeEntryBlock_kept (p : Port) (id : Nat) (s : State) : Kept s (removeEntryBlock p id s).1 := by
  refine .unlessCommitting ?_
  split
  · exact .refl _
  · split
    · exact .refl _
    · exact .trans (.setStored _ _) (.owe _ _)

theorem readEntryBlock_kept (id : Nat) (s : State) : Kept s (readEntryBlock id s).1 := by
  unfold readEntryBlock
  split <;> exact .refl _

theorem listEntriesBlock_kept (a : ListEntriesArgs) (s : State) : Kept s (listEntriesBlock a s).1 := by
  unfold listEntriesBlock
  extract_lets answer
  split <;> exact .refl _

theorem State.tidy_kept (s : State) : Kept s s.tidy :=
  .trans (.setStored s { s.stored with dated := tidyList s.stored.recurring s.tref.e s.stored.dated } rfl)
    (.foldl .offer _ _)

theorem State.evaluate_kept (s : State) (scope : GroupSet) : Kept s (s.evaluate scope) := by
  unfold State.evaluate
  extract_lets consult scope1 s1
  have h1 : Kept s s1 := by
    unfold s1
    split
    · exact State.tidy_kept _
    · exact .refl _
  exact h1.trans (.of_step (.foldl _ State.evaluateGroup_works _ _) (.foldl State.evaluateGroup_link _ _))

/-! ### Groups -/

theorem placeHoldBlock_kept (p : Port) (a : PlaceHoldArgs) (s : State) : Kept s (placeHoldBlock p a s).1 := by
  unfold placeHoldBlock
  split
  · exact .refl _
  · split
    · exact .refl _
    · refine .trans ?_ (.owe _ _)
      split
      · exact .trans (.setGroup _ _ _) (.offer _ _)
      · exact .setGroup _ _ _

theorem releaseHoldBlock_kept (p : Port) (a : ReleaseHoldArgs) (s : State) : Kept s (releaseHoldBlock p a s).1 := by
  unfold releaseHoldBlock
  split
  · exact .refl _
  · split
    · exact .refl _
    · split
      · exact .refl _
      · split
        · exact .refl _
        · exact .trans (.setGroup _ _ _) (.owe _ _)

theorem State.setGroupOf_kept (s : State) (v : Vector (Option GroupNo) 64) : Kept s (s.setGroupOf v) :=
  .setStored _ _

theorem setMembersBlock_kept (a : SetMembersArgs) (s : State) : Kept s (setMembersBlock a s).1 := by
  refine .unlessCommitting ?_
  split
  · extract_lets before after leaves taken gone reply s1 s2 others
    split
    · exact .refl _
    · have h1 : Kept s s1 := (State.setGroupOf_kept _ _).trans
        (.of_step (.foldl _ State.leave_works _ _) (.foldl State.leave_link _ _))
      have h2 : Kept s s2 := (h1.trans (State.setGroupOf_kept _ _)).trans
        (.of_step (.foldl _ (State.joinGroup_works _) _ _) (.foldl (State.joinGroup_link _) _ _))
      exact (h2.trans (.owe _ _)).trans (.foldl (fun _ _ => .owe _ _) _ _)
  · exact .refl _

theorem readGroupBlock_kept (n : Nat) (s : State) : Kept s (readGroupBlock n s).1 := by
  unfold readGroupBlock
  split <;> exact .refl _

/-! ### Intersections -/

/-- Unmapping leaves no poll state behind (R121). -/
theorem State.unmap_kept (s : State) (i : Ix) : Kept s (s.unmap i) where
  clock := (Kept.of_step (s.goOffline_works i) (s.goOffline_link i)).clock
  queues := (Kept.of_step (s.goOffline_works i) (s.goOffline_link i)).queues
  ports := (Kept.of_step (s.goOffline_works i) (s.goOffline_link i)).ports
  link hs := State.unmap_sound hs i
  polls hs := by
    have h := (Kept.of_step (s.goOffline_works i) (s.goOffline_link i)).polls hs
    have hread : ∀ j, (s.unmap i).poll j = if j = i then none else (s.goOffline i).poll j := fun j => vget_vset _ _ _ _
    refine ⟨fun j p hj => ?_, fun hr j hj => ?_⟩
    · rw [hread] at hj
      split at hj
      · cases hj
      · exact h.1 j p hj
    · rw [hread]
      split
      next => rfl
      next hji =>
        refine h.2 hr j ?_
        rwa [State.unmap, State.place, State.setPoll_stored, ← State.place, State.place_setPlace, if_neg hji] at hj

/-- Mapping gives the intersection a sound poll state (R151). -/
theorem State.mapTo_kept {s : State} {i : Ix} (hi : s.place i = none) (pl : Place) : Kept s (s.mapTo i pl) := by
  have hlink : s.LinkSound → (s.mapTo i pl).LinkSound := fun hs => State.mapTo_sound hs hi pl
  unfold State.mapTo at hlink ⊢
  extract_lets st s1 s2
  have hpolls : s.PollsSound → s1.PollsSound := by
    intro hs
    have hread : ∀ j, s1.poll j
        = if j = i then some (if st = .active then (s.setPlace i (some pl)).loadedPoll pl.seg else stoppedPoll)
          else s.poll j := fun j => vget_vset _ _ _ _
    have hplace : ∀ j, s1.place j = if j = i then some pl else s.place j := fun j => State.place_setPlace _ _ _ _
    refine ⟨fun j p hj => ?_, fun hr j hj => ?_⟩
    · rw [hread] at hj
      split at hj
      · cases hj
        split <;> exact Poll.sound_empty _
      · exact hs.1 j p hj
    · rw [hplace] at hj
      split at hj
      · cases hj
      · rename_i hji
        rw [hread, if_neg hji]
        exact hs.2 hr j hj
  have h2 : Kept s1 s2 := by
    unfold s2
    split
    · exact .of_step (State.enter_works _ _ _) (State.enter_link _ _ _)
    · exact .refl _
  have h3 : Kept s1 (if st = .active then s2.enqueueQuery i else s2) := by
    split
    · exact h2.trans (.of_step (State.enqueueQuery_works _ _) (State.enqueueQuery_link _ _))
    · exact h2
  exact ⟨h3.clock, h3.queues, h3.polls ∘ hpolls, h3.ports, hlink⟩

theorem State.remap_kept (s : State) (i : Ix) (pl : Option Place) : Kept s (s.remap i pl) := by
  unfold State.remap
  split
  · exact .refl _
  · extract_lets s1
    have h1 : Kept s s1 ∧ s1.place i = none := by
      unfold s1
      split
      next => exact ⟨s.unmap_kept i, s.unmap_place i⟩
      next h => exact ⟨.refl _, by simpa using h⟩
    split
    · exact h1.1.trans (State.mapTo_kept h1.2 _)
    · exact h1.1

theorem setMapBlock_kept (a : SetMapArgs) (s : State) : Kept s (setMapBlock a s).1 := by
  refine .unlessCommitting ?_
  split
  · split
    · exact .refl _
    · exact State.remap_kept _ _ _
  · exact .refl _

theorem requeryBlock_kept (n : Nat) (s : State) : Kept s (requeryBlock n s).1 := by
  unfold requeryBlock
  split
  · exact .refl _
  · split
    · exact .refl _
    · split
      · exact .refl _
      · split
        · exact .refl _
        · split
          · exact .of_step (State.enqueueQuery_works _ _) (State.enqueueQuery_link _ _)
          · exact .refl _

theorem readIntersectionBlock_kept (n : Nat) (s : State) : Kept s (readIntersectionBlock n s).1 := by
  unfold readIntersectionBlock
  split <;> exact .refl _

/-! ### Segments -/

theorem State.enterSegment_kept (s : State) (k : SegNo) (st : SegState) (c : SegCause) :
    Kept s (s.enterSegment k st c) := .of_step (State.enterSegment_works _ _ _ _) (State.enterSegment_link _ _ _ _)

theorem State.startChecking_kept (s : State) (k : SegNo) (c : SegCause) : Kept s (s.startChecking k c) :=
  .of_step (State.startChecking_works _ _ _) (State.startChecking_link _ _ _)

theorem State.membersUnknown_kept (s : State) (k : SegNo) : Kept s (s.membersUnknown k) :=
  .of_step (State.membersUnknown_works _ _) (State.membersUnknown_link _ _)

theorem State.setEnable_kept (s : State) (k : SegNo) (b : Bool) : Kept s (s.setEnable k b) := .setStored _ _

theorem enableSegmentBlock_kept (n : Nat) (s : State) : Kept s (enableSegmentBlock n s).1 := by
  refine .unlessCommitting ?_
  split
  · exact .refl _
  · split
    · exact ((State.setEnable_kept _ _ _).trans (State.startChecking_kept _ _ _)).trans (State.membersUnknown_kept _ _)
    all_goals exact .refl _

theorem State.disable_kept (s : State) (k : SegNo) : Kept s (s.disable k) := by
  unfold State.disable
  extract_lets s1 s2 s3 s4
  have h1 : Kept s s1 := (State.setEnable_kept _ _ _).trans (State.enterSegment_kept _ _ _ _)
  have h2 : Kept s s2 := h1.trans (.of_step (.foldl _ State.goOffline_works _ _) (.foldl State.goOffline_link _ _))
  have h3 : Kept s s3 := h2.trans (.of_step (.modSegment _ _ _ fun _ => .same _) (.modSegment _ _ _))
  have h4 : Kept s s4 := h3.trans (.foldl (fun s i => .modPoll s i _ fun _ _ => Poll.sound_empty _) _ _)
  split
  · exact h4.trans (State.enterSegment_kept _ _ _ _)
  · exact h4

theorem disableSegmentBlock_kept (n : Nat) (s : State) : Kept s (disableSegmentBlock n s).1 := by
  refine .unlessCommitting ?_
  split
  · exact .refl _
  · split
    · exact .refl _
    · exact .refl _
    · exact State.disable_kept _ _

theorem readSegmentBlock_kept (n : Nat) (s : State) : Kept s (readSegmentBlock n s).1 := by
  unfold readSegmentBlock
  split <;> exact .refl _

/-! ### Faults, ports and the store -/

theorem setPolicyBlock_kept (a : SetPolicyArgs) (s : State) : Kept s (setPolicyBlock a s).1 := by
  refine .unlessCommitting ?_
  split
  · exact .setStored _ _
  · exact .refl _

theorem State.resume_kept (s : State) (g : GroupNo) : Kept s (s.resume g) :=
  .trans (.setGroup _ _ _) (State.evaluate_kept _ _)

theorem Clearing.member_kept (c : Clearing) (i : Ix) : Kept c.s (c.member i).s :=
  .of_step (State.clearMember_works _ _) (State.clearMember_link _ _)

theorem Clearing.foldl_kept {α : Type} {f : Clearing → α → Clearing} (h : ∀ c a, Kept c.s (f c a).s) (l : List α)
    (c : Clearing) : Kept c.s (l.foldl f c).s := by
  induction l generalizing c with
  | nil => exact .refl _
  | cons a l ih => exact .trans (h c a) (ih _)

theorem Clearing.group_kept (c : Clearing) (g : GroupNo) : Kept c.s (c.group g).s := by
  unfold Clearing.group
  extract_lets c1
  have h1 : Kept c.s c1.s := Clearing.foldl_kept Clearing.member_kept _ _
  split
  · exact h1.trans (State.resume_kept _ _)
  · exact h1

theorem clearTarget_kept {a : ClearFaultsArgs} {s : State} {c : Clearing} (h : clearTarget a s = some c) :
    Kept s c.s := by
  unfold clearTarget at h
  extract_lets c0 at h
  split at h
  · obtain ⟨i, -, rfl⟩ := Option.map_eq_some_iff.mp h
    exact c0.member_kept i
  · obtain ⟨g, -, rfl⟩ := Option.map_eq_some_iff.mp h
    exact c0.group_kept g
  · cases h
    exact .trans (Clearing.foldl_kept Clearing.group_kept _ c0) (Clearing.foldl_kept Clearing.member_kept _ _)
  · cases h

theorem clearFaultsBlock_kept (a : ClearFaultsArgs) (s : State) : Kept s (clearFaultsBlock a s).1 := by
  unfold clearFaultsBlock
  split
  next => exact .refl _
  next c hc => exact clearTarget_kept hc

theorem readFaultsBlock_kept (n : Option Nat) (s : State) : Kept s (readFaultsBlock n s).1 := by
  unfold readFaultsBlock
  split
  · exact .refl _
  · split <;> exact .refl _

theorem setNoticeMaskBlock_kept (p : Port) (m : NoticeMask) (s : State) : Kept s (setNoticeMaskBlock p m s).1 :=
  .modPort s p (fun q => { q with mask := m }) fun _ hq => hq

theorem commitBlock_kept (p : Port) (a : Unit) (s : State) : Kept s (commitBlock p a s).1 := by
  unfold commitBlock
  split
  · exact .refl _
  · split
    · exact .refl _
    · exact .of_same rfl rfl rfl rfl rfl rfl rfl id

end Sys2Proof.Machine
end

section
/-! SUPPORT. Each event keeps the five promises, and every step does. -/

namespace Sys2Proof.Machine

/-! ### Network time -/

theorem Tref.advance_le_lastE (t : Tref) (k : Nat) : (t.advance k).e ≤ Config.lastE := Nat.min_le_left _ _

/-- The clock runs on, its value and slew within their bounds. -/
theorem Kept.setClock (s : State) (n : Nat) (r : Tref)
    (h : s.ClockInRange → r.e ≤ Config.lastE ∧ -20 ≤ r.slew ∧ r.slew ≤ 20) : Kept s { s with crystal := n, tref := r } :=
  .trans (.setTref s r h) (.of_same rfl rfl rfl rfl rfl rfl rfl id)

theorem State.advance_kept (s : State) (n k : Nat) : Kept s { s with crystal := n, tref := s.tref.advance k } :=
  .setClock s n _ fun h => ⟨Tref.advance_le_lastE _ _, h.2⟩

/-- Each adjustment brings the slew nearer to 0 (R11). -/
theorem State.slewDs_kept {s : State} (h : s.slewDue) : Kept s s.slewDs := by
  obtain ⟨hne, -⟩ := s.slewDue_iff.mp h
  refine .setClock s _ _ fun hs => ⟨Tref.advance_le_lastE _ _, ?_⟩
  obtain ⟨-, hlo, hhi⟩ := hs
  simp only [slewAfter]
  split <;> omega

theorem State.tick_kept (s : State) : Kept s s.tick := by
  unfold State.tick
  split
  · exact s.advance_kept _ _
  · exact .of_same rfl rfl rfl rfl rfl rfl rfl id

theorem State.idle_kept (s : State) : Kept s s.idle := by
  unfold State.idle
  split
  · exact .of_same rfl rfl rfl rfl rfl rfl rfl id
  · split
    · exact .of_same rfl rfl rfl rfl rfl rfl rfl id
    · split
      · exact .of_same rfl rfl rfl rfl rfl rfl rfl id
      · exact s.tick_kept

theorem State.endHold_kept (s : State) (g : GroupNo) : Kept s (s.endHold g) := by
  unfold State.endHold
  split
  · split
    · exact ((Kept.setGroup s g _).trans (.offer _ _)).trans (.owe _ _)
    · exact .refl _
  · exact .refl _

theorem State.minute_kept (s : State) : Kept s s.minute := .trans (.foldl State.endHold_kept _ _) (.owe _ _)

/-! ### The field link -/

theorem State.place_of_mem_mappedTo {s : State} {k : SegNo} {i : Ix} (h : i ∈ s.mappedTo k) : s.place i ≠ none := by
  obtain ⟨d, -, hd⟩ := List.mem_filterMap.mp h
  have hp := List.find?_some hd
  intro hn
  rw [hn] at hp
  cases hp

/-- The poll states of mapped intersections are loaded (R151). -/
theorem State.loadPolls_kept (k : SegNo) (l : List Ix) (s : State) (h : ∀ i ∈ l, s.place i ≠ none) :
    Kept s (l.foldl (fun t i => t.setPoll i (some (t.loadedPoll k))) s) := by
  induction l generalizing s with
  | nil => exact .refl _
  | cons i l ih =>
    exact .trans (.setPoll s i _ (h i (.head _)) (Poll.sound_empty _)) (ih _ fun j hj => h j (.tail _ hj))

theorem State.passCheck_kept (s : State) (k : SegNo) : Kept s (s.passCheck k) := by
  refine ((s.enterSegment_kept k .active .checkPassed).trans
    (State.loadPolls_kept k _ _ fun i hi => State.place_of_mem_mappedTo hi)).trans (.foldl (fun t i => ?_) _ _)
  split
  · exact .of_step (State.enqueueQuery_works _ _) (State.enqueueQuery_link _ _)
  · exact .refl _

theorem State.completeTxn_kept (s : State) (k : SegNo) (c : Completion) : Kept s (s.completeTxn k c) :=
  .of_works (s.completeTxn_works k c) fun hs => State.completeTxn_sound hs k c

theorem State.goStuck_kept (s : State) (k : SegNo) : Kept s (s.goStuck k) := by
  unfold State.goStuck
  extract_lets s1 s2 s3
  have h1 : Kept s s1 := (s.enterSegment_kept k .stuck .lineHeld).trans
    (.of_step (.modSegment _ _ _ fun _ => .same _) (.modSegment _ _ _))
  have h2 : Kept s s2 := h1.trans (State.completeTxn_kept _ _ _)
  have h3 : Kept s s3 := h2.trans (.of_step (.foldl _ State.raiseStuck_works _ _) (.foldl State.raiseStuck_link _ _))
  exact h3.trans (.foldl (fun t i => .modPoll t i (·.stopAt t.crystal) fun _ hp => hp.stopAt _) _ _)

theorem State.lineReads_kept (s : State) (k : SegNo) (l : Level) : Kept s (s.lineReads k l) :=
  .of_step (s.lineReads_works k l) (s.lineReads_link k l)

theorem State.setPhase_kept (s : State) (k : SegNo) (p : FieldPhase) : Kept s (s.setPhase k p) :=
  .of_step (s.setPhase_works k p) (s.setPhase_link k p)

theorem State.ended_kept (s : State) (k : SegNo) (c : Completion) : Kept s (s.completeTxn k c).settle :=
  (s.completeTxn_kept k c).trans (.settle _)

/-- What arrives in a window keeps what the taking of its bytes keeps. -/
theorem State.inWindow_kept {s : State} (k : SegNo) {f : Window → State} (h : ∀ w, Kept s (f w)) :
    Kept s (s.inWindow k f) := by
  unfold State.inWindow
  split
  · split
    · exact s.ended_kept k _
    · exact h _
  · exact .refl _

theorem State.listen_kept (s : State) (k : SegNo) (w : Window) (bytes : List Byte) : Kept s (s.listen k w bytes) := by
  unfold State.listen
  split
  · split
    · exact .refl _
    · exact (s.setPhase_kept k _).trans (.settle _)
  · exact .refl _

theorem State.takeMarker_kept (s : State) (k : SegNo) (w : Window) (d : Drop) : Kept s (s.takeMarker k w d) := by
  unfold State.takeMarker
  split
  · exact s.ended_kept k _
  · split
    · exact .refl _
    · exact (s.setPhase_kept k _).trans (.settle _)

theorem State.endReplyGap_kept (s : State) (k : SegNo) : Kept s (s.endReplyGap k) := by
  unfold State.endReplyGap
  split
  · exact s.ended_kept k _
  · exact .refl _

theorem State.countLate_kept (s : State) (k : SegNo) : Kept s (s.countLate k) :=
  .guarded fun _ => .of_step (.modSegment _ _ _ fun _ => .same _) (.modSegment _ _ _)

/-! ### Ports and the store -/

theorem State.unknownCode_kept (s : State) (f : RequestFrame) (code : Byte) : Kept s (s.unknownCode f code) := by
  unfold State.unknownCode
  extract_lets s1
  have h1 : Kept s s1 := .modPort _ _ _ fun _ hq => hq.takeFrame _
  refine h1.trans ?_
  split
  · exact .modPort _ _ _ fun _ hq => hq.refuseBusy _ _
  · exact .modPort _ _ _ fun _ hq => hq.joinBusy _

theorem State.endGap_kept (s : State) (p : Port) : Kept s (s.endGap p) := .modPort _ _ _ fun _ hq => hq.endGap _

theorem State.discardBytes_kept (s : State) (p : Port) (bytes : List Byte) : Kept s (s.discardBytes p bytes) := by
  unfold State.discardBytes
  simp only
  split
  · exact .modPort _ _ _ fun _ hq => hq.frameError _
  · split
    · exact .modPort s p (fun q => { q with rx := .receiving (q.frameSoFar bytes) s.crystal }) fun _ hq => hq
    · exact .refl _

theorem State.gapAfter_kept (s : State) (p : Port) (bytes after : List Byte) : Kept s (s.gapAfter p bytes after) := by
  unfold State.gapAfter
  split
  · exact .modPort _ _ _ fun _ hq => hq.frameError _
  · exact .refl _

theorem State.endCommit_kept (s : State) (c : CommitInFlight) : Kept s (s.endCommit c) := by
  unfold State.endCommit
  simp only
  refine .trans (.trans ?_ (.modPort _ _ _ fun _ hq => hq.giveReply _)) (.offer _ _)
  exact .of_same rfl rfl rfl rfl rfl rfl rfl id

/-! ### Reset and start-up -/

/-- What gives the live tables of the coordination and the field link their reset values. -/
theorem Kept.of_reset {s t : State} (hclock : s.ClockInRange → t.ClockInRange) (hmem : ∀ i, t.member i = Member.initial)
    (hseg : ∀ k, t.segment k = Segment.initial) (hpoll : ∀ i, t.poll i = (t.place i).map fun _ => stoppedPoll)
    (hport : ∀ p, t.port p = PortState.initial) : Kept s t where
  clock := hclock
  queues _ k := by rw [hseg]; exact .nil
  polls _ := by
    refine ⟨fun i p hp => ?_, fun _ i hi => by rw [hpoll, hi]; rfl⟩
    rw [hpoll] at hp
    obtain ⟨-, -, rfl⟩ := Option.map_eq_some_iff.mp hp
    exact Poll.sound_empty _
  ports _ p := by rw [hport]; exact PortState.inRange_initial
  link _ := .of_still (fun i => by rw [hmem]; rfl) (fun k => by rw [hseg]; rfl) (fun k => by rw [hseg]; rfl)

theorem State.cabinetReset_kept (s : State) : Kept s s.cabinetReset := by
  refine .of_reset (fun h => ⟨h.1, by simp [State.cabinetReset, Tref.cabinetReset]⟩) (fun i => ?_) (fun k => ?_) (fun i => ?_)
    fun p => by cases p <;> rfl
  · simp [State.member, State.cabinetReset, vget]
  · simp [State.segment, State.cabinetReset, vget]
  · simp [State.poll, State.place, State.cabinetReset, vget]

/-- A cabinet reset, wherever the part then stands. -/
theorem State.cabinetReset_kept_in (s : State) (ph : RunPhase) (closed : Bool) (cfs : Cfs) (h : ph ≠ .running) :
    Kept s { s.cabinetReset with phase := ph, contactClosed := closed, cfs := cfs } :=
  s.cabinetReset_kept.trans (.of_same rfl rfl rfl rfl rfl rfl rfl fun hr => absurd hr h)

theorem State.poweredOn_kept (s : State) : Kept s s.poweredOn := by
  have hreset : ∀ t : State, t.tref = State.reset.tref → t.members = State.reset.members →
      t.segments = State.reset.segments → t.polls = State.reset.polls → t.stored = State.reset.stored →
      t.ports = State.reset.ports → Kept s t := by
    intro t hr hm hs hp hst hport
    refine .of_reset (fun _ => ?_) (fun i => ?_) (fun k => ?_) (fun i => ?_) (fun p => ?_)
    · rw [State.ClockInRange, hr]; decide
    · rw [State.member, hm]; exact State.member_reset i
    · rw [State.segment, hs]; exact State.segment_reset k
    · rw [State.poll, hp, State.place, hst]
      exact (State.poll_reset i).trans (by simp [State.reset, Stored.empty, vget])
    · rw [State.port, hport]; exact State.port_reset p
  unfold State.poweredOn
  extract_lets fresh
  split
  · exact hreset _ rfl rfl rfl rfl rfl rfl
  · exact hreset _ rfl rfl rfl rfl rfl rfl

theorem State.openContact_kept (s : State) : Kept s s.openContact := by
  unfold State.openContact
  split
  · exact .of_same rfl rfl rfl rfl rfl rfl rfl nofun
  · exact .of_same rfl rfl rfl rfl rfl rfl rfl id

theorem State.offerReset_kept (s : State) (e : Option Nat) : Kept s (s.offerReset e) := by
  unfold State.offerReset
  split
  · exact .offerAt _ _ _
  · exact .refl _

theorem State.startSegment_kept (s : State) (k : SegNo) : Kept s (s.startSegment k) := by
  unfold State.startSegment
  split
  · exact (s.startChecking_kept k _).trans (State.membersUnknown_kept _ _)
  · exact .refl _

/-- After the load the part keeps the promises until the completion of start-up ends (R184). -/
theorem State.completeStartUp_kept (s : State) : Kept s.load.openPorts s.completeStartUp :=
  (((State.offerReset_kept _ _).trans (State.judgeTimers_kept _)).trans (.foldl State.startSegment_kept _ _)).trans
    (State.evaluate_kept _ _)

/-- The load keeps the promises, the part being quiet before it (R184). -/
theorem State.load_promised {s : State} (hphase : s.phase ≠ .running) :
    (s.ClockInRange → s.load.openPorts.ClockInRange) ∧ (s.QueuesInOrder → s.load.openPorts.QueuesInOrder)
      ∧ s.load.openPorts.PollsSound ∧ (s.PortsInRange → s.load.openPorts.PortsInRange)
      ∧ (s.QuietBeforeService → s.load.openPorts.LinkSound) := by
  have hpoll : ∀ i, s.load.openPorts.poll i = (s.load.openPorts.place i).map fun _ => stoppedPoll := fun i => by
    simp [State.poll, State.place, State.load, State.openPorts, vget]
  refine ⟨id, id, ⟨fun i p hp => ?_, fun _ i hi => by rw [hpoll, hi]; rfl⟩, id, fun hq => ?_⟩
  · rw [hpoll] at hp
    obtain ⟨-, -, rfl⟩ := Option.map_eq_some_iff.mp hp
    exact Poll.sound_empty _
  · obtain ⟨-, -, hmem, hseg⟩ := hq hphase
    exact .of_still (fun i => (hmem i).2) (fun k => (hseg k).2.1) fun k => (hseg k).2.2

end Sys2Proof.Machine
end

section
/-! SUPPORT. Every step keeps the clock, the queues, the poll states, the ports and the field link's records in form. -/

namespace Sys2Proof.Machine

theorem State.execEvaluation_kept (s : State) (n : Nat) : ∃ t, execEvaluation n s = .next t ∧ Kept s t := by
  refine ⟨_, rfl, ?_⟩
  split
  · have h1 : Kept s { s with owed := s.owed.eraseIdx n } := .of_same rfl rfl rfl rfl rfl rfl rfl id
    exact (h1.trans (State.evaluate_kept _ _)).trans (.settle _)
  · exact .refl _

theorem State.execMinuteBoundary_kept (s : State) : ∃ t, execMinuteBoundary s = .next t ∧ Kept s t := by
  refine ⟨_, rfl, ?_⟩
  split
  · have h1 := Kept.setTref s { s.tref with minuteOwed := false } id
    refine .trans ?_ (.settle _)
    split
    · exact h1.trans (State.minute_kept _)
    · exact h1
  · exact .refl _

theorem State.execTurnaroundEnd_kept (s : State) (k : SegNo) : ∃ t, execTurnaroundEnd k s = .next t ∧ Kept s t := by
  refine ⟨_, rfl, ?_⟩
  split
  · exact .guarded fun _ => .of_works (State.recheck_works _ _ _) fun hs => State.recheck_sound hs _ _
  · exact .refl _

theorem State.execPollIntervalExpiry_kept (s : State) (i : Ix) :
    ∃ t, execPollIntervalExpiry i s = .next t ∧ Kept s t := by
  refine ⟨_, rfl, ?_⟩
  split
  · exact .guarded fun _ => .modPoll _ _ _ fun _ hp => hp.expire _
  · exact .refl _

theorem State.execWaitMarker_kept (s : State) (k : SegNo) (bytes : List Byte) :
    ∃ t, execWaitMarker k bytes s = .next t ∧ Kept s t := by
  refine ⟨_, rfl, State.inWindow_kept k fun w => ?_⟩
  split
  · exact s.takeMarker_kept _ _ _
  · exact s.listen_kept _ _ _

theorem State.execReplyFrameReceived_kept (s : State) (k : SegNo) (bytes : List Byte) :
    ∃ t, execReplyFrameReceived k bytes s = .next t ∧ Kept s t := by
  refine ⟨_, rfl, State.inWindow_kept k fun w => ?_⟩
  split
  · exact s.ended_kept _ _
  · exact s.listen_kept _ _ _

theorem State.execReplyLengthBad_kept (s : State) (k : SegNo) (bytes : List Byte) :
    ∃ t, execReplyLengthBad k bytes s = .next t ∧ Kept s t := by
  refine ⟨_, rfl, State.inWindow_kept k fun w => ?_⟩
  split
  · exact s.ended_kept _ _
  · exact s.listen_kept _ _ _

theorem State.execReplyWindowClose_kept (s : State) (k : SegNo) (bytes : List Byte) :
    ∃ t, execReplyWindowClose k bytes s = .next t ∧ Kept s t := by
  refine ⟨_, rfl, State.inWindow_kept k fun w => ?_⟩
  split
  · split
    · exact s.ended_kept _ _
    · exact s.listen_kept _ _ _
  · exact .refl _

theorem State.requestedReset_kept (s : State) : Kept s s.requestedReset :=
  s.cabinetReset_kept_in (.loading s.crystal) s.contactClosed
    { s.cabinetReset.cfs with cause := .resetRequest } nofun

theorem State.execResetLineClose_kept (s : State) : ∃ t, execResetLineClose s = .next t ∧ Kept s t := by
  refine ⟨_, rfl, ?_⟩
  split
  · exact .refl _
  · exact s.cabinetReset_kept_in (.held .resetLine) true s.cabinetReset.cfs nofun

theorem State.execTransmitEnd_kept (s : State) (p : Port) : ∃ t, execTransmitEnd p s = .next t ∧ Kept s t := by
  refine ⟨_, rfl, ?_⟩
  split
  · exact .refl _
  · split
    · exact s.requestedReset_kept
    · exact .trans (.modPort _ _ _ fun _ hq => hq.sent) (.settle _)

theorem State.execFrameGapTimeout_kept (s : State) (p : Port) (bytes after : List Byte) :
    ∃ t, execFrameGapTimeout p bytes after s = .next t ∧ Kept s t := by
  refine ⟨_, rfl, ?_⟩
  split
  · exact .guarded fun _ => .modPort _ _ _ fun _ hq => hq.frameError _
  · exact ((s.endGap_kept p).trans (State.gapAfter_kept _ _ _ _)).trans (.settle _)

/-- Every command but the completion of start-up keeps the promises. -/
theorem exec_kept (c : Instr) (s : State) (hc : c ≠ .startUpComplete) : ∃ t, exec c s = .next t ∧ Kept s t := by
  cases c with
  | startUpComplete => exact absurd rfl hc
  | powerOn => exact ⟨_, rfl, s.poweredOn_kept⟩
  | resetLineClose => exact s.execResetLineClose_kept
  | resetLineOpen =>
    refine ⟨_, rfl, ?_⟩
    split
    · exact s.openContact_kept
    · exact .refl _
  | minuteBoundary => exact s.execMinuteBoundary_kept
  | slewAdjustment => exact ⟨_, rfl, .guarded State.slewDs_kept⟩
  | timer2pExpiry => exact ⟨_, rfl, .guarded fun _ => s.expire2P_kept⟩
  | timerHExpiry => exact ⟨_, rfl, .guarded fun _ => s.expireH_kept⟩
  | epochCountEnd => exact ⟨_, rfl, .guarded fun _ => s.advance_kept _ _⟩
  | evaluation n => exact s.execEvaluation_kept n
  | tsReached g =>
    refine ⟨_, rfl, .guarded fun h => .of_step (State.reachTs_works _ _ ?_) (State.reachTs_link _ _)⟩
    simp only [State.tsDue, Bool.and_eq_true, decide_eq_true_eq] at h
    exact h.1
  | tmReached i => exact ⟨_, rfl, .guarded fun _ => .of_step (State.reachTm_works _ _) (State.reachTm_link _ _)⟩
  | checkPassed k => exact ⟨_, rfl, .guarded fun _ => s.passCheck_kept k⟩
  | lineBreak k => exact ⟨_, rfl, .guarded fun _ => s.lineReads_kept k _⟩
  | lineHeld k =>
    refine ⟨_, rfl, .guarded fun _ => ?_⟩
    split
    · exact s.goStuck_kept k
    · exact s.completeTxn_kept k _
  | lineReleased k => exact ⟨_, rfl, .guarded fun _ => s.startChecking_kept k _⟩
  | lineReadsMark k => exact ⟨_, rfl, .guarded fun _ => s.lineReads_kept k _⟩
  | lineReadsSpace k => exact ⟨_, rfl, .guarded fun _ => s.lineReads_kept k _⟩
  | turnaroundEnd k => exact s.execTurnaroundEnd_kept k
  | requestSent k => exact ⟨_, rfl, .guarded fun _ => (s.setPhase_kept k _).trans (State.lineReads_kept _ _ _)⟩
  | waitMarker k bytes => exact s.execWaitMarker_kept k bytes
  | replyFrameReceived k bytes => exact s.execReplyFrameReceived_kept k bytes
  | replyLengthBad k bytes => exact s.execReplyLengthBad_kept k bytes
  | replyGapTimeout k => exact ⟨_, rfl, s.endReplyGap_kept k⟩
  | replyWindowClose k bytes => exact s.execReplyWindowClose_kept k bytes
  | lateReply k => exact ⟨_, rfl, (s.endReplyGap_kept k).trans (State.countLate_kept _ _)⟩
  | pollIntervalExpiry i => exact s.execPollIntervalExpiry_kept i
  | commitWriteEnd =>
    refine ⟨_, rfl, ?_⟩
    split
    · exact (s.endCommit_kept _).trans (.settle _)
    · exact .refl _
  | resetRequestTaken =>
    refine ⟨_, rfl, ?_⟩
    split
    · exact s.requestedReset_kept
    · exact .refl _
  | unknownRequestCode f code =>
    refine ⟨_, rfl, ?_⟩
    split
    · exact .refl _
    · exact (s.unknownCode_kept f code).trans (.settle _)
  | frameDiscarded p bytes =>
    exact ⟨_, rfl, ((s.endGap_kept p).trans (State.discardBytes_kept _ _ _)).trans (.settle _)⟩
  | frameGapTimeout p bytes after => exact s.execFrameGapTimeout_kept p bytes after
  | transmitEnd p => exact s.execTransmitEnd_kept p
  | mark f => exact ⟨_, rfl, .request s f _ _ markBlock_kept⟩
  | setTime f => exact ⟨_, rfl, .request s f _ _ setTimeBlock_kept⟩
  | readTime f => exact ⟨_, rfl, .request s f _ _ fun _ => .refl⟩
  | writePlan f => exact ⟨_, rfl, .request s f _ _ writePlanBlock_kept⟩
  | deletePlan f => exact ⟨_, rfl, .request s f _ _ deletePlanBlock_kept⟩
  | readPlan f => exact ⟨_, rfl, .request s f _ _ readPlanBlock_kept⟩
  | writeOffset f => exact ⟨_, rfl, .request s f _ _ writeOffsetBlock_kept⟩
  | readOffset f => exact ⟨_, rfl, .request s f _ _ readOffsetBlock_kept⟩
  | writeParams f => exact ⟨_, rfl, .request s f _ _ writeParamsBlock_kept⟩
  | readParams f => exact ⟨_, rfl, .request s f _ _ fun _ => .refl⟩
  | setEventGroups f => exact ⟨_, rfl, .request s f _ _ setEventGroupsBlock_kept⟩
  | addEntry f => exact ⟨_, rfl, .request s f _ _ (addEntryBlock_kept _)⟩
  | removeEntry f => exact ⟨_, rfl, .request s f _ _ (removeEntryBlock_kept _)⟩
  | readEntry f => exact ⟨_, rfl, .request s f _ _ readEntryBlock_kept⟩
  | listEntries f => exact ⟨_, rfl, .request s f _ _ listEntriesBlock_kept⟩
  | placeHold f => exact ⟨_, rfl, .request s f _ _ (placeHoldBlock_kept _)⟩
  | releaseHold f => exact ⟨_, rfl, .request s f _ _ (releaseHoldBlock_kept _)⟩
  | setMembers f => exact ⟨_, rfl, .request s f _ _ setMembersBlock_kept⟩
  | readGroup f => exact ⟨_, rfl, .request s f _ _ readGroupBlock_kept⟩
  | setMap f => exact ⟨_, rfl, .request s f _ _ setMapBlock_kept⟩
  | requery f => exact ⟨_, rfl, .request s f _ _ requeryBlock_kept⟩
  | readIntersection f => exact ⟨_, rfl, .request s f _ _ readIntersectionBlock_kept⟩
  | enableSegment f => exact ⟨_, rfl, .request s f _ _ enableSegmentBlock_kept⟩
  | disableSegment f => exact ⟨_, rfl, .request s f _ _ disableSegmentBlock_kept⟩
  | writeSegmentParams f => exact ⟨_, rfl, .request s f _ _ writeSegmentParamsBlock_kept⟩
  | readSegment f => exact ⟨_, rfl, .request s f _ _ readSegmentBlock_kept⟩
  | setPolicy f => exact ⟨_, rfl, .request s f _ _ setPolicyBlock_kept⟩
  | clearFaults f => exact ⟨_, rfl, .request s f _ _ clearFaultsBlock_kept⟩
  | readFaults f => exact ⟨_, rfl, .request s f _ _ readFaultsBlock_kept⟩
  | setNoticeMask f => exact ⟨_, rfl, .request s f _ _ (setNoticeMaskBlock_kept _)⟩
  | readPorts f => exact ⟨_, rfl, .request s f _ _ fun _ => .refl⟩
  | commit f => exact ⟨_, rfl, .request s f _ _ (commitBlock_kept _)⟩
  | readStore f => exact ⟨_, rfl, .request s f _ _ fun _ => .refl⟩
  | reset f => exact ⟨_, rfl, .request s f _ _ fun _ => .refl⟩

/-- The five promises of a step: those on the field link's records need a part that is quiet before service. -/
structure Promised (s t : State) : Prop where
  clock : s.ClockInRange → t.ClockInRange
  queues : s.QueuesInOrder → t.QueuesInOrder
  polls : s.PollsSound → t.PollsSound
  ports : s.PortsInRange → t.PortsInRange
  link : s.QuietBeforeService → s.LinkSound → t.LinkSound

theorem Kept.promised {s t : State} (h : Kept s t) : Promised s t :=
  ⟨h.clock, h.queues, h.polls, h.ports, fun _ => h.link⟩

/-- The completion of start-up keeps the promises: nothing is under way before the load, and the rest is kept as in service. -/
theorem execStartUpComplete_promised (s : State) : ∃ t, execStartUpComplete s = .next t ∧ Promised s t := by
  refine ⟨_, rfl, ?_⟩
  split
  next since hph =>
    have hk := s.completeStartUp_kept.trans (.settle _)
    obtain ⟨hclock, hqueues, hpolls, hports, hlink⟩ := State.load_promised (s := s) (by simp [hph])
    exact ⟨hk.clock ∘ hclock, hk.queues ∘ hqueues, fun _ => hk.polls hpolls, hk.ports ∘ hports,
      fun hq _ => hk.link (hlink hq)⟩
  next => exact (Kept.refl _).promised

theorem exec_promised (c : Instr) (s : State) : ∃ t, exec c s = .next t ∧ Promised s t := by
  by_cases hc : c = .startUpComplete
  · subst hc
    exact execStartUpComplete_promised s
  · obtain ⟨t, ht, hk⟩ := exec_kept c s hc
    exact ⟨t, ht, hk.promised⟩

/-- Every step keeps the promises: the part's clock on an empty queue, else the command at its front. -/
theorem step_promised {s t : State} (h : step s = .next t) : Promised s t := by
  unfold step at h
  split at h
  · cases h
    exact s.idle_kept.promised
  next c rest _ =>
    obtain ⟨u, hu, hp⟩ := exec_promised c { s with pending := rest }
    rw [hu] at h
    cases h
    have h1 : Kept s { s with pending := rest } := .of_same rfl rfl rfl rfl rfl rfl rfl id
    exact ⟨hp.clock ∘ h1.clock, hp.queues ∘ h1.queues, hp.polls ∘ h1.polls, hp.ports ∘ h1.ports,
      fun hq hl => hp.link hq (h1.link hl)⟩

end Sys2Proof.Machine

section
open Sys2Proof Sys2Proof.Machine

/-- Settles O60: each command keeps the tables by way of the updates it is made of (`Kept`). For the field link's records that is
`LinkSound`: of each update either no table of the link gains an entry (`LinkStep`) or the entry is the one that the queue's rules
place. Start-up alone needs the part to be quiet before it, for it brings new maps. -/
theorem liveTablesKeepTheirForm : Obligations.LiveTablesKeepTheirForm := by
  unfold Obligations.LiveTablesKeepTheirForm
  intro s t h
  have hp := step_promised h
  exact ⟨hp.clock, hp.queues, hp.polls, hp.ports,
    fun hq hserve hapart => t.linkSound_iff.mp (hp.link hq (s.linkSound_iff.mpr ⟨hserve, hapart⟩))⟩

end
end

section
/-! SUPPORT. What the operations of a switch start leave alone: an operation upon some members changes no group (`Upon`), and of a
PENDING group a failing check may suspend it (`WorkedOn`). -/

namespace Sys2Proof.Machine

/-! ### Notices of faults -/

/-- What is offered after what has been offered: `t` and `u` are told of by their ports alone. -/
theorem State.told_ports_trans {s t u : State} {a b : List Notice} (hphase : t.phase = s.phase)
    (ht : t.ports = (s.told a).ports) (hu : u.ports = (t.told b).ports) : u.ports = (s.told (a ++ b)).ports := by
  rw [hu, ← State.told_told]
  by_cases h : s.phase = .running
  · rw [State.told_running (hphase.trans h), State.told_running (s := s.told a) ((State.told_phase _ _).trans h), ht]
  · rw [State.told_not_running (hphase ▸ h), State.told_not_running (s := s.told a) (by rwa [State.told_phase]), ht]

/-- Between the two states nothing changes the phase, the clock, the tables and the poll states, and FAULT notices alone are
offered. -/
structure Faulting (s t : State) : Prop where
  phase : t.phase = s.phase
  tref : t.tref = s.tref
  stored : t.stored = s.stored
  polls : t.polls = s.polls
  notices : ∃ ns : List Notice, (∀ a ∈ ns, a.body.kind = 6) ∧ t.ports = (s.told ns).ports

theorem Faulting.of_eq {s t : State} (phase : t.phase = s.phase) (tref : t.tref = s.tref) (stored : t.stored = s.stored)
    (polls : t.polls = s.polls) (ports : t.ports = s.ports) : Faulting s t :=
  ⟨phase, tref, stored, polls, [], by simp, by rw [ports, State.told_nil]⟩

theorem Faulting.trans {s t u : State} (h1 : Faulting s t) (h2 : Faulting t u) : Faulting s u := by
  obtain ⟨a, ha, hta⟩ := h1.notices
  obtain ⟨b, hb, hub⟩ := h2.notices
  refine ⟨h2.phase.trans h1.phase, h2.tref.trans h1.tref, h2.stored.trans h1.stored, h2.polls.trans h1.polls, a ++ b, ?_,
    State.told_ports_trans h1.phase hta hub⟩
  simpa [or_imp, forall_and] using ⟨ha, hb⟩

/-! ### Operations upon members -/

/-- An operation upon the members of `P` changes no group and no other member. -/
structure Upon (P : Ix → Prop) (s t : State) : Prop extends Faulting s t where
  groups : t.groups = s.groups
  members : ∀ j, ¬ P j → t.member j = s.member j

namespace Upon

theorem refl (P : Ix → Prop) (s : State) : Upon P s s := ⟨.of_eq rfl rfl rfl rfl rfl, rfl, fun _ _ => rfl⟩

theorem trans {P : Ix → Prop} {s t u : State} (h1 : Upon P s t) (h2 : Upon P t u) : Upon P s u :=
  ⟨h1.toFaulting.trans h2.toFaulting, h2.groups.trans h1.groups,
    fun j hj => (h2.members j hj).trans (h1.members j hj)⟩

theorem mono {P Q : Ix → Prop} {s t : State} (h : Upon P s t) (hPQ : ∀ j, P j → Q j) : Upon Q s t :=
  ⟨h.toFaulting, h.groups, fun j hj => h.members j (mt (hPQ j) hj)⟩

theorem foldl {P : Ix → Prop} {f : State → Ix → State} {l : List Ix} (h : ∀ s, ∀ i ∈ l, Upon P s (f s i)) (s : State) :
    Upon P s (l.foldl f s) := by
  induction l generalizing s with
  | nil => exact .refl _ _
  | cons i l ih => exact .trans (h s i (.head _)) (ih (fun s j hj => h s j (.tail _ hj)) _)

theorem group {P : Ix → Prop} {s t : State} (h : Upon P s t) (g : GroupNo) : t.group g = s.group g := by
  rw [State.group, h.groups]
  rfl

theorem groupOf {P : Ix → Prop} {s t : State} (h : Upon P s t) (i : Ix) : t.groupOf i = s.groupOf i := by
  rw [State.groupOf, h.stored]
  rfl

theorem modMember (s : State) (i : Ix) (f : Member → Member) : Upon (· = i) s (s.modMember i f) :=
  ⟨.of_eq rfl rfl rfl rfl rfl, rfl, fun j hj => State.member_modMember_ne s i j f hj⟩

theorem modSegment (P : Ix → Prop) (s : State) (k : SegNo) (f : Segment → Segment) : Upon P s (s.modSegment k f) :=
  ⟨.of_eq rfl rfl rfl rfl rfl, rfl, fun _ _ => rfl⟩

theorem offer_fault (P : Ix → Prop) (s : State) (b : NoticeBody) (h : b.kind = 6) : Upon P s (s.offer b) := by
  refine ⟨⟨State.offer_phase _ _, State.offer_tref _ _, State.offer_stored _ _, State.offer_polls _ _,
    [⟨s.tref.e, b⟩], by simpa using h, rfl⟩, State.offer_groups _ _, fun j _ => ?_⟩
  rw [State.member, State.offer_members]
  rfl

end Upon

theorem State.dropOrder_upon (P : Ix → Prop) (s : State) (i : Ix) : Upon P s (s.dropOrder i) := by
  unfold State.dropOrder
  split
  · exact .modSegment _ _ _ _
  · exact .refl _ _

theorem State.clearOrder_upon (s : State) (i : Ix) : Upon (· = i) s (s.clearOrder i) := .modMember _ _ _

theorem State.placeOrder_upon (s : State) (i : Ix) (kind : OrderKind) (p : OrderPayload) :
    Upon (· = i) s (s.placeOrder i kind p) := by
  unfold State.placeOrder
  extract_lets s1 s2
  have h1 : Upon (· = i) s s1 := by
    unfold s1
    split
    · exact .modSegment _ _ _ _
    · exact .refl _ _
  have h2 : Upon (· = i) s s2 := h1.trans (.modMember _ _ _)
  exact ⟨h2.toFaulting.trans (.of_eq rfl rfl rfl rfl rfl), h2.groups, h2.members⟩

theorem State.enter_upon (s : State) (i : Ix) (st : MemberState) : Upon (· = i) s (s.enter i st) := .modMember _ _ _

theorem State.release_upon (s : State) (i : Ix) (tm : Nat) : Upon (· = i) s (s.release i tm) := by
  unfold State.release
  extract_lets s1
  have h1 : Upon (· = i) s s1 := by
    unfold s1
    split
    · exact .modMember _ _ _
    · exact .refl _ _
  split
  · exact h1.trans (State.clearOrder_upon _ _)
  · exact h1.trans (State.placeOrder_upon _ _ _ _)

theorem State.releaseTo_upon (s : State) (i : Ix) (tm : Nat) (st : MemberState) :
    Upon (· = i) s ((s.release i tm).enter i st) := (s.release_upon i tm).trans (State.enter_upon _ _ _)

theorem State.suspendMember_upon (s : State) (i : Ix) : Upon (· = i) s (s.suspendMember i) := by
  unfold State.suspendMember
  split
  · exact s.releaseTo_upon _ _ _
  · exact s.releaseTo_upon _ _ _
  · exact s.releaseTo_upon _ _ _
  · exact s.releaseTo_upon _ _ _
  · extract_lets s1
    have h1 : Upon (· = i) s s1 := s.release_upon _ _
    split
    · exact h1
    · exact h1.trans (State.enter_upon _ _ _)
  · exact .refl _ _

theorem State.latch_upon (s : State) (i : Ix) (c : FaultClass) : Upon (· = i) s (s.latch i c) := by
  unfold State.latch
  extract_lets s1
  have h1 : Upon (· = i) s s1 := .modMember _ _ _
  split
  · exact h1.trans (s1.releaseTo_upon _ _ _)
  · exact h1.trans (s1.releaseTo_upon _ _ _)
  · exact h1.trans (s1.releaseTo_upon _ _ _)
  · exact h1.trans (s1.releaseTo_upon _ _ _)
  · exact h1.trans (s1.releaseTo_upon _ _ _)
  · exact h1

theorem State.exclude_upon (s : State) (i : Ix) : Upon (· = i) s (s.exclude i) := by
  unfold State.exclude
  split
  · exact s.enter_upon _ _
  · exact s.enter_upon _ _
  · exact s.enter_upon _ _
  · exact s.enter_upon _ _
  · exact .refl _ _

/-! ### Suspension by a failing check (R88, R161) -/

/-- A failing check has suspended group `g`, which the policy of CAPABILITY asks for; no other group and none of its members are
changed. -/
structure Suspends (g : GroupNo) (s t : State) : Prop extends Faulting s t where
  policy : s.stored.policies.get .capability = ⟨.latched, .group⟩
  state : (t.group g).state = .suspended
  keeps : (t.group g).hold = (s.group g).hold ∧ (t.group g).wanted = (s.group g).wanted
    ∧ (t.group g).source = (s.group g).source
  groups : ∀ h, h ≠ g → t.group h = s.group h
  members : ∀ j, s.groupOf j ≠ some g → t.member j = s.member j

/-- What an operation upon members of group `g` comes to. -/
def WorkedOn (g : GroupNo) (P : Ix → Prop) (s t : State) : Prop := Upon P s t ∨ Suspends g s t

theorem State.mem_membersOf {s : State} {g : GroupNo} {i : Ix} : i ∈ s.membersOf g ↔ s.groupOf i = some g := by
  simp [State.membersOf, allIx]

theorem State.suspend_suspends {s : State} {g : GroupNo} {c : FaultClass} {i : Ix}
    (hpol : s.stored.policies.get .capability = ⟨.latched, .group⟩) : Suspends g s (s.suspend g c i) := by
  unfold State.suspend
  extract_lets r s1
  have h1 : Upon (fun j => s.groupOf j = some g) s1 ((s1.membersOf g).foldl State.suspendMember s1) :=
    .foldl (fun t j hj => (t.suspendMember_upon j).mono fun _ hk => hk ▸ State.mem_membersOf.mp hj) _
  have hg : ((s1.membersOf g).foldl State.suspendMember s1).group g = s1.group g := h1.group g
  have hr : s1.group g = _ := State.group_setGroup_self s g _
  have h0 : Faulting s s1 := .of_eq rfl rfl rfl rfl rfl
  refine ⟨h0.trans h1.toFaulting, hpol, ?_, ?_, fun h hne => ?_, h1.members⟩
  · rw [hg, hr]
  · rw [hg, hr]
    exact ⟨rfl, rfl, rfl⟩
  · rw [h1.group h]
    exact State.group_setGroup_ne s g h _ hne

namespace WorkedOn

variable {g : GroupNo} {P : Ix → Prop} {s t u : State}

theorem faulting (h : WorkedOn g P s t) : Faulting s t := h.elim Upon.toFaulting Suspends.toFaulting

theorem mono {Q : Ix → Prop} (h : WorkedOn g P s t) (hPQ : ∀ j, P j → Q j) : WorkedOn g Q s t := h.imp_left fun h => h.mono hPQ

theorem trans (hP : ∀ j, P j → s.groupOf j = some g) (h1 : WorkedOn g P s t) (h2 : WorkedOn g P t u) : WorkedOn g P s u := by
  have hof : ∀ j, t.groupOf j = s.groupOf j := fun j => by
    rw [State.groupOf, h1.faulting.stored]
    rfl
  rcases h1 with h1 | h1 <;> rcases h2 with h2 | h2
  · exact .inl (h1.trans h2)
  · obtain ⟨hh, hw, hs⟩ := h2.keeps
    refine .inr ⟨h1.toFaulting.trans h2.toFaulting, h1.stored ▸ h2.policy, h2.state, ?_, fun h hne => ?_, fun j hj => ?_⟩
    · rw [hh, hw, hs, h1.group g]
      exact ⟨rfl, rfl, rfl⟩
    · rw [h2.groups h hne, h1.group h]
    · rw [h2.members j (by rwa [hof]), h1.members j (mt (hP j) hj)]
  · refine .inr ⟨h1.toFaulting.trans h2.toFaulting, h1.policy, ?_, ?_, fun h hne => ?_, fun j hj => ?_⟩
    · rw [h2.group g, h1.state]
    · rw [h2.group g]
      exact h1.keeps
    · rw [h2.group h, h1.groups h hne]
    · rw [h2.members j (mt (hP j) hj), h1.members j hj]
  · obtain ⟨hh, hw, hs⟩ := h1.keeps
    obtain ⟨hh', hw', hs'⟩ := h2.keeps
    refine .inr ⟨h1.toFaulting.trans h2.toFaulting, h1.policy, h2.state, ⟨hh'.trans hh, hw'.trans hw, hs'.trans hs⟩,
      fun h hne => ?_, fun j hj => ?_⟩
    · rw [h2.groups h hne, h1.groups h hne]
    · rw [h2.members j (by rwa [hof]), h1.members j hj]

/-- A group that is PENDING after the operation was not suspended by it. -/
theorem upon (h : WorkedOn g P s t) (hp : (t.group g).state = .pending) : Upon P s t :=
  h.resolve_right fun h => by
    have hs := h.state
    rw [hp] at hs
    cases hs

end WorkedOn

/-! ### The operations of a switch start for a member of a PENDING group -/

theorem State.groupTests_pending {s : State} {g : GroupNo} (h : (s.group g).state = .pending) : s.groupTests g = s := by
  simp [State.groupTests, State.testWorking, State.testSteady, h]

theorem State.groupTests_suspended {s : State} {g : GroupNo} (h : (s.group g).state = .suspended) : s.groupTests g = s := by
  simp [State.groupTests, State.testWorking, State.testSteady, h]

section
variable {s : State} {i : Ix} {g : GroupNo} (hi : s.groupOf i = some g)
include hi

theorem State.testsOf_pending (h : (s.group g).state = .pending) : s.testsOf i = s := by
  simp only [State.testsOf, hi, State.groupTests_pending h]

theorem State.testsOf_suspended (h : (s.group g).state = .suspended) : s.testsOf i = s := by
  simp only [State.testsOf, hi, State.groupTests_suspended h]

variable (hp : (s.group g).state = .pending)
include hp

/-- The tests of R70 after an operation upon a member of a PENDING group find nothing to do. -/
theorem Upon.tests {t : State} {P : Ix → Prop} (h : Upon P s t) : t.testsOf i = t :=
  State.testsOf_pending ((h.groupOf i).trans hi) (by rwa [h.group g])

theorem WorkedOn.tests {t : State} {P : Ix → Prop} (h : WorkedOn g P s t) : t.testsOf i = t := by
  rcases h with h | h
  · exact h.tests hi hp
  · refine State.testsOf_suspended (g := g) ?_ h.state
    rw [State.groupOf, h.stored]
    exact hi

/-- The raise of CAPABILITY: its record and its notice, then what the policy asks for. -/
theorem State.raise_capability_eq :
    ∃ s2, Upon (· = i) s s2
      ∧ s2.member i = (s.member i).recordRaise .capability (s.stored.policies.get .capability).policy none none
      ∧ s.raise i .capability = (match (s.stored.policies.get .capability).policy with
          | .latched =>
              if (s.stored.policies.get .capability).scope = Scope.group then (s2.latch i .capability).suspend g .capability i
              else s2.latch i .capability
          | .recovering => s2.exclude i
          | .reportOnly => s2
          | .off => s2) := by
  unfold State.raise
  extract_lets pair s1 s2 s3
  have h1 : Upon (· = i) s s1 := .modMember _ _ _
  have hm1 : s1.member i = (s.member i).recordRaise .capability pair.policy none none := State.member_modMember_self _ _ _
  have h2 : Upon (· = i) s s2 ∧ s2.member i = s1.member i := by
    unfold s2
    split
    · exact ⟨h1, rfl⟩
    · refine ⟨h1.trans (.offer_fault _ _ _ rfl), ?_⟩
      rw [State.member, State.offer_members]
      rfl
  obtain ⟨h2, hm2⟩ := h2
  refine ⟨s2, h2, hm2.trans hm1, ?_⟩
  show _ = (match pair.policy with
    | .latched => if pair.scope = Scope.group then s3.suspend g .capability i else s3
    | .recovering => s2.exclude i
    | .reportOnly => s2
    | .off => s2)
  cases hpol : pair.policy with
  | latched =>
    have hs : s.wouldSuspend i pair = true ↔ pair.scope = Scope.group := by simp [State.wouldSuspend, hpol, hi, hp]
    simp only [hs, hi, (h2.trans (State.latch_upon s2 i .capability)).tests hi hp, s3]
  | recovering => exact (h2.trans (State.exclude_upon s2 i)).tests hi hp
  | reportOnly => rfl
  | off => rfl

theorem State.raise_capability_outcome : WorkedOn g (· = i) s (s.raise i .capability) := by
  obtain ⟨s2, h2, -, hraise⟩ := State.raise_capability_eq hi hp
  rw [hraise]
  split
  next hpol =>
    have h3 : Upon (· = i) s (s2.latch i .capability) := h2.trans (State.latch_upon _ _ _)
    split
    next hscope =>
      refine .trans (fun j hj => hj ▸ hi) (.inl h3) (.inr (State.suspend_suspends ?_))
      rw [h3.stored, ← hpol, ← hscope]
    next => exact .inl h3
  next => exact .inl (h2.trans (State.exclude_upon s2 i))
  next => exact .inl h2
  next => exact .inl h2

/-- A member that a failing check takes out of service first. -/
theorem State.failCheck_eq :
    ∃ s1, Upon (· = i) s s1 ∧ s.failCheck i = s1.raise i .capability
      ∧ s1 = (if (s.member i).state.eligible || (s.member i).standingOrder.isSome then
          (s.release i s.tref.e).enter i .free else s) := by
  unfold State.failCheck
  extract_lets m s1
  have h1 : Upon (· = i) s s1 := by
    unfold s1
    split
    · exact s.releaseTo_upon _ _ _
    · exact .refl _ _
  refine ⟨s1, h1, ?_, rfl⟩
  have hi1 := (h1.groupOf i).trans hi
  have hp1 : (s1.group g).state = .pending := by rw [h1.group g, hp]
  exact (State.raise_capability_outcome hi1 hp1).tests hi1 hp1

theorem State.failCheck_outcome : WorkedOn g (· = i) s (s.failCheck i) := by
  obtain ⟨s1, h1, hf, -⟩ := State.failCheck_eq hi hp
  rw [hf]
  refine .trans (fun j hj => hj ▸ hi) (.inl h1) (State.raise_capability_outcome ((h1.groupOf i).trans hi) ?_)
  rw [h1.group g, hp]

theorem State.orderMember_outcome (plan tm : Nat) : WorkedOn g (· = i) s (s.orderMember i plan tm) := by
  unfold State.orderMember
  split
  · split
    · extract_lets s1
      have h1 : Upon (· = i) s s1 :=
        Upon.trans (.modMember s i fun m => m.clearCond .capability) (State.placeOrder_upon _ _ _ _)
      have h2 := h1.trans (.modMember s1 i fun m => (m.enter .ordered).clearTransition)
      exact .inl (by rw [h2.tests hi hp]; exact h2)
    · exact State.failCheck_outcome hi hp
  · exact State.failCheck_outcome hi hp

end

end Sys2Proof.Machine
end

section
/-! SUPPORT. What the operations of a switch start make of the member they work on: released, ordered, failing its check, or
returning from EXCLUDED. -/

namespace Sys2Proof.Machine

/-! ### Fields of a member -/

section
variable (m : Member)

@[simp] theorem Member.enter_state (st : MemberState) : (m.enter st).state = st := by
  cases st <;> rfl

@[simp] theorem Member.clearTransitionConds_capability :
    m.clearTransitionConds.faults.get .capability = m.faults.get .capability := rfl

@[simp] theorem Member.enter_capability (st : MemberState) :
    (m.enter st).faults.get .capability = m.faults.get .capability := by
  unfold Member.enter
  cases st <;> simp only [Member.clearTransitionConds_capability] <;> split <;> rfl

/-- Only the six classes there are hold a member out, each with its flags. -/
theorem Member.heldOut_congr {m n : Member} (h : m.faults = n.faults) : m.heldOut = n.heldOut := by
  simp only [Member.heldOut, Member.anyRecovering, Member.anyLatched, h]

end

/-! ### Released members (R73) -/

/-- The standing order of a released member. -/
def State.releaseOrder (s : State) (i : Ix) (tm : Nat) : Option StandingOrder :=
  if (s.place i).isNone then none else some ⟨.release, releasePayload tm, .owed, s.nextOid, false⟩

theorem State.placeOrder_member (s : State) (i : Ix) (kind : OrderKind) (p : OrderPayload) :
    (s.placeOrder i kind p).member i
      = { (s.member i).clearCond .orderMissed with order := some ⟨kind, p, .owed, s.nextOid, false⟩ } := by
  unfold State.placeOrder
  extract_lets s1 s2
  have h1 : s1.member i = s.member i := by
    unfold s1
    split <;> rfl
  have h2 : s2.member i = _ := State.member_modMember_self _ _ _
  rw [h1] at h2
  exact h2

theorem State.enter_member (s : State) (i : Ix) (st : MemberState) : (s.enter i st).member i = (s.member i).enter st :=
  State.member_modMember_self _ _ _

/-- A released member keeps its state and its CAPABILITY entry, and its order is the RELEASE, or none when it is sent nothing. -/
theorem State.release_member (s : State) (i : Ix) (tm : Nat) :
    ((s.release i tm).member i).state = (s.member i).state
      ∧ ((s.release i tm).member i).faults.get .capability = (s.member i).faults.get .capability
      ∧ ((s.member i).state ≠ .offline → ((s.release i tm).member i).order = s.releaseOrder i tm) := by
  unfold State.release State.releaseOrder
  extract_lets s1
  have h1 : (s1.member i).state = (s.member i).state
      ∧ (s1.member i).faults.get .capability = (s.member i).faults.get .capability ∧ s1.nextOid = s.nextOid := by
    unfold s1
    split
    · rw [State.member_modMember_self]
      exact ⟨rfl, rfl, rfl⟩
    · exact ⟨rfl, rfl, rfl⟩
  obtain ⟨hst, hcap, hoid⟩ := h1
  split
  next h =>
    rw [State.clearOrder, State.member_modMember_self]
    refine ⟨hst, hcap, fun hon => ?_⟩
    rw [if_pos (h.resolve_right hon)]
  next h =>
    rw [State.placeOrder_member]
    refine ⟨hst, hcap, fun _ => ?_⟩
    rw [if_neg (fun hn => h (.inl hn)), hoid]

theorem State.release_order {s : State} {i : Ix} {tm : Nat} (h : (s.member i).state ≠ .offline) :
    ((s.release i tm).member i).order = s.releaseOrder i tm := (s.release_member i tm).2.2 h

/-- Member `i` has a RELEASE with a switch time as its standing order, or none when it is unmapped (R73), read off its record. -/
def Stored.Released (t : Stored) (i : Ix) (m : Member) (tm : Nat) : Prop :=
  (vget t.maps i = none → m.order = none)
    ∧ (vget t.maps i ≠ none → ∃ oid, m.order = some ⟨.release, ⟨0, 0, 0, 0, tm, .delay⟩, .owed, oid, false⟩)

theorem State.released_iff (s : State) (i : Ix) (tm : Nat) : s.Released i tm ↔ s.stored.Released i (s.member i) tm := .rfl

theorem Stored.released_of_order {s : State} {i : Ix} {m : Member} {tm : Nat} (h : m.order = s.releaseOrder i tm) :
    s.stored.Released i m tm := by
  rw [Stored.Released, h, State.releaseOrder, State.place]
  refine ⟨fun hn => ?_, fun hn => ⟨s.nextOid, ?_⟩⟩
  · rw [hn]; rfl
  · rw [if_neg (by simpa using hn)]
    rfl

/-! ### Ordered members (R72) -/

theorem Stored.activation_plan {t : Stored} {m : Member} {w : Nat} (h : t.activation m w = true) : ∃ p, t.plan w = some p := by
  unfold Stored.activation at h
  split at h
  · exact ⟨_, ‹_›⟩
  · cases h

section
variable {s : State} {i : Ix} {g : GroupNo} (w tm : Nat)

/-- A member is ordered for a plan with a switch time (R72), read off its record. -/
def Stored.Ordered (t : Stored) (i : Ix) (m : Member) (plan tm : Nat) : Prop :=
  m.state = .ordered
    ∧ ∃ oid, ∃ p ∈ t.plan plan,
        m.order = some ⟨.order, ⟨plan, p.pattern, p.cycle, t.offset plan i, tm, p.method⟩, .owed, oid, false⟩

theorem State.ordered_iff (s : State) (i : Ix) (plan tm : Nat) :
    s.Ordered i plan tm ↔ s.stored.Ordered i (s.member i) plan tm := .rfl

theorem State.orderMember_passing (hi : s.groupOf i = some g) (hp : (s.group g).state = .pending)
    (h : s.stored.activation (s.member i) w = true) :
    s.stored.Ordered i ((s.orderMember i w tm).member i) w tm := by
  obtain ⟨p, hplan⟩ := Stored.activation_plan h
  unfold State.orderMember
  rw [hplan]
  simp only [h, if_true]
  have h1 : Upon (· = i) s ((s.clearCond i .capability).placeOrder i .order (s.stored.orderFor i w p tm)) :=
    Upon.trans (.modMember s i fun m => m.clearCond .capability) (State.placeOrder_upon _ _ _ _)
  have h2 := h1.trans (.modMember _ i fun m => (m.enter .ordered).clearTransition)
  rw [h2.tests hi hp]
  have hm := State.placeOrder_member (s.clearCond i .capability) i .order (s.stored.orderFor i w p tm)
  refine ⟨?_, (s.clearCond i .capability).nextOid, p, hplan, ?_⟩
  · rw [State.member_modMember_self]
    exact Member.enter_state _ _
  · rw [State.member_modMember_self]
    refine (Member.enter_order _ _).trans ?_
    rw [hm]
    rfl

theorem State.orderMember_failing (h : s.stored.activation (s.member i) w = false) :
    s.orderMember i w tm = s.failCheck i := by
  unfold State.orderMember
  split
  · rw [if_neg (by simp [h])]
  · rfl

end

/-! ### A failing check (R72, R126) -/

/-- A member that has failed its check, from the record it had. -/
def Member.FailedFrom (m : Member) (pol : Policy) (n : Member) : Prop :=
  (n.faults.get .capability).count = min 255 ((m.faults.get .capability).count + 1)
    ∧ n.state = (match pol with
        | .latched => .latched
        | .recovering => .excluded
        | _ => .free)

theorem State.latch_free {s : State} {i : Ix} {c : FaultClass} (h : (s.member i).state = .free) :
    s.latch i c
      = ((s.modMember i fun m => { m with faults := m.faults.set c { m.faults.get c with latched := true } }).release i
          s.tref.e).enter i .latched := by
  simp only [State.latch, h]

theorem State.exclude_free {s : State} {i : Ix} (h : (s.member i).state = .free) : s.exclude i = s.enter i .excluded := by
  simp only [State.exclude, h]

/-- The raise of CAPABILITY by a FREE member whose group it does not suspend. -/
theorem State.raise_capability_failed {s : State} {i : Ix} {g : GroupNo} (hi : s.groupOf i = some g)
    (hp : (s.group g).state = .pending) (hfree : (s.member i).state = .free)
    (hend : ((s.raise i .capability).group g).state = .pending) :
    (s.member i).FailedFrom (s.stored.policies.get .capability).policy ((s.raise i .capability).member i) := by
  obtain ⟨s2, h2, hm2, hraise⟩ := State.raise_capability_eq hi hp
  have hst : (s2.member i).state = .free := by
    rw [hm2]
    exact hfree
  have hcount : ((s2.member i).faults.get .capability).count = min 255 (((s.member i).faults.get .capability).count + 1) := by
    rw [hm2]
    rfl
  rw [hraise] at hend ⊢
  cases hpol : (s.stored.policies.get .capability).policy with
  | off => exact ⟨hcount, hst⟩
  | reportOnly => exact ⟨hcount, hst⟩
  | recovering =>
    simp only [State.exclude_free hst, State.enter_member]
    refine ⟨?_, Member.enter_state _ _⟩
    rw [Member.enter_capability]
    exact hcount
  | latched =>
    simp only [hpol] at hend ⊢
    split at hend
    next hscope =>
      have hsus := State.suspend_suspends (g := g) (c := .capability) (i := i) (s := s2.latch i .capability) (by
        rw [(h2.trans (State.latch_upon s2 i .capability)).stored, ← hpol, ← hscope])
      rw [hsus.state] at hend
      cases hend
    next hscope =>
      rw [if_neg hscope, State.latch_free hst, State.enter_member]
      refine ⟨?_, Member.enter_state _ _⟩
      rw [Member.enter_capability, (State.release_member _ _ _).2.1, State.member_modMember_self, PerClass.get_set_self]
      exact hcount

/-- A member that a switch start takes or brings back and that fails its check. -/
theorem State.failCheck_failed {s : State} {i : Ix} {g : GroupNo} (hi : s.groupOf i = some g)
    (hp : (s.group g).state = .pending) (htaken : (s.member i).state.taken = true)
    (hend : ((s.failCheck i).group g).state = .pending) :
    (s.member i).FailedFrom (s.stored.policies.get .capability).policy ((s.failCheck i).member i) := by
  obtain ⟨s1, h1, hf, hs1⟩ := State.failCheck_eq hi hp
  have hm1 : (s1.member i).state = .free
      ∧ (s1.member i).faults.get .capability = (s.member i).faults.get .capability := by
    rw [hs1]
    split
    · rw [State.enter_member]
      exact ⟨Member.enter_state _ _, (Member.enter_capability _ _).trans (s.release_member i _).2.1⟩
    next hne =>
      refine ⟨?_, rfl⟩
      revert htaken hne
      cases (s.member i).state <;> simp [MemberState.taken, MemberState.eligible]
  rw [hf] at hend ⊢
  have hfail := State.raise_capability_failed ((h1.groupOf i).trans hi) (by rw [h1.group g, hp]) hm1.1 hend
  rw [h1.stored] at hfail
  unfold Member.FailedFrom at hfail ⊢
  rwa [hm1.2] at hfail

end Sys2Proof.Machine
end

section
/-! SUPPORT. The start of a switch: its three passes over the members of a group that stays PENDING, member by member. -/

namespace Sys2Proof.Machine

/-! ### Readmission into a PENDING group (R87) -/

theorem State.lateTm_pending {s : State} {r : Group} (h : r.ts = some (s.tref.e + 10 * s.stored.params.lead)) :
    s.lateTm r = s.tref.e + 10 * s.stored.params.lead := by
  simp [State.lateTm, State.leadDs, h]

section
variable {s : State} {i : Ix} {g : GroupNo} (hi : s.groupOf i = some g) (hp : (s.group g).state = .pending)
include hi hp

theorem State.readmit_pending :
    s.readmit i true
      = if (s.group g).target = 0 then (s.enter i .free).release i s.tref.e
        else if (s.member i).standingOrder.map (fun o => o.payload.plan) = some (s.group g).target then
          (s.enter i .free).enter i .ordered
        else (s.enter i .free).orderMember i (s.group g).target (s.lateTm (s.group g)) := by
  have hm : ((s.enter i .free).member i).standingOrder = (s.member i).standingOrder := by
    rw [State.enter_member, Member.standingOrder, Member.enter_order]
    rfl
  have ht : ((s.enter i .free).enter i .ordered).testsOf i = (s.enter i .free).enter i .ordered :=
    ((s.enter_upon i .free).trans (State.enter_upon _ _ _)).tests hi hp
  unfold State.readmit
  simp only [hi, hp, hm, ht, decide_eq_true_eq]
  rfl

theorem State.readmit_outcome : WorkedOn g (· = i) s (s.readmit i true) := by
  have h1 : Upon (· = i) s (s.enter i .free) := s.enter_upon i _
  rw [State.readmit_pending hi hp]
  split
  · exact .inl (h1.trans (State.release_upon _ _ _))
  · split
    · exact .inl (h1.trans (State.enter_upon _ _ _))
    · exact .trans (fun j hj => hj ▸ hi) (.inl h1)
        (State.orderMember_outcome ((h1.groupOf i).trans hi) (by rw [h1.group g, hp]) _ _)

end

/-! ### The three passes (R74) -/

/-- What a withdrawal makes of a member that a switch start finds EXCLUDED. -/
def Member.withdrawn (m : Member) (w : Nat) : Member :=
  if m.withdraws w then { m.clearCond .orderMissed with order := none } else m

/-- The member once the conditions that a switch start ends are gone. -/
def Member.relieved (m : Member) : Member := m.clearTransitionConds.clearCond .capability

theorem Member.returns_eq (m : Member) (w : Nat) :
    m.returns w = (decide (m.state = .excluded) && !(m.withdrawn w).relieved.heldOut) := by
  unfold Member.returns Member.withdrawn
  split
  · exact congrArg (fun b => decide (m.state = .excluded) && !b) (Member.heldOut_congr rfl)
  · rfl

theorem Member.withdrawn_state (m : Member) (w : Nat) : (m.withdrawn w).state = m.state := by
  unfold Member.withdrawn
  split <;> rfl

theorem Member.withdrawn_capability (m : Member) (w : Nat) :
    (m.withdrawn w).capability = m.capability
      ∧ (m.withdrawn w).faults.get .capability = m.faults.get .capability := by
  unfold Member.withdrawn
  split <;> exact ⟨rfl, rfl⟩

section
variable {s : State} {i : Ix} {g : GroupNo}

theorem State.switchTake_untaken (h : (s.member i).state.taken = false) : State.switchTake g s i = s := by
  simp [State.switchTake, h]

theorem State.switchTake_outcome (hi : s.groupOf i = some g) : WorkedOn g (· = i) s (State.switchTake g s i) := by
  unfold State.switchTake
  extract_lets r
  split
  next h =>
    split
    · exact .inl ((s.release_upon i _).trans (.modMember _ _ _))
    · exact State.orderMember_outcome hi h.1 _ _
  next => exact .inl (.refl _ _)

theorem State.withdraw_outcome : WorkedOn g (· = i) s (State.withdraw g s i) := by
  unfold State.withdraw
  split
  · exact .inl ((s.dropOrder_upon _ i).trans (State.clearOrder_upon _ _))
  · exact .inl (.refl _ _)

theorem State.withdraw_member (hp : (s.group g).state = .pending) (hx : (s.member i).state = .excluded) :
    (State.withdraw g s i).member i = (s.member i).withdrawn (s.group g).target := by
  have hm : (s.dropOrder i).member i = s.member i := (s.dropOrder_upon (fun _ => False) i).members i nofun
  unfold State.withdraw Member.withdrawn
  simp only [hp, hx, true_and]
  split
  · rw [State.clearOrder, State.member_modMember_self, hm]
  · rfl

theorem State.switchEnds_outcome (hi : s.groupOf i = some g) : WorkedOn g (· = i) s (State.switchEnds g s i) := by
  unfold State.switchEnds
  split
  next h =>
    have h1 : Upon (· = i) s (s.modMember i Member.relieved) := .modMember _ _ _
    refine .trans (fun j hj => hj ▸ hi) (.inl h1) ?_
    unfold State.tryReadmit
    split
    · exact State.readmit_outcome ((h1.groupOf i).trans hi) (by rw [h1.group g]; exact h.1)
    · exact .inl (.refl _ _)
  next => exact .inl (.refl _ _)

theorem State.switchEnds_eq (hp : (s.group g).state = .pending) (hx : (s.member i).state = .excluded) :
    State.switchEnds g s i
      = if (s.member i).relieved.heldOut = false then (s.modMember i Member.relieved).readmit i true
        else s.modMember i Member.relieved := by
  have hst : ((s.member i).relieved).state = .excluded := hx
  unfold State.switchEnds State.tryReadmit
  rw [if_pos ⟨hp, hx⟩]
  show (if ((s.modMember i Member.relieved).member i).state = .excluded
      ∧ ((s.modMember i Member.relieved).member i).heldOut = false then _ else _) = _
  simp only [State.member_modMember_self, hst, true_and]
  rfl

end

/-! ### A pass over a list of members -/

section
variable {g : GroupNo} {f : State → Ix → State}
  (hf : ∀ (s : State) (i : Ix), s.groupOf i = some g → WorkedOn g (· = i) s (f s i))
include hf

theorem State.pass_outcome (l : List Ix) (s : State) (hl : ∀ i ∈ l, s.groupOf i = some g) :
    WorkedOn g (fun j => s.groupOf j = some g) s (l.foldl f s) := by
  induction l generalizing s with
  | nil => exact .inl (.refl _ _)
  | cons i l ih =>
    have hi := hl i (.head _)
    have h1 := hf s i hi
    have hof : ∀ j, (f s i).groupOf j = s.groupOf j := fun j => by
      rw [State.groupOf, h1.faulting.stored]
      rfl
    have h2 := ih (f s i) fun j hj => (hof j).trans (hl j (.tail _ hj))
    exact (h1.mono fun j hj => hj ▸ hi).trans (fun j hj => hj) (h2.mono fun j hj => (hof j).symm.trans hj)

/-- A pass after which the group is still PENDING works on each member of its list once, and on no other. -/
theorem State.pass_pending {l : List Ix} {s : State} (hnd : l.Nodup) (hl : ∀ i ∈ l, s.groupOf i = some g)
    (hend : ((l.foldl f s).group g).state = .pending) :
    Upon (· ∈ l) s (l.foldl f s)
      ∧ ∀ i ∈ l, ∃ u, Upon (· ≠ i) s u ∧ ((f u i).group g).state = .pending
          ∧ (l.foldl f s).member i = (f u i).member i := by
  induction l generalizing s with
  | nil => exact ⟨.refl _ _, nofun⟩
  | cons a l ih =>
    obtain ⟨hal, hnd⟩ := List.nodup_cons.mp hnd
    have ha := hl a (.head _)
    have h1 := hf s a ha
    have hl2 : ∀ i ∈ l, (f s a).groupOf i = some g := fun i hi => by
      rw [State.groupOf, h1.faulting.stored]
      exact hl i (.tail _ hi)
    obtain ⟨h2, hw⟩ := ih hnd hl2 hend
    have hmid : ((f s a).group g).state = .pending := by
      rw [← h2.group g]
      exact hend
    have h1 := h1.upon hmid
    refine ⟨(h1.mono fun j hj => hj ▸ .head _).trans (h2.mono fun j hj => .tail _ hj), fun i hi => ?_⟩
    rcases List.mem_cons.mp hi with rfl | hi
    · exact ⟨s, .refl _ _, hmid, h2.members i hal⟩
    · obtain ⟨u, hu, hpu, hmu⟩ := hw i hi
      exact ⟨u, (h1.mono fun j (hj : j = a) (hji : j = i) => hal (hj ▸ hji ▸ hi)).trans hu, hpu, hmu⟩

end

end Sys2Proof.Machine
end

section
/-! SUPPORT. What the start of a switch makes of each member of a group that stays PENDING (R73 to R75, R87, R163). -/

namespace Sys2Proof.Machine

theorem Member.taken_iff (m : Member) : m.Taken ↔ m.state.taken = true := by
  unfold Member.Taken
  cases m.state <;> simp [MemberState.taken]

theorem Stored.activation_congr (t : Stored) {m n : Member} (w : Nat) (h : m.capability = n.capability) :
    t.activation m w = t.activation n w := by
  simp only [Stored.activation, h]

theorem Member.enter_record (m : Member) (st : MemberState) : (m.enter st).capability = m.capability := by
  unfold Member.enter
  cases st <;> simp only [Member.clearTransitionConds, Member.clearCond] <;> split <;> rfl

/-- A member that a switch start to `w` takes: released for target 0, ordered, or left with a failing check (R74). -/
structure TakenTo (t : Stored) (i : Ix) (ts w : Nat) (m n : Member) : Prop where
  released : w = 0 → n.state = .ordered ∧ t.Released i n ts
  ordered : w ≠ 0 → t.activation m w = true → t.Ordered i n w ts
  failed : w ≠ 0 → t.activation m w = false → m.FailedFrom (t.policies.get .capability).policy n

/-- A member that a switch start to `w` brings back from EXCLUDED (R87). -/
structure BackTo (t : Stored) (i : Ix) (e ts w : Nat) (m n : Member) : Prop where
  released : w = 0 → n.state = .free ∧ t.Released i n e
  kept : w ≠ 0 → m.standingOrder.map (fun o => o.payload.plan) = some w → n.state = .ordered ∧ n.order = m.order
  ordered : w ≠ 0 → m.standingOrder.map (fun o => o.payload.plan) ≠ some w → t.activation m w = true → t.Ordered i n w ts
  failed : w ≠ 0 → m.standingOrder.map (fun o => o.payload.plan) ≠ some w → t.activation m w = false →
    m.FailedFrom (t.policies.get .capability).policy n

section
variable {s : State} {i : Ix} {g : GroupNo} (hi : s.groupOf i = some g) (hp : (s.group g).state = .pending)
include hi hp

theorem State.switchTake_taken {ts : Nat} (hts : (s.group g).ts = some ts) (ht : (s.member i).state.taken = true)
    (hend : ((State.switchTake g s i).group g).state = .pending) :
    TakenTo s.stored i ts (s.group g).target (s.member i) ((State.switchTake g s i).member i) := by
  have hon : (s.member i).state ≠ .offline := fun h => by
    rw [h] at ht
    cases ht
  unfold State.switchTake at hend ⊢
  simp only [hp, ht, hts, and_self, if_true, Option.getD_some] at hend ⊢
  split at hend
  next h0 =>
    rw [if_pos h0, State.member_modMember_self]
    refine ⟨fun _ => ⟨Member.enter_state _ _, ?_⟩, fun h => absurd h0 h, fun h => absurd h0 h⟩
    exact Stored.released_of_order ((Member.enter_order _ _).trans (State.release_order hon))
  next h0 =>
    rw [if_neg h0]
    refine ⟨fun h => absurd h h0, fun _ ha => State.orderMember_passing _ _ hi hp ha, fun _ ha => ?_⟩
    rw [State.orderMember_failing _ _ ha] at hend ⊢
    exact State.failCheck_failed hi hp ht hend

theorem State.readmit_back {ts : Nat} (hts : (s.group g).ts = some ts) (he : ts = s.tref.e + 10 * s.stored.params.lead)
    (hend : ((s.readmit i true).group g).state = .pending) :
    BackTo s.stored i s.tref.e ts (s.group g).target (s.member i) ((s.readmit i true).member i) := by
  have h1 : Upon (· = i) s (s.enter i .free) := s.enter_upon i _
  have hi1 := (h1.groupOf i).trans hi
  have hp1 : ((s.enter i .free).group g).state = .pending := by rw [h1.group g, hp]
  have hm1 : (s.enter i .free).member i = (s.member i).enter .free := s.enter_member i _
  have hst : ((s.enter i .free).member i).state = .free := by rw [hm1, Member.enter_state]
  have hact : ∀ w, s.stored.activation ((s.enter i .free).member i) w = s.stored.activation (s.member i) w := fun w => by
    rw [hm1]
    exact Stored.activation_congr _ _ (Member.enter_record _ _)
  rw [State.readmit_pending hi hp] at hend ⊢
  rw [State.lateTm_pending (hts.trans (congrArg some he)), ← he] at hend ⊢
  split at hend
  next h0 =>
    rw [if_pos h0]
    obtain ⟨hrst, -, hord⟩ := (s.enter i .free).release_member i s.tref.e
    refine ⟨fun _ => ⟨hrst.trans hst, ?_⟩, fun h => absurd h0 h, fun h => absurd h0 h, fun h => absurd h0 h⟩
    exact Stored.released_of_order (s := s.enter i .free) (hord (by rw [hst]; decide))
  next h0 =>
    rw [if_neg h0]
    split at hend
    next hk =>
      rw [if_pos hk, State.enter_member, hm1]
      refine ⟨fun h => absurd h h0, fun _ _ => ⟨Member.enter_state _ _, ?_⟩, fun _ h => absurd hk h, fun _ h => absurd hk h⟩
      rw [Member.enter_order, Member.enter_order]
    next hk =>
      rw [if_neg hk]
      refine ⟨fun h => absurd h h0, fun _ h => absurd h hk, fun _ _ ha => ?_, fun _ _ ha => ?_⟩
      · exact State.orderMember_passing (s := s.enter i .free) _ _ hi1 hp1 ((hact _).trans ha)
      · rw [State.orderMember_failing (s := s.enter i .free) _ _ ((hact _).trans ha)] at hend ⊢
        have hfail := State.failCheck_failed hi1 hp1 (by rw [hst]; rfl) hend
        unfold Member.FailedFrom at hfail ⊢
        rw [hm1, Member.enter_capability] at hfail
        exact hfail

theorem State.switchEnds_back {ts : Nat} (hx : (s.member i).state = .excluded) (hts : (s.group g).ts = some ts)
    (he : ts = s.tref.e + 10 * s.stored.params.lead)
    (hend : ((State.switchEnds g s i).group g).state = .pending) :
    ((s.member i).relieved.heldOut = false →
        BackTo s.stored i s.tref.e ts (s.group g).target (s.member i) ((State.switchEnds g s i).member i))
      ∧ ((s.member i).relieved.heldOut = true → (State.switchEnds g s i).member i = (s.member i).relieved) := by
  have h1 : Upon (· = i) s (s.modMember i Member.relieved) := .modMember _ _ _
  rw [State.switchEnds_eq hp hx] at hend ⊢
  refine ⟨fun hh => ?_, fun hh => ?_⟩
  · rw [if_pos hh] at hend ⊢
    have hb := State.readmit_back ((h1.groupOf i).trans hi) (by rw [h1.group g, hp]) (by rw [h1.group g, hts]) he hend
    rw [State.member_modMember_self] at hb
    obtain ⟨h0, hk, ho, hf⟩ := hb
    refine ⟨h0, hk, ho, fun hw hn ha => ?_⟩
    have hfail := hf hw hn ha
    unfold Member.FailedFrom at hfail ⊢
    exact hfail
  · rw [if_neg (by simp [hh]), State.member_modMember_self]

end

/-! ### The passes together -/

/-- What a switch start to `w` makes of a member of its group (R74, R87, R113, R127, R163). -/
structure Switched (t : Stored) (i : Ix) (e ts w : Nat) (m n : Member) : Prop where
  taken : m.Taken → TakenTo t i ts w m n
  back : m.returns w = true → BackTo t i e ts w (m.withdrawn w) n
  held : m.state = .excluded → m.returns w = false → n = (m.withdrawn w).relieved
  other : ¬ m.Taken → m.state ≠ .excluded → n = m

/-- The three passes of a switch start over the members of a group (R74). -/
def State.switchPasses (s : State) (g : GroupNo) : State :=
  let found := (s.membersOf g).filter fun i => (s.member i).state = .excluded
  found.foldl (State.switchEnds g) (found.foldl (State.withdraw g) ((s.membersOf g).foldl (State.switchTake g) s))

theorem State.membersOf_nodup (s : State) (g : GroupNo) : (s.membersOf g).Nodup := (List.nodup_finRange 64).filter _

/-- A member and its group as a pass finds them, the passes before having left them alone. -/
theorem Upon.found {P : Ix → Prop} {s u : State} (h : Upon P s u) {i : Ix} (hi : ¬ P i) (g : GroupNo) :
    u.member i = s.member i ∧ u.group g = s.group g ∧ u.stored = s.stored ∧ u.tref = s.tref ∧ u.groupOf i = s.groupOf i :=
  ⟨h.members i hi, h.group g, h.stored, h.tref, h.groupOf i⟩

section
variable {s : State} {g : GroupNo} {found : List Ix}
  (hfound : found = (s.membersOf g).filter fun i => (s.member i).state = .excluded)
include hfound

theorem State.mem_found {i : Ix} : i ∈ found ↔ s.groupOf i = some g ∧ (s.member i).state = .excluded := by
  rw [hfound, List.mem_filter, State.mem_membersOf, decide_eq_true_eq]

theorem State.found_nodup : found.Nodup := hfound ▸ (s.membersOf_nodup g).filter _

/-- The last two passes work upon the members found EXCLUDED (R74). -/
theorem State.found_outcome {t : State} {f : State → Ix → State}
    (hf : ∀ (s : State) (i : Ix), s.groupOf i = some g → WorkedOn g (· = i) s (f s i)) (ht : t.stored = s.stored) :
    WorkedOn g (fun j => s.groupOf j = some g) t (found.foldl f t) := by
  have hof : ∀ j, t.groupOf j = s.groupOf j := fun j => by rw [State.groupOf, ht]; rfl
  exact (State.pass_outcome hf found t fun i hi => (hof i).trans ((State.mem_found hfound).mp hi).1).mono
    fun j hj => (hof j).symm.trans hj

theorem State.found_pending {t : State} {f : State → Ix → State}
    (hf : ∀ (s : State) (i : Ix), s.groupOf i = some g → WorkedOn g (· = i) s (f s i)) (ht : t.stored = s.stored)
    (hend : ((found.foldl f t).group g).state = .pending) :
    Upon (· ∈ found) t (found.foldl f t)
      ∧ ∀ i ∈ found, ∃ u, Upon (· ≠ i) t u ∧ ((f u i).group g).state = .pending
          ∧ (found.foldl f t).member i = (f u i).member i :=
  State.pass_pending hf (State.found_nodup hfound)
    (fun i hi => by
      rw [State.groupOf, ht]
      exact ((State.mem_found hfound).mp hi).1) hend

end

theorem State.switchPasses_outcome (s : State) (g : GroupNo) :
    WorkedOn g (fun j => s.groupOf j = some g) s (s.switchPasses g) := by
  unfold State.switchPasses
  extract_lets found
  have h3 := State.pass_outcome (f := State.switchTake g) (fun _ _ => State.switchTake_outcome) (s.membersOf g) s
    fun i => State.mem_membersOf.mp
  generalize (s.membersOf g).foldl (State.switchTake g) s = s3 at h3 ⊢
  have h4 := State.found_outcome (found := found) rfl (f := State.withdraw g) (fun _ _ _ => State.withdraw_outcome)
    h3.faulting.stored
  generalize found.foldl (State.withdraw g) s3 = s4 at h4 ⊢
  have h5 := State.found_outcome (found := found) rfl (f := State.switchEnds g) (fun _ _ => State.switchEnds_outcome)
    (h4.faulting.stored.trans h3.faulting.stored)
  exact (h3.trans (fun _ => id) h4).trans (fun _ => id) h5

/-- Each member of a group that stays PENDING is switched as its record asks for. -/
theorem State.switchPasses_switched {s : State} {g : GroupNo} {ts : Nat} (hp : (s.group g).state = .pending)
    (hts : (s.group g).ts = some ts) (he : ts = s.tref.e + 10 * s.stored.params.lead)
    (hend : ((s.switchPasses g).group g).state = .pending) {i : Ix} (hi : s.groupOf i = some g) :
    Switched s.stored i s.tref.e ts (s.group g).target (s.member i) ((s.switchPasses g).member i) := by
  unfold State.switchPasses at hend ⊢
  dsimp only at hend ⊢
  generalize hfound : ((s.membersOf g).filter fun i => (s.member i).state = .excluded) = found at hend ⊢
  have hst3 := (State.pass_outcome (f := State.switchTake g) (fun _ _ => State.switchTake_outcome) (s.membersOf g) s
    fun i => State.mem_membersOf.mp).faulting.stored
  have hpass3 := State.pass_pending (f := State.switchTake g) (fun _ _ => State.switchTake_outcome) (s.membersOf_nodup g)
    fun i => State.mem_membersOf.mp
  generalize (s.membersOf g).foldl (State.switchTake g) s = s3 at hst3 hpass3 hend ⊢
  have hst4 := (State.found_outcome hfound.symm (f := State.withdraw g) (fun _ _ _ => State.withdraw_outcome)
    hst3).faulting.stored
  have hpass4 := State.found_pending hfound.symm (f := State.withdraw g) (fun _ _ _ => State.withdraw_outcome) hst3
  generalize found.foldl (State.withdraw g) s3 = s4 at hst4 hpass4 hend ⊢
  obtain ⟨h5, w5⟩ := State.found_pending hfound.symm (f := State.switchEnds g) (fun _ _ => State.switchEnds_outcome)
    (hst4.trans hst3) hend
  generalize found.foldl (State.switchEnds g) s4 = t at h5 w5 hend ⊢
  obtain ⟨h4, w4⟩ := hpass4 (by rwa [← h5.group g])
  obtain ⟨h3, w3⟩ := hpass3 (by rwa [← h4.group g, ← h5.group g])
  obtain ⟨u, hu, hpu, hm3⟩ := w3 i (State.mem_membersOf.mpr hi)
  obtain ⟨hum, hug, hust, hutr, huof⟩ := hu.found (i := i) (by simp) g
  have hkeep : i ∉ found → t.member i = s3.member i := fun hn => (h5.members i hn).trans (h4.members i hn)
  have hrest : (s.member i).state.taken = false → s3.member i = s.member i := fun h => by
    rw [hm3, State.switchTake_untaken (by rwa [hum]), hum]
  have hback : (s.member i).state = .excluded →
      (((s.member i).withdrawn (s.group g).target).relieved.heldOut = false →
          BackTo s.stored i s.tref.e ts (s.group g).target ((s.member i).withdrawn (s.group g).target) (t.member i))
        ∧ (((s.member i).withdrawn (s.group g).target).relieved.heldOut = true →
          t.member i = ((s.member i).withdrawn (s.group g).target).relieved) := by
    intro hx
    have hmem : i ∈ found := (State.mem_found hfound.symm).mpr ⟨hi, hx⟩
    obtain ⟨v, hv, -, hm4⟩ := w4 i hmem
    obtain ⟨x, hxu, hpx, hm5⟩ := w5 i hmem
    obtain ⟨hvm, hvg, -⟩ := hv.found (i := i) (by simp) g
    obtain ⟨hxm, hxg, hxst, hxtr, hxof⟩ := hxu.found (i := i) (by simp) g
    have hm : s3.member i = s.member i := hrest (by rw [hx]; rfl)
    rw [hm] at hvm
    rw [h3.group g] at hvg
    rw [hm4, State.withdraw_member (by rw [hvg, hp]) (by rw [hvm, hx]), hvm, hvg] at hxm
    rw [h4.group g, h3.group g] at hxg
    rw [hst4, hst3] at hxst
    rw [h4.tref, h3.tref] at hxtr
    rw [h4.groupOf, h3.groupOf, hi] at hxof
    have hb := State.switchEnds_back hxof (by rw [hxg, hp]) (by rw [hxm, Member.withdrawn_state, hx]) (by rw [hxg, hts])
      (by rw [hxst, hxtr, he]) hpx
    rwa [hxm, hxg, hxst, hxtr, ← hm5] at hb
  refine ⟨fun ht => ?_, fun hr => ?_, fun hx hr => ?_, fun hnt hnx => ?_⟩
  · have ht := (Member.taken_iff _).mp ht
    have hn : i ∉ found := fun h => by
      rw [((State.mem_found hfound.symm).mp h).2] at ht
      cases ht
    have htake := State.switchTake_taken (huof.trans hi) (by rw [hug, hp]) (hug ▸ hts) (by rwa [hum]) hpu
    rwa [hum, hug, hust, ← hm3, ← hkeep hn] at htake
  · rw [Member.returns_eq, Bool.and_eq_true, decide_eq_true_eq, Bool.not_eq_true'] at hr
    exact (hback hr.1).1 hr.2
  · rw [Member.returns_eq, decide_eq_true hx, Bool.true_and, Bool.not_eq_false'] at hr
    exact (hback hx).2 hr
  · have hnt : (s.member i).state.taken = false := by rwa [Member.taken_iff, Bool.not_eq_true] at hnt
    rw [hkeep fun h => hnx ((State.mem_found hfound.symm).mp h).2, hrest hnt]

end Sys2Proof.Machine
end

section
/-! SUPPORT. The evaluation of one group and of a list of groups (R47, R53, R74, R75): what each group of the list comes to. -/

namespace Sys2Proof.Machine

/-! ### The start of a switch -/

/-- The Ts of a switch that starts at this instant (R74). -/
def State.startTs (s : State) : Nat := s.tref.e + 10 * s.stored.params.lead

/-- The record of a group that starts a switch to a wanted plan (R74). -/
def Group.begun (r : Group) (w : Nat × WantedSource) (ts : Nat) : Group :=
  { r with wanted := w.1, source := w.2, target := w.1, ts := some ts, state := .pending }

/-- The SWITCH_STARTED notice of a group that an evaluation starts (R75). -/
def State.switchNotice (s : State) (g : GroupNo) : Notice :=
  ⟨s.tref.e, .switchStarted g (s.wantedOf g).1 (s.group g).target (s.group g).current s.startTs (s.wantedOf g).2
    ((s.membersOf g).filter (s.orderedAtStart (s.wantedOf g).1)).length
    ((s.membersOf g).filter (s.waitsAtStart (s.wantedOf g).1)).length⟩

/-- The group once its switch has begun, with its notice and before its members are taken. -/
def State.switchBegun (s : State) (g : GroupNo) : State :=
  (s.setGroup g ((s.group g).begun (s.wantedOf g) s.startTs)).told [s.switchNotice g]

/-- A group that an evaluation switches (R53). -/
def State.switches (s : State) (g : GroupNo) : Bool :=
  decide ((s.wantedOf g).1 ≠ (s.group g).target ∧ (s.group g).state ≠ .suspended)

/-- The record of a group that an evaluation leaves with its switch as it is (R53). -/
def Group.recorded (r : Group) (w : Nat × WantedSource) : Group := { r with wanted := w.1, source := w.2 }

theorem State.setGroup_setGroup (s : State) (g : GroupNo) (a b : Group) : (s.setGroup g a).setGroup g b = s.setGroup g b := by
  have h : vset (vset s.groups g a) g b = vset s.groups g b := vget_ext fun j => by
    simp only [vget_vset]
    split <;> rfl
  simp only [State.setGroup, h]

theorem State.told_groups (s : State) (ns : List Notice) : (s.told ns).groups = s.groups := by rw [s.told_eq]
theorem State.told_members (s : State) (ns : List Notice) : (s.told ns).members = s.members := by rw [s.told_eq]
theorem State.told_stored (s : State) (ns : List Notice) : (s.told ns).stored = s.stored := by rw [s.told_eq]
theorem State.told_polls (s : State) (ns : List Notice) : (s.told ns).polls = s.polls := by rw [s.told_eq]

theorem State.membersOf_congr {s t : State} (h : t.stored = s.stored) (g : GroupNo) : t.membersOf g = s.membersOf g := by
  unfold State.membersOf State.groupOf
  rw [h]

/-- The passes of a switch start read the members and the tables alone. -/
theorem State.switchPasses_eq {s t : State} (g : GroupNo) (hmem : t.members = s.members) (hst : t.stored = s.stored) :
    t.switchPasses g
      = (let found := (s.membersOf g).filter fun i => (s.member i).state = .excluded
         found.foldl (State.switchEnds g) (found.foldl (State.withdraw g) ((s.membersOf g).foldl (State.switchTake g) t))) := by
  unfold State.switchPasses State.member
  rw [State.membersOf_congr hst, hmem]

theorem State.evaluateGroup_switches {s : State} {g : GroupNo} (h : s.switches g = true) :
    s.evaluateGroup g = (s.switchBegun g).switchPasses g := by
  have hr : (s.setGroup g ((s.group g).recorded (s.wantedOf g))).group g = (s.group g).recorded (s.wantedOf g) :=
    State.group_setGroup_self _ _ _
  rw [State.switchPasses_eq (s := s) (t := s.switchBegun g) g (State.told_members _ _) (State.told_stored _ _)]
  unfold State.evaluateGroup
  simp only [if_pos (of_decide_eq_true h)]
  change (s.setGroup g ((s.group g).recorded (s.wantedOf g))).startSwitch g = _
  unfold State.startSwitch
  simp only [hr, State.setGroup_setGroup]
  rfl

theorem State.evaluateGroup_keeps {s : State} {g : GroupNo} (h : s.switches g = false) :
    s.evaluateGroup g = s.setGroup g ((s.group g).recorded (s.wantedOf g)) := by
  unfold State.evaluateGroup
  simp only [if_neg (of_decide_eq_false h)]
  rfl

/-! ### What an evaluation makes of a group -/

/-- What an evaluation of group `g` comes to (R53, R74, R75). -/
structure GroupEvaluated (g : GroupNo) (s t : State) : Prop where
  wanted : (t.group g).wanted = (s.wantedOf g).1
  source : (t.group g).source = (s.wantedOf g).2
  hold : (t.group g).hold = (s.group g).hold
  calm : s.switches g = false → t.group g = (s.group g).recorded (s.wantedOf g)
    ∧ ∀ i, s.groupOf i = some g → t.member i = s.member i
  begun : s.switches g = true →
    (s.stored.policies.get .capability = ⟨.latched, .group⟩ ∧ (t.group g).state = .suspended)
    ∨ (t.group g = (s.group g).begun (s.wantedOf g) s.startTs
        ∧ ∀ i, s.groupOf i = some g →
            Switched s.stored i s.tref.e s.startTs (s.wantedOf g).1 (s.member i) (t.member i))

/-- What the evaluation of the groups of a list comes to. -/
structure Evaluated (l : List GroupNo) (s t : State) : Prop where
  phase : t.phase = s.phase
  tref : t.tref = s.tref
  stored : t.stored = s.stored
  polls : t.polls = s.polls
  groups : ∀ h, h ∉ l → t.group h = s.group h
  members : ∀ i, (∀ g ∈ l, s.groupOf i ≠ some g) → t.member i = s.member i
  notices : ∃ ns : List Notice, t.ports = (s.told ns).ports ∧ (ns.filter fun a => a.body.kind = 4) = []
    ∧ (ns.filter fun a => a.body.kind = 2) = (l.filter s.switches).map s.switchNotice
  each : ∀ g ∈ l, GroupEvaluated g s t

theorem State.switchBegun_group (s : State) (g : GroupNo) :
    (s.switchBegun g).group g = (s.group g).begun (s.wantedOf g) s.startTs := by
  unfold State.switchBegun State.group
  rw [State.told_groups]
  exact State.group_setGroup_self _ _ _

theorem State.switchBegun_group_ne {s : State} {g h : GroupNo} (hne : h ≠ g) : (s.switchBegun g).group h = s.group h := by
  unfold State.switchBegun State.group
  rw [State.told_groups]
  exact State.group_setGroup_ne _ _ _ _ hne

theorem State.switchBegun_member (s : State) (g : GroupNo) (i : Ix) : (s.switchBegun g).member i = s.member i := by
  unfold State.switchBegun State.member
  rw [State.told_members]
  rfl

theorem filter_kind_of_faults {ns : List Notice} (h : ∀ a ∈ ns, a.body.kind = 6) {k : Nat} (hk : k ≠ 6) :
    (ns.filter fun a => a.body.kind = k) = [] := by
  rw [List.filter_eq_nil_iff]
  intro a ha
  rw [h a ha]
  simpa using hk.symm

theorem State.told_ports_setGroup (s : State) (g : GroupNo) (r : Group) (ns : List Notice) :
    ((s.setGroup g r).told ns).ports = (s.told ns).ports := by
  unfold State.told
  rw [State.setGroup_phase]
  split <;> rfl

/-- An evaluation that starts a switch of its group. -/
theorem State.evaluateGroup_begun {s : State} {g : GroupNo} (h : s.switches g = true) :
    Evaluated [g] s (s.evaluateGroup g) := by
  have hst : (s.switchBegun g).stored = s.stored := State.told_stored _ _
  have htr : (s.switchBegun g).tref = s.tref := State.told_tref _ _
  have hof : ∀ i, (s.switchBegun g).groupOf i = s.groupOf i := fun i => by rw [State.groupOf, hst]; rfl
  have hg := s.switchBegun_group g
  have hsw := State.switchPasses_switched (s := s.switchBegun g) (g := g) (ts := s.startTs) (by rw [hg]; rfl) (by rw [hg]; rfl)
    (by rw [hst, htr]; rfl)
  rw [State.evaluateGroup_switches h]
  have hout := (s.switchBegun g).switchPasses_outcome g
  obtain ⟨⟨hphase, htref, hstored, hpolls, ns, hkinds, hports⟩, hgroups, hmembers⟩ :
      Faulting (s.switchBegun g) ((s.switchBegun g).switchPasses g)
        ∧ (∀ k, k ≠ g → ((s.switchBegun g).switchPasses g).group k = (s.switchBegun g).group k)
        ∧ ∀ i, (s.switchBegun g).groupOf i ≠ some g → ((s.switchBegun g).switchPasses g).member i = (s.switchBegun g).member i :=
    hout.elim (fun u => ⟨u.toFaulting, fun k _ => u.group k, u.members⟩) fun u => ⟨u.toFaulting, u.groups, u.members⟩
  have hrecord : GroupEvaluated g s ((s.switchBegun g).switchPasses g) := by
    rcases hout with hu | hu
    · have hgt := (hu.group g).trans hg
      refine ⟨by rw [hgt]; rfl, by rw [hgt]; rfl, by rw [hgt]; rfl, fun hc => Bool.noConfusion (h.symm.trans hc),
        fun _ => .inr ⟨hgt, fun i hi => ?_⟩⟩
      have hm := hsw (by rw [hgt]; rfl) ((hof i).trans hi)
      rwa [hst, htr, hg, s.switchBegun_member g i] at hm
    · obtain ⟨hhold, hwanted, hsource⟩ := hu.keeps
      rw [hg] at hhold hwanted hsource
      exact ⟨hwanted, hsource, hhold, fun hc => Bool.noConfusion (h.symm.trans hc), fun _ => .inl ⟨hst ▸ hu.policy, hu.state⟩⟩
  refine ⟨hphase.trans (State.told_phase _ _), htref.trans htr, hstored.trans hst, hpolls.trans (State.told_polls _ _),
    fun k hk => ?_, fun i hi => ?_, ⟨[s.switchNotice g] ++ ns, ?_, ?_, ?_⟩, fun k hk => ?_⟩
  · have hk : k ≠ g := by simpa using hk
    rw [hgroups k hk, State.switchBegun_group_ne hk]
  · rw [hmembers i (by rw [hof]; exact hi g (.head _)), State.switchBegun_member]
  · refine State.told_ports_trans (t := s.switchBegun g) (State.told_phase _ _) ?_ hports
    exact State.told_ports_setGroup _ _ _ _
  · rw [List.filter_append, filter_kind_of_faults hkinds (by decide)]
    rfl
  · rw [List.filter_append, filter_kind_of_faults hkinds (by decide), List.filter_cons_of_pos h]
    rfl
  · obtain rfl : k = g := by simpa using hk
    exact hrecord

/-- An evaluation that leaves the switch of its group as it is. -/
theorem State.evaluateGroup_calm {s : State} {g : GroupNo} (h : s.switches g = false) :
    Evaluated [g] s (s.evaluateGroup g) := by
  rw [State.evaluateGroup_keeps h]
  have hg : (s.setGroup g ((s.group g).recorded (s.wantedOf g))).group g = (s.group g).recorded (s.wantedOf g) :=
    State.group_setGroup_self _ _ _
  refine ⟨rfl, rfl, rfl, rfl, fun k hk => ?_, fun i _ => rfl, ⟨[], ?_, rfl, ?_⟩, fun k hk => ?_⟩
  · exact State.group_setGroup_ne _ _ _ _ (by simpa using hk)
  · rw [State.told_nil]
    rfl
  · simp [h]
  · obtain rfl : k = g := by simpa using hk
    exact ⟨by rw [hg]; rfl, by rw [hg]; rfl, by rw [hg]; rfl, fun _ => ⟨hg, fun _ _ => rfl⟩,
      fun hc => Bool.noConfusion (h.symm.trans hc)⟩

theorem State.evaluateGroup_evaluated (s : State) (g : GroupNo) : Evaluated [g] s (s.evaluateGroup g) := by
  cases h : s.switches g
  · exact State.evaluateGroup_calm h
  · exact State.evaluateGroup_begun h

/-! ### Groups that are not touched -/

/-- Two states give an evaluation of group `g` the same to read. -/
structure Alike (g : GroupNo) (s t : State) : Prop where
  tref : t.tref = s.tref
  stored : t.stored = s.stored
  group : t.group g = s.group g
  members : ∀ i, s.groupOf i = some g → t.member i = s.member i

namespace Alike

variable {g : GroupNo} {s t u : State} (h : Alike g s t)
include h

theorem groupOf (i : Ix) : t.groupOf i = s.groupOf i := by
  rw [State.groupOf, h.stored]
  rfl

theorem wantedOf : t.wantedOf g = s.wantedOf g := by
  unfold State.wantedOf
  rw [h.group, h.tref, h.stored]

theorem switches : t.switches g = s.switches g := by
  unfold State.switches
  rw [h.wantedOf, h.group]

theorem startTs : t.startTs = s.startTs := by
  unfold State.startTs
  rw [h.tref, h.stored]

theorem switchNotice : t.switchNotice g = s.switchNotice g := by
  have hordered : (s.membersOf g).filter (t.orderedAtStart (s.wantedOf g).1)
      = (s.membersOf g).filter (s.orderedAtStart (s.wantedOf g).1) := List.filter_congr fun i hi => by
    simp only [State.orderedAtStart, h.members i (State.mem_membersOf.mp hi), h.stored]
  have hwaits : (s.membersOf g).filter (t.waitsAtStart (s.wantedOf g).1)
      = (s.membersOf g).filter (s.waitsAtStart (s.wantedOf g).1) := List.filter_congr fun i hi => by
    simp only [State.waitsAtStart, h.members i (State.mem_membersOf.mp hi)]
  unfold State.switchNotice
  rw [h.wantedOf, h.group, h.startTs, h.tref, State.membersOf_congr h.stored, hordered, hwaits]

theorem evaluated (he : GroupEvaluated g t u) : GroupEvaluated g s u := by
  obtain ⟨hw, hsrc, hh, hc, hb⟩ := he
  rw [h.wantedOf] at hw hsrc hc hb
  rw [h.group] at hh hc hb
  rw [h.switches] at hc hb
  rw [h.stored, h.startTs, h.tref] at hb
  refine ⟨hw, hsrc, hh, fun hs => ⟨(hc hs).1, fun i hi => ?_⟩, fun hs => (hb hs).imp_right fun hb => ⟨hb.1, fun i hi => ?_⟩⟩
  · rw [(hc hs).2 i ((h.groupOf i).trans hi), h.members i hi]
  · have hm := hb.2 i ((h.groupOf i).trans hi)
    rwa [h.members i hi] at hm

end Alike

theorem GroupEvaluated.then {g : GroupNo} {s t u : State} (h : GroupEvaluated g s t) (hst : t.stored = s.stored)
    (ha : Alike g t u) : GroupEvaluated g s u := by
  obtain ⟨hw, hsrc, hh, hc, hb⟩ := h
  have hof : ∀ i, t.groupOf i = s.groupOf i := fun i => by rw [State.groupOf, hst]; rfl
  rw [← ha.group] at hw hsrc hh hc hb
  refine ⟨hw, hsrc, hh, fun hs => ⟨(hc hs).1, fun i hi => ?_⟩, fun hs => (hb hs).imp_right fun hb => ⟨hb.1, fun i hi => ?_⟩⟩
  · rw [ha.members i ((hof i).trans hi), (hc hs).2 i hi]
  · rw [ha.members i ((hof i).trans hi)]
    exact hb.2 i hi

/-! ### The evaluation of a list of groups -/

namespace Evaluated

theorem alike {l : List GroupNo} {s t : State} (h : Evaluated l s t) {g : GroupNo} (hg : g ∉ l) : Alike g s t :=
  ⟨h.tref, h.stored, h.groups g hg, fun i hi => h.members i fun k hk hik => hg (by
    rw [hi, Option.some.injEq] at hik
    rwa [hik])⟩

theorem append {k l : List GroupNo} {s t u : State} (h1 : Evaluated k s t) (h2 : Evaluated l t u) (hd : k.Disjoint l) :
    Evaluated (k ++ l) s u := by
  have hof : ∀ i, t.groupOf i = s.groupOf i := fun i => by rw [State.groupOf, h1.stored]; rfl
  obtain ⟨a, hpa, h4a, h2a⟩ := h1.notices
  obtain ⟨b, hpb, h4b, h2b⟩ := h2.notices
  refine ⟨h2.phase.trans h1.phase, h2.tref.trans h1.tref, h2.stored.trans h1.stored, h2.polls.trans h1.polls,
    fun h hh => ?_, fun i hi => ?_, ⟨a ++ b, State.told_ports_trans h1.phase hpa hpb, ?_, ?_⟩, fun g hg => ?_⟩
  · rw [List.mem_append, not_or] at hh
    rw [h2.groups h hh.2, h1.groups h hh.1]
  · rw [h2.members i fun g hg => (hof i).symm ▸ hi g (List.mem_append_right _ hg),
      h1.members i fun g hg => hi g (List.mem_append_left _ hg)]
  · rw [List.filter_append, h4a, h4b]
    rfl
  · have hsw : l.filter t.switches = l.filter s.switches := List.filter_congr fun g hg =>
      (h1.alike fun hk => hd hk hg).switches
    have hnote : (l.filter s.switches).map t.switchNotice = (l.filter s.switches).map s.switchNotice :=
      List.map_congr_left fun g hg => (h1.alike fun hk => hd hk (List.mem_of_mem_filter hg)).switchNotice
    rw [List.filter_append, h2a, h2b, hsw, hnote, List.filter_append, List.map_append]
  · rcases List.mem_append.mp hg with hg | hg
    · exact (h1.each g hg).then h1.stored (h2.alike fun hl => hd hg hl)
    · exact (h1.alike fun hk => hd hk hg).evaluated (h2.each g hg)

end Evaluated

theorem State.evaluateGroups_evaluated (l : List GroupNo) (hl : l.Nodup) (s : State) :
    Evaluated l s (l.foldl State.evaluateGroup s) := by
  induction l generalizing s with
  | nil =>
    exact ⟨rfl, rfl, rfl, rfl, fun _ _ => rfl, fun _ _ => rfl, ⟨[], by rw [State.told_nil]; rfl, rfl, rfl⟩, nofun⟩
  | cons g l ih =>
    obtain ⟨hg, hl⟩ := List.nodup_cons.mp hl
    exact (s.evaluateGroup_evaluated g).append (ih hl _) (List.singleton_disjoint.mpr hg)

end Sys2Proof.Machine
end

section
/-! SUPPORT. The tidying that an evaluation begins with (R48 to R50): which entries leave, which groups they lose, and the notices. -/

namespace Sys2Proof.Machine

/-! ### Sets of groups -/

theorem getLsbD_oneGroup (g k : GroupNo) : (oneGroup g).getLsbD k.val = decide (g = k) := by
  revert g k
  decide

theorem groupSet_eq_zero_iff (a : GroupSet) : a = 0#16 ↔ ∀ g : GroupNo, a.getLsbD g.val = false := by
  refine ⟨fun h g => by rw [h, BitVec.getLsbD_zero], fun h => BitVec.eq_of_getLsbD_eq fun i hi => ?_⟩
  rw [BitVec.getLsbD_zero]
  exact h ⟨i, hi⟩

/-- The set of the groups of a list that have a property. -/
theorem getLsbD_collect (p : GroupNo → Bool) (k : GroupNo) (l : List GroupNo) (acc : GroupSet) :
    (l.foldl (fun acc g => if p g then acc ||| oneGroup g else acc) acc).getLsbD k.val
      = (acc.getLsbD k.val || (l.any fun g => p g && decide (g = k))) := by
  induction l generalizing acc with
  | nil => simp
  | cons g l ih =>
    rw [List.foldl_cons, ih, List.any_cons]
    cases p g
    · rfl
    · rw [if_pos rfl, BitVec.getLsbD_or, getLsbD_oneGroup, Bool.or_assoc, Bool.true_and]

theorem getLsbD_union {α : Type} (f : α → GroupSet) (k : GroupNo) (l : List α) (acc : GroupSet) :
    (l.foldl (fun acc x => acc ||| f x) acc).getLsbD k.val = (acc.getLsbD k.val || l.any fun x => (f x).getLsbD k.val) := by
  induction l generalizing acc with
  | nil => simp
  | cons x l ih => rw [List.foldl_cons, ih, List.any_cons, BitVec.getLsbD_or, Bool.or_assoc]

theorem getLsbD_lostGroups (recurring : List Entry) (x : Entry) (start e : Nat) (g : GroupNo) :
    (lostGroups recurring x start e).getLsbD g.val = (x.covers g && supersedes recurring g start e) := by
  unfold lostGroups
  rw [getLsbD_collect (fun k => x.covers k && supersedes recurring k start e), BitVec.getLsbD_zero, Bool.false_or,
    Bool.eq_iff_iff]
  simp [allGroups]

/-! ### One entry (R48, R49) -/

namespace Entry

/-- A dated entry whose end has come (R48). -/
def ended (x : Entry) (e : Nat) : Bool :=
  match x.kind with
  | .dated _ (some m) => decide (m.instant ≤ e)
  | _ => false

/-- A dated entry without an end that a recurring entry takes a group over from (R49). -/
def superseded (x : Entry) (recurring : List Entry) (e : Nat) (g : GroupNo) : Bool :=
  match x.kind with
  | .dated day none => supersedes recurring g (startInstant day x.startMinute) e
  | _ => false

/-- A group that tidying takes from an entry. -/
def loses (x : Entry) (recurring : List Entry) (e : Nat) (g : GroupNo) : Bool :=
  x.covers g && (x.ended e || x.superseded recurring e g)

/-- An entry that tidying takes from the dated list. -/
def leaves (x : Entry) (recurring : List Entry) (e : Nat) : Bool :=
  match x.kind with
  | .dated _ none => allGroups.all fun g => !x.covers g || x.superseded recurring e g
  | _ => x.ended e

end Entry

section
variable (recurring : List Entry) (e : Nat) (x : Entry)

theorem getLsbD_tidyEntry (g : GroupNo) : (tidyEntry recurring e x).2.getLsbD g.val = x.loses recurring e g := by
  unfold tidyEntry Entry.loses Entry.ended Entry.superseded
  split
  next h => simp [h]
  next day ends h =>
    simp only [h]
    cases ends with
    | some m =>
      by_cases hm : m.instant ≤ e
      · simp [hm, Entry.covers]
      · simp [hm]
    | none =>
      simp only [Bool.false_or]
      split <;> exact getLsbD_lostGroups _ _ _ _ _

/-- An entry that stays keeps the groups that it does not lose; one that leaves has a cause. -/
theorem tidyEntry_eq :
    (tidyEntry recurring e x).1
      = if x.leaves recurring e then (none, some (if x.ended e then .ended else .superseded))
        else (some { x with groups := x.groups &&& ~~~(tidyEntry recurring e x).2 }, none) := by
  have hall : { x with groups := x.groups &&& ~~~(0#16 : GroupSet) } = x := by rw [BitVec.not_zero, BitVec.and_allOnes]
  unfold tidyEntry Entry.leaves Entry.ended Entry.superseded
  split
  next h =>
    simp only [hall]
    simp [h]
  next day ends h =>
    cases ends with
    | some m =>
      by_cases hm : m.instant ≤ e
      · simp [h, hm]
      · simp only [hm, if_false, hall]
        simp [h, hm]
    | none =>
      simp only [h]
      have hleft : x.groups &&& ~~~lostGroups recurring x (startInstant day x.startMinute) e = 0#16
          ↔ (allGroups.all fun g => !x.covers g || supersedes recurring g (startInstant day x.startMinute) e) = true := by
        rw [groupSet_eq_zero_iff, List.all_eq_true]
        refine ⟨fun h g _ => ?_, fun h g => ?_⟩
        · have hg := h g
          rw [BitVec.getLsbD_and, BitVec.getLsbD_not, getLsbD_lostGroups] at hg
          revert hg
          unfold Entry.covers
          cases x.groups.getLsbD g.val <;> simp
        · have hg := h g (List.mem_finRange g)
          rw [BitVec.getLsbD_and, BitVec.getLsbD_not, getLsbD_lostGroups]
          revert hg
          unfold Entry.covers
          cases x.groups.getLsbD g.val <;> simp
      simp only [hleft, Bool.false_eq_true, if_false]
      split <;> rfl

end

/-! ### The dated list (R48 to R50) -/

section
variable (recurring : List Entry) (e : Nat) (dated : List Entry)

theorem tidyList_eq :
    tidyList recurring e dated
      = (dated.filter fun x => !x.leaves recurring e).map fun x =>
          { x with groups := x.groups &&& ~~~(tidyEntry recurring e x).2 } := by
  unfold tidyList
  induction dated with
  | nil => rfl
  | cons x l ih =>
    rw [List.filterMap_cons, tidyEntry_eq, ih]
    cases hl : x.leaves recurring e <;> simp [hl]

theorem tidyNotices_eq :
    tidyNotices recurring e dated
      = (dated.filter fun x => x.leaves recurring e).map fun x =>
          .entryExpired x.id x.tag (if x.ended e then .ended else .superseded) x.owner x.plan := by
  unfold tidyNotices
  induction dated with
  | nil => rfl
  | cons x l ih =>
    rw [List.filterMap_cons, tidyEntry_eq, ih]
    cases hl : x.leaves recurring e <;> simp [hl]

theorem getLsbD_tidyScope (g : GroupNo) :
    (tidyScope recurring e dated).getLsbD g.val = dated.any fun x => x.loses recurring e g := by
  unfold tidyScope
  rw [getLsbD_union, BitVec.getLsbD_zero, Bool.false_or]
  simp only [getLsbD_tidyEntry]

end

/-! ### The start of an evaluation (R47) -/

theorem State.foldl_offer (l : List NoticeBody) (s : State) :
    l.foldl State.offer s = s.told (l.map fun b => ⟨s.tref.e, b⟩) := by
  induction l generalizing s with
  | nil => exact (State.told_nil s).symm
  | cons b l ih =>
    rw [List.foldl_cons, ih, State.offer_eq_told, State.told_told, State.told_tref]
    rfl

/-- The ENTRY_EXPIRED notices of an evaluation (R50). -/
def State.expiries (s : State) : List Notice :=
  if s.tref.state.consults then (tidyNotices s.stored.recurring s.tref.e s.stored.dated).map fun b => ⟨s.tref.e, b⟩ else []

/-- The tables after the tidying of an evaluation (R47). -/
def State.tidiedTables (s : State) : Stored :=
  if s.tref.state.consults then { s.stored with dated := tidyList s.stored.recurring s.tref.e s.stored.dated } else s.stored

/-- Whether a group is in the scope of an evaluation once the timetable has been tidied (R47 to R49). -/
def State.inScope (s : State) (scope : GroupSet) (g : GroupNo) : Bool :=
  scope.getLsbD g.val
    || (s.tref.state.consults && s.stored.dated.any fun x => x.loses s.stored.recurring s.tref.e g)

theorem State.evaluate_eq (s : State) (scope : GroupSet) :
    s.evaluate scope
      = (allGroups.filter (s.inScope scope)).foldl State.evaluateGroup
          (State.told { s with stored := s.tidiedTables } s.expiries) := by
  unfold State.evaluate State.expiries State.tidiedTables State.inScope
  cases s.tref.state.consults with
  | true =>
    simp only [if_true, BitVec.getLsbD_or, getLsbD_tidyScope, Bool.true_and]
    unfold State.tidy
    simp only [State.foldl_offer]
  | false =>
    simp only [Bool.false_eq_true, if_false, Bool.false_and, Bool.or_false, State.told_nil]

end Sys2Proof.Machine
end

section
/-! SUPPORT. An evaluation in the statement's own terms: the scope and the expiries, the wanted plan, who returns and who is counted. -/

namespace Sys2Proof.Machine

/-! ### The scope and the tables (R47 to R49) -/

theorem TrefState.consults_eq (st : TrefState) : st.consults = decide (st = .locked ∨ st = .holdover) := by cases st <;> rfl

/-- Tidying changes the dated list alone. -/
theorem State.tidiedTables_eq (s : State) : s.tidiedTables = { s.stored with dated := s.tidiedTables.dated } := by
  unfold State.tidiedTables
  split <;> rfl

theorem State.expiries_filter (s : State) (k : Nat) :
    (s.expiries.filter fun a => a.body.kind = k) = if k = 4 then s.expiries else [] := by
  have hkind : ∀ a ∈ s.expiries, a.body.kind = 4 := by
    intro a ha
    unfold State.expiries at ha
    split at ha
    · rw [tidyNotices_eq, List.map_map] at ha
      obtain ⟨x, -, rfl⟩ := List.mem_map.mp ha
      rfl
    · cases ha
  split
  next h =>
    subst h
    exact List.filter_eq_self.mpr fun a ha => decide_eq_true (hkind a ha)
  next h => exact List.filter_eq_nil_iff.mpr fun a ha => by simpa [hkind a ha] using Ne.symm h

/-! ### The wanted plan (R15, R51, R52, R59) -/

theorem State.consults_iff (s : State) : s.Consults ↔ s.tref.state.consults = true := by
  rw [TrefState.consults_eq, decide_eq_true_eq]
  rfl

theorem State.wants_wantedOf {s u t : State} {g : GroupNo} (hg : u.group g = s.group g) (htref : u.tref = s.tref)
    (hst : u.stored = t.stored) : s.Wants t g (u.wantedOf g).1 (u.wantedOf g).2 := by
  unfold State.Wants State.wantedOf
  rw [s.consults_iff, hg, htref, hst]
  refine ⟨fun h hh => ?_, fun hh => ⟨fun hc => ?_, fun hc => ⟨fun x hx => ?_, fun hx => ?_⟩⟩⟩
  · simp only [hh, and_self]
  · simp only [hh, if_neg hc, and_self]
  · simp only [hh, if_pos hc, hx, and_self]
  · simp only [hh, if_pos hc, hx, and_self]

/-! ### Who returns (R74, R163) -/

namespace Member

/-- A standing ORDER of a plan that a property holds of. -/
def ordered (m : Member) (p : Nat → Bool) : Bool := m.order.any fun o => decide (o.kind = .order) && p o.payload.plan

theorem ordered_eq (m : Member) (p : Nat → Bool) : m.ordered p = m.standingOrder.any fun o => p o.payload.plan := by
  unfold ordered standingOrder
  cases m.order with
  | none => rfl
  | some o => by_cases h : o.kind = .order <;> simp [Option.filter, h]

theorem withdraws_eq (m : Member) (w : Nat) : m.withdraws w = m.ordered fun plan => decide (plan ≠ w) := by
  rw [ordered_eq]
  rfl

/-- What holds a member out of a switch start to `w` once the start has ended what it ends. -/
def heldAt (m : Member) (w : Nat) : Bool :=
  [FaultClass.noReply, .orderMissed, .transitionLate, .transitionBlocked, .capability, .alert].any fun c =>
    (m.faults.get c).latched
      || ((m.faults.get c).standing && decide ((m.faults.get c).applied = some .recovering)
          && (decide (c = .noReply ∨ c = .alert)
              || (decide (c = .orderMissed) && !m.ordered fun plan => decide (plan ≠ w))))

/-- What a switch start leaves of each class of a member's record: the latched flag, and a standing condition that it does not
end. -/
theorem relieved_class (m : Member) (w : Nat) (c : FaultClass) :
    (((m.withdrawn w).relieved.faults.get c).latched
        || (((m.withdrawn w).relieved.faults.get c).standing
          && decide (((m.withdrawn w).relieved.faults.get c).applied = some .recovering)))
      = ((m.faults.get c).latched
        || ((m.faults.get c).standing && decide ((m.faults.get c).applied = some .recovering)
          && (decide (c = .noReply ∨ c = .alert)
              || (decide (c = .orderMissed) && !m.ordered fun plan => decide (plan ≠ w))))) := by
  rw [← withdraws_eq]
  unfold withdrawn relieved
  cases m.withdraws w <;> cases c <;> simp [clearTransitionConds, clearCond, PerClass.get, PerClass.set] <;> rfl

theorem heldOut_relieved (m : Member) (w : Nat) : (m.withdrawn w).relieved.heldOut = m.heldAt w := by
  have hout : ∀ m : Member, m.heldOut = allClasses.any fun c =>
      (m.faults.get c).latched || ((m.faults.get c).standing && decide ((m.faults.get c).applied = some .recovering)) :=
    fun m => by
      rw [heldOut, anyRecovering, anyLatched, Bool.eq_iff_iff]
      simp only [Bool.or_eq_true, List.any_eq_true, and_or_left, exists_or]
      exact or_comm
  rw [hout]
  simp only [relieved_class]
  rfl

theorem returns_iff (m : Member) (w : Nat) : m.returns w = (decide (m.state = .excluded) && !m.heldAt w) := by
  rw [returns_eq, heldOut_relieved]

end Member

/-! ### Who is counted (R75, log entry 27) -/

section
variable (s : State) (g : GroupNo) (w : Nat)

theorem State.orderedAtStart_eq (i : Ix) :
    s.orderedAtStart w i
      = (((s.member i).state.taken
            && ((decide (w = 0) || s.stored.activation (s.member i) w) || (s.member i).state.eligible
              || (s.member i).ordered fun _ => true))
          || ((s.member i).returns w
            && ((decide (w = 0) || s.stored.activation (s.member i) w)
              || (s.member i).ordered fun plan => decide (plan = w)))) := by
  have hexcl : (s.member i).state.taken = true → (s.member i).returns w = false := fun h => by
    have hne : (s.member i).state ≠ .excluded := fun hx => by
      rw [hx] at h
      cases h
    rw [Member.returns_iff, decide_eq_false hne, Bool.false_and]
  have hany : (s.member i).standingOrder.isSome = (s.member i).ordered fun _ => true := by
    rw [Member.ordered_eq]
    cases (s.member i).standingOrder <;> rfl
  have hkeep : (((s.member i).ordered fun _ => true) && !(s.member i).withdraws w)
      = (s.member i).ordered fun plan => decide (plan = w) := by
    rw [← hany, Member.ordered_eq, Member.withdraws]
    cases (s.member i).standingOrder with
    | none => rfl
    | some o => simp
  unfold State.orderedAtStart
  simp only [hany, hkeep]
  cases ht : (s.member i).state.taken
  · simp
  · simp [hexcl ht]

theorem State.filter_membersOf (p : Ix → Bool) :
    (s.membersOf g).filter p = allIx.filter fun i => decide (s.groupOf i = some g) && p i := by
  rw [State.membersOf, List.filter_filter]
  simp only [Bool.and_comm]

end

/-! ### The end of an evaluation -/

theorem State.NoneIdle.settle_ports {s u : State} {ns : List Notice} (h : s.NoneIdle) (hu : u.ports = (s.told ns).ports) :
    u.settle.ports = s.announced ns := by
  rw [State.settle_ports, hu]
  unfold State.announced
  split
  next hr =>
    rw [State.told_running hr]
    rfl
  next hr =>
    rw [State.told_not_running hr]
    have hp := h.2
    show (⟨(s.port .centre).pump, (s.port .event).pump, (s.port .cabinet).pump⟩ : PerPort PortState) = s.ports
    rw [hp, hp, hp]
    rfl

end Sys2Proof.Machine
end

section
/-! SUPPORT. An evaluation that is taken, from the tidying to the closing of the command (R47). -/

namespace Sys2Proof.Machine

/-- The state whose groups an evaluation takes, the timetable tidied (R47). -/
def State.tidied (s : State) : State := { s with stored := s.tidiedTables }

theorem State.groupOf_tidied (s : State) (i : Ix) : s.tidied.groupOf i = s.groupOf i := by
  show vget s.tidiedTables.groupOf i = _
  rw [s.tidiedTables_eq]
  rfl

/-- What an evaluation of a scope comes to (R47 to R53). -/
structure EvaluationTaken (s : State) (n : Nat) (scope : GroupSet) (t : State) (ns : List Notice) : Prop where
  owed : t.owed = s.owed.eraseIdx n
  tref : t.tref = s.tref
  cfs : t.cfs = s.cfs
  polls : t.polls = s.polls
  stored : t.stored = s.tidiedTables
  ports : t.ports = s.announced ns
  expired : (ns.filter fun a => a.body.kind = 4) = s.expiries
  begun : (ns.filter fun a => a.body.kind = 2)
    = (allGroups.filter fun g => s.inScope scope g && s.tidied.switches g).map s.tidied.switchNotice
  groups : ∀ g, s.inScope scope g = true → GroupEvaluated g s.tidied t
  outside : ∀ g, s.inScope scope g = false → t.group g = s.group g
  members : ∀ i, (∀ g, s.groupOf i = some g → s.inScope scope g = false) → t.member i = s.member i

/-- The state whose groups are evaluated, once the evaluation has left the queue and the expiries are offered. -/
def State.evaluationBegun (s : State) (n : Nat) : State :=
  State.told { s with owed := s.owed.eraseIdx n, stored := s.tidiedTables } s.expiries

section
variable (s : State) (n : Nat)

/-- Beginning an evaluation changes the queue of those owed, the tables and the ports alone. -/
theorem State.evaluationBegun_eq :
    s.evaluationBegun n
      = { s with
          owed := s.owed.eraseIdx n, stored := s.tidiedTables, ports := (s.told s.expiries).ports } := by
  unfold State.evaluationBegun State.told
  split <;> rfl

theorem State.evaluationBegun_alike (g : GroupNo) : Alike g s.tidied (s.evaluationBegun n) := by
  rw [State.evaluationBegun_eq]
  exact ⟨rfl, rfl, rfl, fun _ _ => rfl⟩

end

/-- An owed evaluation is taken from its place in the queue. -/
theorem State.evaluation_taken {s : State} {n : Nat} {v : OwedEvaluation} (hidle : s.NoneIdle) (hget : s.owed[n]? = some v) :
    ∃ t ns, exec (.evaluation n) s = .next t ∧ EvaluationTaken s n v.scope t ns := by
  have hexec : exec (.evaluation n) s
      = .next (((allGroups.filter (s.inScope v.scope)).foldl State.evaluateGroup (s.evaluationBegun n)).settle) := by
    show execEvaluation n s = _
    unfold execEvaluation
    rw [hget]
    simp only [State.evaluate_eq]
    rfl
  have hnd : (allGroups.filter (s.inScope v.scope)).Nodup := (List.nodup_finRange 16).filter _
  have hmem : ∀ g, g ∈ allGroups.filter (s.inScope v.scope) ↔ s.inScope v.scope g = true := fun g => by
    rw [List.mem_filter]
    exact and_iff_right (List.mem_finRange g)
  have hev := State.evaluateGroups_evaluated _ hnd (s.evaluationBegun n)
  have hw : Works _ _ := .foldl _ State.evaluateGroup_works (allGroups.filter (s.inScope v.scope)) (s.evaluationBegun n)
  have halike := s.evaluationBegun_alike n
  have hof : ∀ i, (s.evaluationBegun n).groupOf i = s.groupOf i := fun i => by
    rw [(halike 0).groupOf, s.groupOf_tidied]
  have hb := s.evaluationBegun_eq n
  generalize (allGroups.filter (s.inScope v.scope)).foldl State.evaluateGroup (s.evaluationBegun n) = u at hexec hev hw
  obtain ⟨ns, hports, h4, h2⟩ := hev.notices
  have hphase : (s.evaluationBegun n).phase = s.phase := by rw [hb]
  have hfirst : (s.evaluationBegun n).ports = (s.told s.expiries).ports := by rw [hb]
  refine ⟨_, s.expiries ++ ns, hexec, ?_, ?_, ?_, ?_, ?_, ?_, ?_, ?_, fun g hg => ?_, fun g hg => ?_, fun i hi => ?_⟩
  · rw [State.settle_owed, hw.owed_eq, hb]
  · rw [State.settle_tref, hev.tref, hb]
  · rw [State.settle_cfs, hw.cfs_eq, hb]
  · rw [State.settle_polls, hev.polls, hb]
  · rw [State.settle_stored, hev.stored, hb]
  · exact hidle.settle_ports (State.told_ports_trans hphase hfirst hports)
  · rw [List.filter_append, State.expiries_filter, if_pos rfl, h4, List.append_nil]
  · have hsw : (allGroups.filter (s.inScope v.scope)).filter (s.evaluationBegun n).switches
        = (allGroups.filter (s.inScope v.scope)).filter s.tidied.switches :=
      List.filter_congr fun g _ => (halike g).switches
    have hnote : (s.evaluationBegun n).switchNotice = s.tidied.switchNotice := funext fun g => (halike g).switchNotice
    rw [List.filter_append, State.expiries_filter, if_neg (by decide), h2, hsw, hnote, List.filter_filter, List.nil_append]
    simp only [Bool.and_comm]
  · have he := (halike g).evaluated (hev.each g ((hmem g).mpr hg))
    refine he.then (hev.stored.trans (halike g).stored) ⟨u.settle_tref, u.settle_stored, ?_, fun i _ => ?_⟩
    · rw [State.group, State.settle_groups]
      rfl
    · rw [State.member, State.settle_members]
      rfl
  · rw [State.group, State.settle_groups]
    refine (hev.groups g (fun h => ?_)).trans (halike g).group
    rw [(hmem g).mp h] at hg
    cases hg
  · rw [State.member, State.settle_members]
    refine (hev.members i fun g hg hig => ?_).trans (by rw [hb]; rfl)
    have hn := hi g ((hof i).symm.trans hig)
    rw [(hmem g).mp hg] at hn
    cases hn

end Sys2Proof.Machine
end

section
/-! SUPPORT. The clauses of an evaluation, and the evaluation as the statement has it (O26). -/

namespace Sys2Proof.Machine

/-! ### The clauses of a switch (R74, R87, R163) -/

theorem Member.FailedFrom.of_withdrawn {m n : Member} {w : Nat} {pol : Policy} (h : (m.withdrawn w).FailedFrom pol n) :
    m.FailedFrom pol n := by
  unfold Member.FailedFrom at h ⊢
  rwa [(m.withdrawn_capability w).2] at h

/-- A member without an ORDER of the target has none once a switch start has withdrawn the others. -/
theorem Member.standingOrder_withdrawn {m : Member} {w : Nat} (h : (m.ordered fun plan => decide (plan = w)) = false) :
    (m.withdrawn w).standingOrder = none := by
  unfold Member.withdrawn
  split
  · rfl
  next hw =>
    rw [Member.ordered_eq] at h
    rw [Member.withdraws] at hw
    cases ho : m.standingOrder with
    | none => rfl
    | some o =>
      rw [ho] at h hw
      simp only [Option.any_some, decide_eq_false_iff_not, decide_eq_true_eq, not_not] at h hw
      exact absurd hw h

/-- A member whose ORDER is of the target keeps its record at a withdrawal. -/
theorem Member.withdrawn_of_target {m : Member} {w : Nat} {o : StandingOrder} (ho : m.order = some o) (hk : o.kind = .order)
    (hw : o.payload.plan = w) : m.withdrawn w = m ∧ m.standingOrder.map (fun o => o.payload.plan) = some w := by
  have hs : m.standingOrder = some o := by simp [Member.standingOrder, ho, Option.filter, hk]
  unfold Member.withdrawn Member.withdraws
  rw [hs]
  simp [hw]

theorem Member.order_withdrawn (m : Member) (w : Nat) :
    (m.withdrawn w).order = m.order.filter fun o => decide (o.kind = .order → o.payload.plan = w) := by
  unfold Member.withdrawn Member.withdraws Member.standingOrder
  cases ho : m.order with
  | none => simp [Option.filter, ho]
  | some o =>
    by_cases hk : o.kind = .order <;> by_cases hp : o.payload.plan = w <;> simp [Option.filter, hk, hp, ho]

theorem Member.relieved_standing (m : Member) {c : FaultClass}
    (hc : c = .transitionLate ∨ c = .transitionBlocked ∨ c = .capability) : (m.relieved.faults.get c).standing = false := by
  rcases hc with rfl | rfl | rfl <;> rfl

namespace Switched

variable {t : Stored} {i : Ix} {e ts w : Nat} {m n : Member} (h : Switched t i e ts w m n)
include h

theorem kept {o : StandingOrder} (hr : m.returns w = true) (hw : w ≠ 0) (ho : m.order = some o) (hk : o.kind = .order)
    (hp : o.payload.plan = w) : n.state = .ordered ∧ n.order = some o := by
  obtain ⟨hm, hplan⟩ := Member.withdrawn_of_target ho hk hp
  have hb := h.back hr
  rw [hm] at hb
  rw [← ho]
  exact hb.kept hw hplan

theorem anew (hr : m.returns w = true) (hw : w ≠ 0) (ho : (m.ordered fun plan => decide (plan = w)) = false) :
    (t.activation m w = true → t.Ordered i n w ts)
      ∧ (t.activation m w = false → m.FailedFrom (t.policies.get .capability).policy n) := by
  have hnone : (m.withdrawn w).standingOrder.map (fun o => o.payload.plan) ≠ some w := by
    rw [Member.standingOrder_withdrawn ho]
    nofun
  have hact := t.activation_congr w (m.withdrawn_capability w).1
  rw [← hact]
  exact ⟨(h.back hr).ordered hw hnone, fun ha => ((h.back hr).failed hw hnone ha).of_withdrawn⟩

theorem stays (hx : m.state = .excluded) (hh : m.heldAt w = true) :
    n.state = .excluded ∧ n.order = (m.order.filter fun o => decide (o.kind = .order → o.payload.plan = w))
      ∧ ∀ c, c = .transitionLate ∨ c = .transitionBlocked ∨ c = .capability → (n.faults.get c).standing = false := by
  have hn := h.held hx (by rw [Member.returns_iff, hh, Bool.not_true, Bool.and_false])
  refine ⟨?_, ?_, fun c hc => ?_⟩
  · rw [hn]
    exact (m.withdrawn_state w).trans hx
  · rw [hn, ← Member.order_withdrawn]
    rfl
  · rw [hn]
    exact Member.relieved_standing _ hc

end Switched

/-! ### The dated list and the notices of an evaluation -/

/-- An entry takes a group over from one that started at an instant: by an occurrence after it, which only a recurring entry has. -/
theorem Entry.takesOver_eq (y : Entry) (g : GroupNo) (start e : Nat) :
    (y.groups.getLsbD g.val
        && (match y.kind with
            | .recurring days => (latestOccurrence days y.startMinute e).any fun o => decide (start < o)
            | .dated _ _ => false)) = (y.covers g && (y.occurrence e).any fun o => decide (start < o)) := by
  unfold Entry.covers Entry.occurrence
  cases y.kind <;> rfl

theorem tidyList_getElem? {recurring dated : List Entry} {e j : Nat} {x y : Entry}
    (hx : (dated.filter fun x => !x.leaves recurring e)[j]? = some x) (hy : (tidyList recurring e dated)[j]? = some y) :
    y = { x with groups := y.groups }
      ∧ ∀ g : GroupNo, y.groups.getLsbD g.val = (x.groups.getLsbD g.val && !x.loses recurring e g) := by
  rw [tidyList_eq, List.getElem?_map, hx, Option.map_some, Option.some.injEq] at hy
  subst hy
  refine ⟨rfl, fun g => ?_⟩
  rw [BitVec.getLsbD_and, BitVec.getLsbD_not, getLsbD_tidyEntry, decide_eq_true g.isLt, Bool.true_and]

theorem State.expiries_eq (s : State) :
    s.expiries = if s.tref.state.consults then
        (s.stored.dated.filter fun x => x.leaves s.stored.recurring s.tref.e).map fun x =>
          ⟨s.tref.e, .entryExpired x.id x.tag (if x.ended s.tref.e then .ended else .superseded) x.owner x.plan⟩
      else [] := by
  unfold State.expiries
  rw [tidyNotices_eq, List.map_map]
  rfl

/-- The notice of a switch that starts, with its counts read off the members that the evaluation found (R75). -/
theorem State.switchNotice_tidied (s : State) (g : GroupNo) (w : Nat) (src : WantedSource)
    (hw : (s.tidied.wantedOf g) = (w, src)) :
    s.tidied.switchNotice g
      = ⟨s.tref.e, .switchStarted g w (s.group g).target (s.group g).current (s.tref.e + 10 * s.stored.params.lead) src
          (allIx.filter fun i => decide (s.groupOf i = some g)
            && (((s.member i).state.taken
                  && ((decide (w = 0) || s.stored.activation (s.member i) w) || (s.member i).state.eligible
                    || (s.member i).ordered fun _ => true))
                || ((s.member i).returns w
                  && ((decide (w = 0) || s.stored.activation (s.member i) w)
                    || (s.member i).ordered fun plan => decide (plan = w))))).length
          (allIx.filter fun i => decide (s.groupOf i = some g)
            && !(s.member i).state.taken && !(s.member i).returns w).length⟩ := by
  have hact : ∀ m, s.tidied.stored.activation m w = s.stored.activation m w := fun m => by
    show s.tidiedTables.activation m w = _
    rw [s.tidiedTables_eq]
    rfl
  have hts : s.tidied.startTs = s.tref.e + 10 * s.stored.params.lead := by
    show s.tref.e + 10 * s.tidiedTables.params.lead = _
    rw [s.tidiedTables_eq]
  unfold State.switchNotice
  rw [hw, hts, State.filter_membersOf, State.filter_membersOf]
  simp only [s.groupOf_tidied, State.orderedAtStart_eq, hact, State.waitsAtStart, Bool.and_assoc]
  rfl

end Sys2Proof.Machine

section
open Sys2Proof Sys2Proof.Machine

/-- Settles O26: the tidying is a pass over the dated list (`tidyList_eq`); each group of the scope is evaluated as the evaluation
found it, the others having left it alone (`Evaluated.append`); and of a group that stays PENDING each of the three passes of its
switch works on a member once (`State.switchPasses_switched`), where only a failing check could have suspended it (`Suspends`). -/
theorem evaluationRecordsWantedPlans : Obligations.EvaluationRecordsWantedPlans := by
  unfold Obligations.EvaluationRecordsWantedPlans
  intro s n v hidle hget e ts consults ended superseded loses leaves inScope
  have hconsults : consults = s.tref.state.consults := (TrefState.consults_eq _).symm
  have hended : ended = fun x => x.ended e := by
    funext x
    unfold ended Entry.ended EpochMinute.instant
    cases x.kind with
    | recurring _ => rfl
    | dated _ ends => cases ends <;> rfl
  have hsuperseded : superseded = fun x => x.superseded s.stored.recurring e := by
    funext x g
    unfold superseded Entry.superseded supersedes startInstant
    cases x.kind with
    | recurring _ => rfl
    | dated day ends =>
      cases ends with
      | some m => rfl
      | none => exact congrArg (fun f => s.stored.recurring.any f) (funext fun y => Entry.takesOver_eq y g _ e)
  have hloses : loses = fun x => x.loses s.stored.recurring e := by
    unfold loses
    rw [hended, hsuperseded]
    rfl
  have hleaves : leaves = fun x => x.leaves s.stored.recurring e := by
    funext x
    unfold leaves Entry.leaves
    rw [hended, hsuperseded]
    rfl
  have hscope : inScope = s.inScope v.scope := by
    funext g
    unfold inScope State.inScope
    rw [hconsults, hloses]
  clear_value inScope leaves loses superseded ended consults
  subst hscope hleaves hloses hsuperseded hended hconsults
  obtain ⟨t, ns, hexec, h⟩ := State.evaluation_taken hidle hget
  have hst : t.stored = { s.stored with dated := t.stored.dated } := by
    rw [h.stored]
    exact s.tidiedTables_eq
  have hact : ∀ m w, t.stored.activation m w = s.stored.activation m w := fun m w => by rw [hst]; rfl
  have hpolicies : t.stored.policies = s.stored.policies := by rw [hst]
  have hts : s.tidied.startTs = ts := by
    show e + 10 * s.tidiedTables.params.lead = _
    rw [s.tidiedTables_eq]
  refine ⟨t, ns, hexec, h.owed, h.tref, h.cfs, h.polls, hst, h.ports, fun hc => ?_, fun hc => ?_, ?_, fun g hg => ?_,
    h.outside, ?_⟩
  · rw [h.stored, State.tidiedTables, if_neg (by simp [hc])]
  · intro kept
    have hdated : t.stored.dated = tidyList s.stored.recurring e s.stored.dated := by
      rw [h.stored, State.tidiedTables, if_pos hc]
    rw [hdated]
    refine ⟨?_, fun j x y hx hy => tidyList_getElem? hx hy⟩
    rw [tidyList_eq, List.length_map]
  · rw [h.expired, State.expiries_eq]
  · have hg := h.groups g hg
    rw [hg.wanted, hg.source]
    exact ⟨State.wants_wantedOf rfl rfl h.stored.symm, hg.hold⟩
  · intro switches ordered held returns passes
    have hswitches : switches = fun g => s.inScope v.scope g && s.tidied.switches g := by
      funext g
      unfold switches
      cases hg : s.inScope v.scope g with
      | false => rfl
      | true =>
        rw [(h.groups g hg).wanted]
        rfl
    have hordered : ordered = Member.ordered := rfl
    have hreturns : returns = Member.returns := by
      funext m w
      exact (m.returns_iff w).symm
    have hheld : held = Member.heldAt := rfl
    clear_value switches returns held ordered
    subst hswitches hheld hordered hreturns
    simp only [Bool.and_eq_true]
    refine ⟨fun g hg hs => ?_, fun g hs => ?_, ?_, fun i hi => ?_, fun i g hi hs hp => ?_⟩
    · rw [hg, Bool.true_and] at hs
      rw [(h.groups g hg).wanted, (h.groups g hg).source]
      exact ((h.groups g hg).calm hs).1
    · rw [(h.groups g hs.1).wanted, (h.groups g hs.1).source]
      refine ((h.groups g hs.1).begun hs.2).imp (fun hb => ⟨?_, hb.2⟩) fun hb => ?_
      · rw [← hpolicies, h.stored]
        exact hb.1
      · rw [hb.1, hts]
        rfl
    · rw [h.begun]
      refine List.map_congr_left fun g hg => ?_
      have hg := (Bool.and_eq_true_iff.mp (List.mem_filter.mp hg).2).1
      exact s.switchNotice_tidied g _ _ (Prod.ext (h.groups g hg).wanted.symm (h.groups g hg).source.symm)
    · by_cases hg : ∃ g, s.groupOf i = some g ∧ s.inScope v.scope g = true
      · obtain ⟨g, hig, hg⟩ := hg
        have hs := hi g hig
        rw [hg, Bool.true_and] at hs
        exact ((h.groups g hg).calm hs).2 i ((s.groupOf_tidied i).trans hig)
      · exact h.members i fun g hig => by simpa using fun hin => hg ⟨g, hig, hin⟩
    · have hsw : Switched t.stored i e ts (t.group g).wanted (s.member i) (t.member i) := by
        rcases (h.groups g hs.1).begun hs.2 with hb | hb
        · rw [hb.2] at hp
          cases hp
        · have hm := hb.2 i ((s.groupOf_tidied i).trans hi)
          rw [hts, ← (h.groups g hs.1).wanted] at hm
          rwa [h.stored]
      have hfailed {m n : Member} (hf : m.FailedFrom (t.stored.policies.get .capability).policy n) :
          m.FailedFrom (s.stored.policies.get .capability).policy n := hpolicies ▸ hf
      simp only [State.released_iff, State.ordered_iff]
      refine ⟨fun ht => (hsw.taken ht).released, fun ht hw ha => (hsw.taken ht).ordered hw ((hact _ _).trans ha),
        fun ht hw ha => hfailed ((hsw.taken ht).failed hw ((hact _ _).trans ha)), fun hr => (hsw.back hr).released,
        fun o hr hw ho hk hp => hsw.kept hr hw ho hk hp, fun hr hw ho => ?_, hsw.stays, hsw.other⟩
      obtain ⟨hord, hfail⟩ := hsw.anew hr hw ho
      exact ⟨fun ha => hord ((hact _ _).trans ha), fun ha => hfailed (hfail ((hact _ _).trans ha))⟩

end
end

section
/-! SUPPORT. The forms that the spec promises of a set of stored tables, and the writes that keep them. -/

namespace Sys2Proof.Machine

-- One theorem at a time: a proof that waits for the ones before it holds a thread of its own.
set_option Elab.async false

/-! ### The forms -/

/-- The four promises on a set of stored tables (R18, R25, R29, R38, R117). -/
inductive StoredForm where
  | params | offsets | maps | timetable

/-- A set of stored tables has a form. -/
def Stored.Has (t : Stored) : StoredForm → Prop
  | .params => t.ParamsInRange
  | .offsets => t.OffsetsBelowCycle
  | .maps => t.MapsUnique
  | .timetable => t.TimetableInOrder

theorem Stored.has_empty (w : StoredForm) : Stored.empty.Has w := by
  cases w with
  | params => exact Stored.paramsInRange_empty
  | offsets => exact Stored.offsetsBelowCycle_empty
  | maps => exact Stored.mapsUnique_empty
  | timetable => exact Stored.timetableInOrder_empty

/-- A write keeps every form of the tables. -/
def Stored.Keeps (a b : Stored) : Prop := ∀ w, a.Has w → b.Has w

theorem Stored.Keeps.refl (a : Stored) : a.Keeps a := fun _ => id

theorem Stored.Keeps.trans {a b c : Stored} (h1 : a.Keeps b) (h2 : b.Keeps c) : a.Keeps c := fun w => h2 w ∘ h1 w

theorem vset_vget {α : Type} {n : Nat} (v : Vector α n) (i : Fin n) : vset v i (vget v i) = v :=
  vget_ext fun j => by
    rw [vget_vset]
    split
    next h => rw [h]
    next => rfl

/-! ### Tables that no form speaks of -/

theorem Stored.keeps_eventGroups (t : Stored) (m : GroupSet) : t.Keeps { t with eventGroups := m } := fun w => by
  cases w <;> exact id

theorem Stored.keeps_enables (t : Stored) (v : Vector Bool 4) : t.Keeps { t with enables := v } := fun w => by
  cases w <;> exact id

theorem Stored.keeps_groupOf (t : Stored) (v : Vector (Option GroupNo) 64) : t.Keeps { t with groupOf := v } := fun w => by
  cases w <;> exact id

theorem Stored.keeps_policies (t : Stored) (v : PerClass PolicyPair) : t.Keeps { t with policies := v } := fun w => by
  cases w <;> exact id

/-! ### Parameters (R29, R30, R148) -/

theorem clamp_bounds {lo hi : Nat} (h : lo ≤ hi) (v : Nat) : lo ≤ clamp lo hi v ∧ clamp lo hi v ≤ hi := by
  unfold clamp
  omega

theorem Params.InRange.store {q : Params} (h : q.InRange) (p : ParamItem) : (q.store p).InRange := by
  obtain ⟨hP, hH, hL, hl, hs, ht, hg, hd⟩ := h
  unfold Params.store clampParam Params.InRange
  split
  · exact ⟨clamp_bounds (by decide) _, hH, hL, hl, hs, ht, hg, hd⟩
  · exact ⟨hP, clamp_bounds (by decide) _, hL, hl, hs, ht, hg, hd⟩
  · exact ⟨hP, hH, clamp_bounds (by decide) _, hl, hs, ht, hg, hd⟩
  · exact ⟨hP, hH, hL, (clamp_bounds (by decide) _).2, hs, ht, hg, hd⟩
  · exact ⟨hP, hH, hL, hl, (clamp_bounds (by decide) _).2, ht, hg, hd⟩
  · exact ⟨hP, hH, hL, hl, hs, clamp_bounds (by decide) _, hg, hd⟩
  · exact ⟨hP, hH, hL, hl, hs, ht, (clamp_bounds (by decide) _).2, hd⟩
  · exact ⟨hP, hH, hL, hl, hs, ht, hg, clamp_bounds (by decide) _⟩

theorem Params.InRange.stores {q : Params} (h : q.InRange) (items : List ParamItem) :
    (items.foldl Params.store q).InRange := by
  induction items generalizing q with
  | nil => exact h
  | cons p l ih => exact ih (h.store p)

theorem SegParams.InRange.store {q : SegParams} (h : q.InRange) (p : ParamItem) : (q.store p).InRange := by
  obtain ⟨hp, ht, hr, he⟩ := h
  unfold SegParams.store clampSegParam SegParams.InRange
  split
  · exact ⟨clamp_bounds (by decide) _, ht, hr, he⟩
  · exact ⟨hp, clamp_bounds (by decide) _, hr, he⟩
  · exact ⟨hp, ht, clamp_bounds (by decide) _, he⟩
  · exact ⟨hp, ht, hr, (clamp_bounds (by decide) _).2⟩

theorem SegParams.InRange.stores {q : SegParams} (h : q.InRange) (items : List ParamItem) :
    (items.foldl SegParams.store q).InRange := by
  induction items generalizing q with
  | nil => exact h
  | cons p l ih => exact ih (h.store p)

theorem Stored.keeps_params (t : Stored) (items : List ParamItem) :
    t.Keeps { t with params := items.foldl Params.store t.params } := fun w => by
  cases w with
  | params => exact fun h => ⟨h.1.stores items, h.2⟩
  | offsets => exact id
  | maps => exact id
  | timetable => exact id

theorem Stored.keeps_segParams (t : Stored) (k : SegNo) (items : List ParamItem) :
    t.Keeps { t with segParams := vset t.segParams k (items.foldl SegParams.store (vget t.segParams k)) } := fun w => by
  cases w with
  | params =>
    refine fun h => ⟨h.1, fun l => ?_⟩
    rw [vget_vset]
    split
    · exact (h.2 k).stores items
    · exact h.2 l
  | offsets => exact id
  | maps => exact id
  | timetable => exact id

/-! ### Plans and offsets (R18, R22, R23, R25, R26) -/

/-- A plan's row of the offset table fits the plan's record: the record is in range and each offset lies below its cycle; a
plan that is undefined has offsets 0 (R18, R25). -/
def OffsetsFit : Option Plan → Vector Nat 64 → Prop
  | some p, row => p.InRange ∧ ∀ i : Ix, vget row i < p.cycle
  | none, row => ∀ i : Ix, vget row i = 0

theorem Stored.offsetsBelowCycle_iff (t : Stored) :
    t.OffsetsBelowCycle ↔ ∀ j, OffsetsFit (vget t.plans j) (vget t.offsets j) := by
  refine forall_congr' fun j => ?_
  cases vget t.plans j <;> exact Iff.rfl

/-- One plan's record and offsets are written. -/
theorem Stored.keeps_row (t : Stored) (j : Fin 48) (p : Option Plan) (row : Vector Nat 64)
    (h : OffsetsFit (vget t.plans j) (vget t.offsets j) → OffsetsFit p row) :
    t.Keeps { t with plans := vset t.plans j p, offsets := vset t.offsets j row } := fun w => by
  cases w with
  | offsets =>
    intro ht
    have hfit := t.offsetsBelowCycle_iff.mp ht
    refine (Stored.offsetsBelowCycle_iff _).mpr fun k => ?_
    rw [vget_vset, vget_vset]
    split
    · exact h (hfit j)
    · exact hfit k
  | params => exact id
  | maps => exact id
  | timetable => exact id

theorem WritePlanArgs.record_inRange {a : WritePlanArgs} {j : Fin 48} {p : Plan} (h : a.record = some (j, p)) : p.InRange := by
  unfold WritePlanArgs.record at h
  simp only at h
  split at h
  · split at h
    · cases h
      unfold Plan.InRange
      simp only
      omega
    · cases h
  · cases h

@[simp] theorem vget_reduceOffsets (row : Vector Nat 64) (c : Nat) (i : Ix) : vget (reduceOffsets row c) i = vget row i % c := by
  simp [reduceOffsets, vget]

theorem Stored.keeps_writePlan (t : Stored) (j : Fin 48) {p : Plan} (hp : p.InRange) : t.Keeps (t.writePlan j p) := by
  have hpos : 0 < p.cycle := by
    obtain ⟨⟨h, -⟩, -⟩ := hp
    omega
  unfold Stored.writePlan
  simp only
  split
  next => exact t.keeps_row j _ _ fun _ => ⟨hp, fun i => by rw [vget_reduceOffsets]; exact Nat.mod_lt _ hpos⟩
  next hsame =>
    rw [← vset_vget t.offsets j]
    refine t.keeps_row j _ _ fun hfit => ⟨hp, fun i => ?_⟩
    cases hq : vget t.plans j with
    | none => rw [hq] at hfit; rw [hfit i]; exact hpos
    | some q =>
      rw [hq] at hfit
      have hc : q.cycle = p.cycle := by simpa [hq] using hsame
      exact hc ▸ hfit.2 i

theorem Stored.keeps_deletePlan (t : Stored) (j : Fin 48) : t.Keeps (t.deletePlan j) :=
  t.keeps_row j _ _ fun _ i => by simp [vget]

theorem Stored.keeps_setOffset (t : Stored) {j : Fin 48} {p : Plan} (hj : vget t.plans j = some p) (i : Ix) (v : Nat) :
    t.Keeps (t.setOffset j i (v % p.cycle)) := by
  unfold Stored.setOffset
  have h := t.keeps_row j (some p) (vset (vget t.offsets j) i (v % p.cycle)) fun hfit => ?_
  · rwa [← hj, vset_vget] at h
  · rw [hj] at hfit
    refine ⟨hfit.1, fun k => ?_⟩
    rw [vget_vset]
    split
    · obtain ⟨⟨⟨hlo, -⟩, -⟩, -⟩ := hfit
      exact Nat.mod_lt _ (by omega)
    · exact hfit.2 k

/-! ### Maps (R117, R121) -/

/-- An intersection is unmapped, or mapped to a drop that no other has. -/
theorem Stored.keeps_maps (t : Stored) (i : Ix) (pl : Option Place)
    (h : t.MapsUnique → ∀ j p, j ≠ i → pl = some p → vget t.maps j ≠ some p) :
    t.Keeps { t with maps := vset t.maps i pl } := fun w => by
  cases w with
  | maps =>
    intro hu a b p ha hb
    rw [vget_vset] at ha hb
    split at ha
    next hai =>
      split at hb
      next hbi => rw [hai, hbi]
      next hbi => exact absurd hb (h hu b p hbi ha)
    next hai =>
      split at hb
      next hbi => exact absurd ha (h hu a p hai hb)
      next => exact hu a b p ha hb
  | params => exact id
  | offsets => exact id
  | timetable => exact id

end Sys2Proof.Machine
end

section
/-! SUPPORT. The timetable's two lists keep their order, their kinds and their distinct ids (R38). -/

namespace Sys2Proof.Machine

-- One theorem at a time: a proof that waits for the ones before it holds a thread of its own.
set_option Elab.async false

namespace Entry

/-- The day by which an entry is ordered: the start day of a dated one. -/
def keyDay (x : Entry) : Nat :=
  match x.kind with
  | .recurring _ => 0
  | .dated d _ => d

theorem before_iff (a b : Entry) :
    a.before b = true ↔ a.keyDay < b.keyDay
      ∨ (a.keyDay = b.keyDay ∧ (a.startMinute < b.startMinute ∨ (a.startMinute = b.startMinute ∧ a.id < b.id))) := by
  change (decide (a.keyDay < b.keyDay) || (decide (a.keyDay = b.keyDay)
    && (decide (a.startMinute < b.startMinute) || (decide (a.startMinute = b.startMinute) && decide (a.id < b.id))))) = true ↔ _
  simp only [Bool.or_eq_true, Bool.and_eq_true, decide_eq_true_eq]

theorem before_trans {a b c : Entry} (h1 : a.before b = true) (h2 : b.before c = true) : a.before c = true := by
  rw [before_iff] at *
  omega

/-- Of two entries with different ids one stands before the other. -/
theorem before_of_not {a b : Entry} (hid : a.id ≠ b.id) (h : ¬ a.before b = true) : b.before a = true := by
  rw [before_iff] at *
  omega

end Entry

theorem insertEntry_perm (x : Entry) (l : List Entry) : (insertEntry x l).Perm (x :: l) := by
  induction l with
  | nil => exact .refl _
  | cons y l ih =>
    unfold insertEntry
    split
    · exact .refl _
    · exact (ih.cons y).trans (.swap x y l)

theorem mem_insertEntry {x y : Entry} {l : List Entry} : y ∈ insertEntry x l ↔ y = x ∨ y ∈ l := by
  rw [(insertEntry_perm x l).mem_iff, List.mem_cons]

theorem insertEntry_pairwise {x : Entry} {l : List Entry} (h : l.Pairwise fun a b => a.before b = true)
    (hid : ∀ y ∈ l, y.id ≠ x.id) : (insertEntry x l).Pairwise fun a b => a.before b = true := by
  induction l with
  | nil => exact List.pairwise_singleton _ _
  | cons y l ih =>
    obtain ⟨hy, hl⟩ := List.pairwise_cons.mp h
    unfold insertEntry
    split
    next hxy =>
      refine List.pairwise_cons.mpr ⟨fun z hz => ?_, h⟩
      rcases List.mem_cons.mp hz with rfl | hz
      · exact hxy
      · exact Entry.before_trans hxy (hy z hz)
    next hxy =>
      refine List.pairwise_cons.mpr ⟨fun z hz => ?_, ih hl fun z hz => hid z (.tail _ hz)⟩
      rcases mem_insertEntry.mp hz with rfl | hz
      · exact Entry.before_of_not (hid y (.head _)).symm hxy
      · exact hy z hz

/-- No entry of an id stands in either list. -/
theorem Stored.entry_none {t : Stored} {id : Nat} : t.entry id = none ↔ ∀ x ∈ t.recurring ++ t.dated, x.id ≠ id := by
  simp only [Stored.entry, Option.orElse_eq_orElse, Option.orElse_eq_or, Option.or_eq_none_iff, List.find?_eq_none,
    decide_eq_true_eq, List.mem_append, or_imp, forall_and]

/-- A new entry is put in its list (R42). -/
theorem Stored.keeps_putEntry {t : Stored} {x : Entry} (hid : t.entry x.id = none) (hroom : t.entryCount < Config.timetableSlots)
    (hend : x.EndsAfterStart) : t.Keeps (t.putEntry x) := fun w => by
  have hnew := Stored.entry_none.mp hid
  unfold Stored.putEntry
  cases w with
  | timetable =>
    rintro ⟨hr, hd, hrk, hdk, hids, -⟩
    split
    next hx =>
      have hperm : (t.recurring ++ insertEntry x t.dated).Perm (x :: (t.recurring ++ t.dated)) :=
        ((insertEntry_perm x _).append_left _).trans List.perm_middle
      refine ⟨hr, insertEntry_pairwise hd fun y hy => hnew y (List.mem_append_right _ hy), hrk, fun y hy => ?_, ?_, ?_⟩
      · rcases mem_insertEntry.mp hy with rfl | hy
        · exact ⟨hx, hend⟩
        · exact hdk y hy
      · rw [(hperm.map _).nodup_iff, List.map_cons, List.nodup_cons]
        exact ⟨fun hm => by obtain ⟨y, hy, he⟩ := List.mem_map.mp hm; exact hnew y hy he, hids⟩
      · have := (insertEntry_perm x t.dated).length_eq
        simp only [Stored.entryCount, List.length_cons] at this hroom ⊢
        omega
    next hx =>
      have hperm : (insertEntry x t.recurring ++ t.dated).Perm (x :: (t.recurring ++ t.dated)) :=
        (insertEntry_perm x _).append_right _
      refine ⟨insertEntry_pairwise hr fun y hy => hnew y (List.mem_append_left _ hy), hd, fun y hy => ?_, hdk, ?_, ?_⟩
      · rcases mem_insertEntry.mp hy with rfl | hy
        · exact Bool.eq_false_iff.mpr hx
        · exact hrk y hy
      · rw [(hperm.map _).nodup_iff, List.map_cons, List.nodup_cons]
        exact ⟨fun hm => by obtain ⟨y, hy, he⟩ := List.mem_map.mp hm; exact hnew y hy he, hids⟩
      · have := (insertEntry_perm x t.recurring).length_eq
        simp only [Stored.entryCount, List.length_cons] at this hroom ⊢
        omega
  | params => split <;> exact id
  | offsets => split <;> exact id
  | maps => split <;> exact id

/-- An entry leaves its list (R43). -/
theorem Stored.keeps_dropEntry (t : Stored) (n : Nat) : t.Keeps (t.dropEntry n) := fun w => by
  cases w with
  | timetable =>
    rintro ⟨hr, hd, hrk, hdk, hids, hcount⟩
    have hsub : (t.dropEntry n).recurring.Sublist t.recurring ∧ (t.dropEntry n).dated.Sublist t.dated :=
      ⟨List.filter_sublist, List.filter_sublist⟩
    obtain ⟨hrs, hds⟩ := hsub
    refine ⟨hr.sublist hrs, hd.sublist hds, fun y hy => hrk y (hrs.subset hy), fun y hy => hdk y (hds.subset hy),
      hids.sublist ((hrs.append hds).map _), ?_⟩
    have := hrs.length_le
    have := hds.length_le
    simp only [Stored.entryCount] at hcount ⊢
    omega
  | params => exact id
  | offsets => exact id
  | maps => exact id

/-! ### Tidying (R48, R49) -/

/-- An entry that stays at a tidying differs from what it was in its groups alone. -/
theorem tidyEntry_stays {recurring : List Entry} {e : Nat} {x y : Entry} (h : (tidyEntry recurring e x).1.1 = some y) :
    ∃ gs, y = { x with groups := gs } := by
  unfold tidyEntry at h
  split at h
  · exact ⟨x.groups, by cases h; rfl⟩
  · split at h
    · split at h
      · cases h
      · exact ⟨x.groups, by cases h; rfl⟩
    · simp only at h
      split at h
      · cases h
      · exact ⟨_, (Option.some.inj h).symm⟩

theorem tidyList_ids (recurring : List Entry) (e : Nat) (l : List Entry) :
    ((tidyList recurring e l).map (·.id)).Sublist (l.map (·.id)) := by
  induction l with
  | nil => exact .refl _
  | cons x l ih =>
    unfold tidyList at ih ⊢
    rw [List.filterMap_cons]
    split
    next => exact ih.cons _
    next y hy =>
      obtain ⟨gs, rfl⟩ := tidyEntry_stays hy
      exact ih.cons_cons _

theorem Stored.keeps_tidyList (t : Stored) (e : Nat) : t.Keeps { t with dated := tidyList t.recurring e t.dated } := fun w => by
  cases w with
  | timetable =>
    rintro ⟨hr, hd, hrk, hdk, hids, hcount⟩
    refine ⟨hr, List.pairwise_filterMap.mpr (hd.imp ?_), hrk, fun y hy => ?_, ?_, ?_⟩
    · intro a b hab x hx y hy
      obtain ⟨ga, rfl⟩ := tidyEntry_stays hx
      obtain ⟨gb, rfl⟩ := tidyEntry_stays hy
      exact hab
    · obtain ⟨x, hx, hxy⟩ := List.mem_filterMap.mp hy
      obtain ⟨gs, rfl⟩ := tidyEntry_stays hxy
      exact hdk x hx
    · rw [List.map_append] at hids ⊢
      exact hids.sublist ((List.Sublist.refl _).append (tidyList_ids _ _ _))
    · have : (tidyList t.recurring e t.dated).length ≤ t.dated.length := List.length_filterMap_le _ _
      simp only [Stored.entryCount] at hcount ⊢
      omega
  | params => exact id
  | offsets => exact id
  | maps => exact id

theorem AddEntryArgs.entryKind_ends {a : AddEntryArgs} {kind : EntryKind} (h : a.entryKind = some kind) {x : Entry}
    (hk : x.kind = kind) (hm : x.startMinute = a.startMinute) : x.EndsAfterStart := by
  unfold Entry.EndsAfterStart
  split
  next day m hd =>
    rw [hm]
    rw [hk] at hd
    subst hd
    unfold AddEntryArgs.entryKind at h
    split at h
    · cases h
    · split at h
      · simp only at h
        split at h <;> cases h
      · split at h
        · cases h
        · split at h
          · cases h
          · split at h
            next hok => cases h; exact hok.2
            · cases h
      · cases h
  next => trivial

end Sys2Proof.Machine
end

section
/-! SUPPORT. What a command keeps of the stored tables, of the image and its snapshot, and of the commit count. -/

namespace Sys2Proof.Machine

-- One theorem at a time: a proof that waits for the ones before it holds a thread of its own.
set_option Elab.async false

/-- The tables, the image and the snapshot keep their forms, a COMMIT in flight stays sound, and the commit count stays. -/
structure ImagesKept (s t : State) : Prop where
  images : ∀ w, s.EveryImage (Stored.Has · w) → t.EveryImage (Stored.Has · w)
  sound : s.CommitSound → t.CommitSound
  count : t.cfs.count = s.cfs.count

namespace ImagesKept

theorem refl (s : State) : ImagesKept s s := ⟨fun _ => id, id, rfl⟩

theorem trans {s t u : State} (h1 : ImagesKept s t) (h2 : ImagesKept t u) : ImagesKept s u :=
  ⟨fun w => h2.images w ∘ h1.images w, h2.sound ∘ h1.sound, h2.count.trans h1.count⟩

theorem foldl {α : Type} {f : State → α → State} (h : ∀ s a, ImagesKept s (f s a)) (l : List α) (s : State) :
    ImagesKept s (l.foldl f s) := by
  induction l generalizing s with
  | nil => exact .refl _
  | cons a l ih => exact .trans (h s a) (ih _)

/-- The live tables are written, and a COMMIT in flight goes on or is cut off; the image and the count cell stay. -/
theorem of_write {s t : State} (h : s.stored.Keeps t.stored) (himage : t.cfs.image = s.cfs.image)
    (hcell : t.cfs.countCell = s.cfs.countCell) (hcommit : t.cfs.commit = s.cfs.commit ∨ t.cfs.commit = none) :
    ImagesKept s t where
  images w hs := by
    obtain ⟨hlive, hgood, hsnap⟩ := hs
    refine ⟨h w hlive, by rw [himage]; exact hgood, fun c hc => ?_⟩
    rcases hcommit with he | he
    · exact hsnap c (he ▸ hc)
    · rw [he] at hc
      cases hc
  sound hs hc := by
    have hcount : t.cfs.count = s.cfs.count := by rw [Cfs.count, hcell, ← Cfs.count]
    rcases hcommit with he | he
    · rw [himage, hcount]
      exact hs (he ▸ hc)
    · rw [he] at hc
      cases hc
  count := by rw [Cfs.count, hcell, ← Cfs.count]

/-- The live tables are written while the store stays as it is. -/
theorem of_tables {s t : State} (h : s.stored.Keeps t.stored) (hcfs : t.cfs = s.cfs := by rfl) : ImagesKept s t :=
  .of_write h (by rw [hcfs]) (by rw [hcfs]) (.inl (by rw [hcfs]))

/-- Neither the tables nor the store change. -/
theorem of_same {s t : State} (h : t.stored = s.stored := by rfl) (hcfs : t.cfs = s.cfs := by rfl) : ImagesKept s t :=
  .of_tables (h ▸ .refl _) hcfs

theorem of_works {s t : State} (w : Works s t) : ImagesKept s t := .of_same w.stored_eq w.cfs_eq

theorem offer (s : State) (b : NoticeBody) : ImagesKept s (s.offer b) := .of_works (.offer _ _)

theorem owe (s : State) (g : GroupSet) : ImagesKept s (s.owe g) := .of_same

theorem settle (s : State) : ImagesKept s s.settle := .of_same s.settle_stored s.settle_cfs

/-- A guarded event keeps what its effect keeps. -/
theorem guarded {s t : State} {g : Prop} [Decidable g] (h : ImagesKept s t) : ImagesKept s (if g then t.settle else s) := by
  split
  · exact h.trans (.settle _)
  · exact .refl _

/-- A request keeps what its block keeps. -/
theorem request {α : Type} (s : State) (f : RequestFrame) (rq : Request) (args : Option α)
    {block : α → State → State × Option Answer} (h : ∀ a u, ImagesKept u (block a u).1) :
    ImagesKept s (s.request f rq args block).settle :=
  (s.request_keeps (P := ImagesKept s) f rq args block (.refl _) (fun _ _ _ hu => hu.trans .of_same)
    fun a _ hu => hu.trans (h a _)).trans (.settle _)

/-- A write of stored configuration keeps what it keeps with no COMMIT in flight. -/
theorem unlessCommitting {s : State} {r : State × Answer} (h : ImagesKept s r.1) : ImagesKept s (unlessCommitting s r).1 := by
  unfold Machine.unlessCommitting
  split
  · exact .refl _
  · exact h

end ImagesKept

/-! ### Network time -/

@[simp] theorem State.lock_stored (s : State) (c : TimeCause) : (s.lock c).stored = s.stored := by
  unfold State.lock
  simp only
  split <;> simp

@[simp] theorem State.lock_cfs (s : State) (c : TimeCause) : (s.lock c).cfs = s.cfs := by
  unfold State.lock
  simp only
  split <;> simp

@[simp] theorem State.acceptMark_stored (s : State) : s.acceptMark.stored = s.stored := State.lock_stored _ _
@[simp] theorem State.acceptMark_cfs (s : State) : s.acceptMark.cfs = s.cfs := State.lock_cfs _ _
@[simp] theorem State.stepped_stored (s : State) : s.stepped.stored = s.stored := rfl
@[simp] theorem State.stepped_cfs (s : State) : s.stepped.cfs = s.cfs := rfl

theorem markBlock_images (ec : Nat) (s : State) : ImagesKept s (markBlock ec s).1 := by
  unfold markBlock
  simp only
  split
  · exact .of_same
  · exact .of_same
  · exact .of_same
  · exact .of_same (by simp) (by simp)
  · exact .of_same (by simp) (by simp)
  · split
    · exact .of_same (by simp) (by simp)
    · exact .of_same (by simp) (by simp)

theorem setTimeBlock_images (v : Nat) (s : State) : ImagesKept s (setTimeBlock v s).1 := by
  unfold setTimeBlock
  split
  · exact .refl _
  · exact .of_same (by simp) (by simp)

theorem State.expire2P_images (s : State) : ImagesKept s s.expire2P := by
  unfold State.expire2P
  split
  · exact .of_same (by simp) (by simp)
  · exact .refl _

theorem State.expireH_images (s : State) : ImagesKept s s.expireH := by
  unfold State.expireH
  split
  · exact .of_same (by simp) (by simp)
  · exact .refl _

theorem State.judgeTimers_images (s : State) : ImagesKept s s.judgeTimers := by
  unfold State.judgeTimers
  split
  · extract_lets s1
    have h1 : ImagesKept s s1 := .of_same
    split
    · exact (h1.trans (State.expire2P_images _)).trans (State.expireH_images _)
    · exact h1.trans (State.expireH_images _)
  · exact (State.expire2P_images _).trans (State.expireH_images _)

/-! ### Plans, offsets and parameters -/

theorem writePlanBlock_images (a : WritePlanArgs) (s : State) : ImagesKept s (writePlanBlock a s).1 := by
  refine .unlessCommitting ?_
  split
  next => exact .refl _
  next j p hrec =>
    extract_lets same
    split
    · exact .refl _
    · exact .of_tables (s.stored.keeps_writePlan j (WritePlanArgs.record_inRange hrec))

theorem deletePlanBlock_images (k : Nat) (s : State) : ImagesKept s (deletePlanBlock k s).1 := by
  refine .unlessCommitting ?_
  split
  · exact .refl _
  · split
    · exact .refl _
    · split
      · exact .refl _
      · exact .of_tables (s.stored.keeps_deletePlan _)

theorem readPlanBlock_images (k : Nat) (s : State) : ImagesKept s (readPlanBlock k s).1 := by
  unfold readPlanBlock
  split
  · exact .refl _
  · split <;> exact .refl _

theorem writeOffsetBlock_images (a : WriteOffsetArgs) (s : State) : ImagesKept s (writeOffsetBlock a s).1 := by
  refine .unlessCommitting ?_
  split
  next i j _ _ =>
    split
    next => exact .refl _
    next p hp =>
      have h := s.stored.keeps_setOffset hp i a.offset
      simp only
      split
      · exact .of_tables h
      · exact .of_tables h
  next => exact .refl _

theorem readOffsetBlock_images (a : ReadOffsetArgs) (s : State) : ImagesKept s (readOffsetBlock a s).1 := by
  unfold readOffsetBlock
  split
  · exact .refl _
  · split
    · split <;> exact .refl _
    · exact .refl _

theorem writeParamsBlock_images (items : List ParamItem) (s : State) : ImagesKept s (writeParamsBlock items s).1 := by
  refine .unlessCommitting ?_
  split
  · have h1 : ImagesKept s { s with stored := { s.stored with params := items.foldl Params.store s.stored.params } } :=
      .of_tables (s.stored.keeps_params items)
    simp only
    split
    · exact h1.trans (State.judgeTimers_images _)
    · exact h1
  · exact .refl _

theorem setEventGroupsBlock_images (mask : GroupSet) (s : State) : ImagesKept s (setEventGroupsBlock mask s).1 :=
  .unlessCommitting (.of_tables (s.stored.keeps_eventGroups mask))

theorem writeSegmentParamsBlock_images (a : SegParamArgs) (s : State) : ImagesKept s (writeSegmentParamsBlock a s).1 := by
  refine .unlessCommitting ?_
  split
  · exact .refl _
  · split
    · exact .of_tables (s.stored.keeps_segParams _ a.items)
    · exact .refl _

/-! ### The timetable and its evaluation -/

theorem addEntryBlock_images (p : Port) (a : AddEntryArgs) (s : State) : ImagesKept s (addEntryBlock p a s).1 := by
  refine .unlessCommitting ?_
  split
  next => exact .refl _
  next kind hkind =>
    split
    next => exact .refl _
    split
    next => exact .refl _
    split
    next => exact .refl _
    next hid =>
      split
      next => exact .refl _
      next hroom =>
        split
        next => exact .refl _
        next =>
          exact .of_tables (Stored.keeps_putEntry (Option.not_isSome_iff_eq_none.mp hid) (Nat.lt_of_not_le hroom)
            (AddEntryArgs.entryKind_ends hkind rfl rfl))

theorem removeEntryBlock_images (p : Port) (n : Nat) (s : State) : ImagesKept s (removeEntryBlock p n s).1 := by
  refine .unlessCommitting ?_
  split
  · exact .refl _
  · split
    · exact .refl _
    · exact .of_tables (s.stored.keeps_dropEntry n)

theorem readEntryBlock_images (n : Nat) (s : State) : ImagesKept s (readEntryBlock n s).1 := by
  unfold readEntryBlock
  split <;> exact .refl _

theorem listEntriesBlock_images (a : ListEntriesArgs) (s : State) : ImagesKept s (listEntriesBlock a s).1 := by
  unfold listEntriesBlock
  extract_lets answer
  split <;> exact .refl _

theorem State.tidy_images (s : State) : ImagesKept s s.tidy :=
  .trans (t := { s with stored := { s.stored with dated := tidyList s.stored.recurring s.tref.e s.stored.dated } })
    (.of_tables (s.stored.keeps_tidyList s.tref.e)) (.foldl .offer _ _)

theorem State.evaluate_images (s : State) (scope : GroupSet) : ImagesKept s (s.evaluate scope) := by
  unfold State.evaluate
  extract_lets consult scope1 s1
  have h1 : ImagesKept s s1 := by
    unfold s1
    split
    · exact State.tidy_images _
    · exact .refl _
  exact h1.trans (.of_works (.foldl _ State.evaluateGroup_works _ _))

/-! ### Groups -/

theorem placeHoldBlock_images (p : Port) (a : PlaceHoldArgs) (s : State) : ImagesKept s (placeHoldBlock p a s).1 := by
  unfold placeHoldBlock
  split
  · exact .refl _
  · split
    · exact .refl _
    · simp only
      split
      · exact .of_same (by simp) (by simp)
      · exact .of_same

theorem releaseHoldBlock_images (p : Port) (a : ReleaseHoldArgs) (s : State) : ImagesKept s (releaseHoldBlock p a s).1 := by
  unfold releaseHoldBlock
  split
  · exact .refl _
  · split
    · exact .refl _
    · split
      · exact .refl _
      · split
        · exact .refl _
        · exact .of_same

theorem State.setGroupOf_images (s : State) (v : Vector (Option GroupNo) 64) : ImagesKept s (s.setGroupOf v) :=
  .of_tables (s.stored.keeps_groupOf v)

theorem setMembersBlock_images (a : SetMembersArgs) (s : State) : ImagesKept s (setMembersBlock a s).1 := by
  refine .unlessCommitting ?_
  split
  · extract_lets before after leaves taken gone reply s1 s2 others
    split
    · exact .refl _
    · have h1 : ImagesKept s s1 := (State.setGroupOf_images _ _).trans (.of_works (.foldl _ State.leave_works _ _))
      have h2 : ImagesKept s s2 :=
        (h1.trans (State.setGroupOf_images _ _)).trans (.of_works (.foldl _ (State.joinGroup_works _) _ _))
      exact (h2.trans (.owe _ _)).trans (.foldl (fun _ _ => .owe _ _) _ _)
  · exact .refl _

theorem readGroupBlock_images (n : Nat) (s : State) : ImagesKept s (readGroupBlock n s).1 := by
  unfold readGroupBlock
  split <;> exact .refl _

/-! ### Intersections -/

theorem State.unmap_store (s : State) (i : Ix) :
    (s.unmap i).stored = { s.stored with maps := vset s.stored.maps i none } ∧ (s.unmap i).cfs = s.cfs := by
  have hw := s.goOffline_works i
  simp [State.unmap, State.setPlace, hw.stored_eq, hw.cfs_eq]

theorem State.mapTo_store (s : State) (i : Ix) (pl : Place) :
    (s.mapTo i pl).stored = { s.stored with maps := vset s.stored.maps i (some pl) } ∧ (s.mapTo i pl).cfs = s.cfs := by
  unfold State.mapTo
  extract_lets st s1 s2
  have h2 : Works s1 s2 := by
    unfold s2
    split
    · exact State.enter_works _ _ _
    · exact .refl _
  have h3 : Works s1 (if st = .active then s2.enqueueQuery i else s2) := by
    split
    · exact h2.trans (State.enqueueQuery_works _ _)
    · exact h2
  exact ⟨h3.stored_eq, h3.cfs_eq⟩

theorem vset_vset {α : Type} {n : Nat} (v : Vector α n) (i : Fin n) (a b : α) : vset (vset v i a) i b = vset v i b :=
  vget_ext fun j => by
    simp only [vget_vset]
    split <;> rfl

/-- SET_MAP writes the map of one intersection, and nothing else of the stored tables (R121). -/
theorem State.remap_store (s : State) (i : Ix) (pl : Option Place) :
    (s.remap i pl).stored = { s.stored with maps := vset s.stored.maps i pl } ∧ (s.remap i pl).cfs = s.cfs := by
  unfold State.remap
  split
  next h => exact ⟨by rw [← h, State.place, vset_vget], rfl⟩
  next h =>
    cases hp : s.place i with
    | none =>
      cases pl with
      | none => exact absurd hp h
      | some p => simpa [hp] using s.mapTo_store i p
    | some q =>
      obtain ⟨hu, hc⟩ := s.unmap_store i
      cases pl with
      | none => simpa [hp] using s.unmap_store i
      | some p =>
        obtain ⟨hm, hmc⟩ := (s.unmap i).mapTo_store i p
        simp [hm, hmc, hu, hc, vset_vset]

theorem mem_allIx (i : Ix) : i ∈ allIx := List.mem_finRange i

/-- A drop that no other intersection is found at is free for an intersection (R121). -/
theorem State.drop_free {s : State} {i : Ix} {pl : Option Place}
    (h : (pl.bind fun p => (s.atDrop p.seg p.drop).filter (· ≠ i)) = none) (hu : s.stored.MapsUnique) (j : Ix) (p : Place)
    (hj : j ≠ i) (hp : pl = some p) : s.place j ≠ some p := by
  subst hp
  intro hplace
  rw [Option.bind_some] at h
  cases hd : s.atDrop p.seg p.drop with
  | none =>
    have := List.find?_eq_none.mp hd j (mem_allIx j)
    exact this (decide_eq_true hplace)
  | some k =>
    have hk : s.place k = some p := by
      unfold State.atDrop at hd
      simpa using List.find?_some hd
    have hki : k = i := by simpa [hd, Option.filter] using h
    exact hj ((hu j k p hplace hk).trans hki)

theorem setMapBlock_images (a : SetMapArgs) (s : State) : ImagesKept s (setMapBlock a s).1 := by
  refine .unlessCommitting ?_
  split
  next i pl _ _ =>
    split
    next => exact .refl _
    next hfree =>
      obtain ⟨hst, hcfs⟩ := s.remap_store i pl
      refine .of_tables ?_ hcfs
      rw [hst]
      exact s.stored.keeps_maps i pl fun hu => State.drop_free hfree hu
  next => exact .refl _

theorem requeryBlock_images (n : Nat) (s : State) : ImagesKept s (requeryBlock n s).1 := by
  unfold requeryBlock
  split
  · exact .refl _
  · split
    · exact .refl _
    · split
      · exact .refl _
      · split
        · exact .refl _
        · split
          · exact .of_works (State.enqueueQuery_works _ _)
          · exact .refl _

theorem readIntersectionBlock_images (n : Nat) (s : State) : ImagesKept s (readIntersectionBlock n s).1 := by
  unfold readIntersectionBlock
  split <;> exact .refl _

/-! ### Segments -/

theorem State.setEnable_images (s : State) (k : SegNo) (b : Bool) : ImagesKept s (s.setEnable k b) :=
  .of_tables (s.stored.keeps_enables _)

theorem enableSegmentBlock_images (n : Nat) (s : State) : ImagesKept s (enableSegmentBlock n s).1 := by
  refine .unlessCommitting ?_
  split
  · exact .refl _
  · split
    · exact (State.setEnable_images _ _ _).trans
        (.of_works ((State.startChecking_works _ _ _).trans (State.membersUnknown_works _ _)))
    all_goals exact .refl _

theorem State.disable_images (s : State) (k : SegNo) : ImagesKept s (s.disable k) := by
  unfold State.disable
  extract_lets s1 s2 s3 s4
  have h1 : ImagesKept s s1 := (State.setEnable_images _ _ _).trans (.of_works (State.enterSegment_works _ _ _ _))
  have h2 : ImagesKept s s2 := h1.trans (.of_works (.foldl _ State.goOffline_works _ _))
  have h4 : ImagesKept s s4 := (h2.trans .of_same).trans (.foldl (fun _ _ => .of_same) _ _)
  split
  · exact h4.trans (.of_works (State.enterSegment_works _ _ _ _))
  · exact h4

theorem disableSegmentBlock_images (n : Nat) (s : State) : ImagesKept s (disableSegmentBlock n s).1 := by
  refine .unlessCommitting ?_
  split
  · exact .refl _
  · split
    · exact .refl _
    · exact .refl _
    · exact State.disable_images _ _

theorem readSegmentBlock_images (n : Nat) (s : State) : ImagesKept s (readSegmentBlock n s).1 := by
  unfold readSegmentBlock
  split <;> exact .refl _

/-! ### Faults, ports and the store -/

theorem setPolicyBlock_images (a : SetPolicyArgs) (s : State) : ImagesKept s (setPolicyBlock a s).1 := by
  refine .unlessCommitting ?_
  split
  · exact .of_tables (s.stored.keeps_policies _)
  · exact .refl _

theorem State.resume_images (s : State) (g : GroupNo) : ImagesKept s (s.resume g) :=
  .trans (t := s.setGroup g { s.group g with state := .free, suspension := none }) .of_same (State.evaluate_images _ _)

theorem Clearing.member_images (c : Clearing) (i : Ix) : ImagesKept c.s (c.member i).s :=
  .of_works (State.clearMember_works _ _)

theorem Clearing.foldl_images {α : Type} {f : Clearing → α → Clearing} (h : ∀ c a, ImagesKept c.s (f c a).s) (l : List α)
    (c : Clearing) : ImagesKept c.s (l.foldl f c).s := by
  induction l generalizing c with
  | nil => exact .refl _
  | cons a l ih => exact .trans (h c a) (ih _)

theorem Clearing.group_images (c : Clearing) (g : GroupNo) : ImagesKept c.s (c.group g).s := by
  unfold Clearing.group
  extract_lets c1
  have h1 : ImagesKept c.s c1.s := Clearing.foldl_images Clearing.member_images _ _
  split
  · exact h1.trans (State.resume_images _ _)
  · exact h1

theorem clearTarget_images {a : ClearFaultsArgs} {s : State} {c : Clearing} (h : clearTarget a s = some c) :
    ImagesKept s c.s := by
  unfold clearTarget at h
  extract_lets c0 at h
  split at h
  · obtain ⟨i, -, rfl⟩ := Option.map_eq_some_iff.mp h
    exact c0.member_images i
  · obtain ⟨g, -, rfl⟩ := Option.map_eq_some_iff.mp h
    exact c0.group_images g
  · cases h
    exact .trans (Clearing.foldl_images Clearing.group_images _ c0) (Clearing.foldl_images Clearing.member_images _ _)
  · cases h

theorem clearFaultsBlock_images (a : ClearFaultsArgs) (s : State) : ImagesKept s (clearFaultsBlock a s).1 := by
  unfold clearFaultsBlock
  split
  next => exact .refl _
  next c hc => exact clearTarget_images hc

theorem readFaultsBlock_images (n : Option Nat) (s : State) : ImagesKept s (readFaultsBlock n s).1 := by
  unfold readFaultsBlock
  split
  · exact .refl _
  · split <;> exact .refl _

/-- A COMMIT that begins takes the live tables as its snapshot and leaves a bad image (R182, R183). -/
theorem commitBlock_images (p : Port) (a : Unit) (s : State) : ImagesKept s (commitBlock p a s).1 := by
  unfold commitBlock
  split
  next => exact .refl _
  next =>
    split
    next => exact .refl _
    next hworn =>
      refine ⟨fun w hs => ⟨hs.1, fun hgood => ?_, fun c hc => ?_⟩, fun _ _ => ?_, rfl⟩
      · rw [Image.cls_partly] at hgood
        cases hgood
      · cases hc
        exact hs.1
      · exact ⟨Image.cls_partly _ _, Nat.lt_of_not_le hworn⟩

end Sys2Proof.Machine
end

section
/-! SUPPORT. Each event keeps the images; the end of the write alone moves the commit count; and every step keeps the form of the
stored tables. -/

namespace Sys2Proof.Machine

-- One theorem at a time: a proof that waits for the ones before it holds a thread of its own.
set_option Elab.async false

/-! ### The clock -/

theorem State.tick_images (s : State) : ImagesKept s s.tick := by
  unfold State.tick
  split <;> exact .of_same

theorem State.idle_images (s : State) : ImagesKept s s.idle := by
  unfold State.idle
  split
  · exact .of_same
  · split
    · exact .of_same
    · split
      · exact .of_same
      · exact s.tick_images

theorem State.endHold_images (s : State) (g : GroupNo) : ImagesKept s (s.endHold g) := by
  unfold State.endHold
  split
  · split
    · exact .of_same (by simp) (by simp)
    · exact .refl _
  · exact .refl _

theorem State.minute_images (s : State) : ImagesKept s s.minute := .trans (.foldl State.endHold_images _ _) (.owe _ _)

theorem State.execMinuteBoundary_images (s : State) : ∃ t, execMinuteBoundary s = .next t ∧ ImagesKept s t := by
  refine ⟨_, rfl, .guarded ?_⟩
  split
  · exact .trans (t := { s with tref := { s.tref with minuteOwed := false } }) .of_same (State.minute_images _)
  · exact .of_same

theorem State.execEvaluation_images (s : State) (n : Nat) : ∃ t, execEvaluation n s = .next t ∧ ImagesKept s t := by
  refine ⟨_, rfl, ?_⟩
  split
  · exact (ImagesKept.trans (t := { s with owed := s.owed.eraseIdx n }) .of_same (State.evaluate_images _ _)).trans (.settle _)
  · exact .refl _

/-! ### The field link -/

theorem State.passCheck_images (s : State) (k : SegNo) : ImagesKept s (s.passCheck k) := by
  have h1 : ImagesKept s (s.enterSegment k .active .checkPassed) := .of_works (State.enterSegment_works _ _ _ _)
  refine (h1.trans (.foldl (fun _ _ => .of_same) _ _)).trans (.foldl (fun t i => ?_) _ _)
  split
  · exact .of_works (State.enqueueQuery_works _ _)
  · exact .refl _

theorem State.goStuck_images (s : State) (k : SegNo) : ImagesKept s (s.goStuck k) := by
  unfold State.goStuck
  extract_lets s1 s2 s3
  have h1 : Works s s1 := (State.enterSegment_works _ _ _ _).trans (.modSegment _ _ _ fun _ => .same _)
  have h3 : Works s s3 := (h1.trans (State.completeTxn_works _ _ _)).trans (.foldl _ State.raiseStuck_works _ _)
  exact (ImagesKept.of_works h3).trans (.foldl (fun _ _ => .of_same) _ _)

theorem State.setPhase_images (s : State) (k : SegNo) (p : FieldPhase) : ImagesKept s (s.setPhase k p) := .of_same

theorem State.ended_images (s : State) (k : SegNo) (c : Completion) : ImagesKept s (s.completeTxn k c).settle :=
  (ImagesKept.of_works (s.completeTxn_works k c)).trans (.settle _)

theorem State.inWindow_images {s : State} (k : SegNo) {f : Window → State} (h : ∀ w, ImagesKept s (f w)) :
    ImagesKept s (s.inWindow k f) := by
  unfold State.inWindow
  split
  · split
    · exact s.ended_images k _
    · exact h _
  · exact .refl _

theorem State.listen_images (s : State) (k : SegNo) (w : Window) (bytes : List Byte) : ImagesKept s (s.listen k w bytes) := by
  unfold State.listen
  split
  · split
    · exact .refl _
    · exact (s.setPhase_images k _).trans (.settle _)
  · exact .refl _

theorem State.takeMarker_images (s : State) (k : SegNo) (w : Window) (d : Drop) : ImagesKept s (s.takeMarker k w d) := by
  unfold State.takeMarker
  split
  · exact s.ended_images k _
  · split
    · exact .refl _
    · exact (s.setPhase_images k _).trans (.settle _)

theorem State.endReplyGap_images (s : State) (k : SegNo) : ImagesKept s (s.endReplyGap k) := by
  unfold State.endReplyGap
  split
  · exact s.ended_images k _
  · exact .refl _

theorem State.countLate_images (s : State) (k : SegNo) : ImagesKept s (s.countLate k) := .guarded .of_same

theorem State.execTurnaroundEnd_images (s : State) (k : SegNo) : ∃ t, execTurnaroundEnd k s = .next t ∧ ImagesKept s t := by
  refine ⟨_, rfl, ?_⟩
  split
  · exact .guarded (.of_works (State.recheck_works _ _ _))
  · exact .refl _

theorem State.execPollIntervalExpiry_images (s : State) (i : Ix) :
    ∃ t, execPollIntervalExpiry i s = .next t ∧ ImagesKept s t := by
  refine ⟨_, rfl, ?_⟩
  split
  · exact .guarded .of_same
  · exact .refl _

theorem State.execWaitMarker_images (s : State) (k : SegNo) (bytes : List Byte) :
    ∃ t, execWaitMarker k bytes s = .next t ∧ ImagesKept s t := by
  refine ⟨_, rfl, State.inWindow_images k fun w => ?_⟩
  split
  · exact s.takeMarker_images _ _ _
  · exact s.listen_images _ _ _

theorem State.execReplyFrameReceived_images (s : State) (k : SegNo) (bytes : List Byte) :
    ∃ t, execReplyFrameReceived k bytes s = .next t ∧ ImagesKept s t := by
  refine ⟨_, rfl, State.inWindow_images k fun w => ?_⟩
  split
  · exact s.ended_images _ _
  · exact s.listen_images _ _ _

theorem State.execReplyLengthBad_images (s : State) (k : SegNo) (bytes : List Byte) :
    ∃ t, execReplyLengthBad k bytes s = .next t ∧ ImagesKept s t := by
  refine ⟨_, rfl, State.inWindow_images k fun w => ?_⟩
  split
  · exact s.ended_images _ _
  · exact s.listen_images _ _ _

theorem State.execReplyWindowClose_images (s : State) (k : SegNo) (bytes : List Byte) :
    ∃ t, execReplyWindowClose k bytes s = .next t ∧ ImagesKept s t := by
  refine ⟨_, rfl, State.inWindow_images k fun w => ?_⟩
  split
  · split
    · exact s.ended_images _ _
    · exact s.listen_images _ _ _
  · exact .refl _

/-! ### Ports -/

theorem State.unknownCode_images (s : State) (f : RequestFrame) (code : Byte) : ImagesKept s (s.unknownCode f code) := by
  unfold State.unknownCode
  simp only
  split <;> exact .of_same

theorem State.discardBytes_images (s : State) (p : Port) (bytes : List Byte) : ImagesKept s (s.discardBytes p bytes) := by
  unfold State.discardBytes
  simp only
  split
  · exact .of_same
  · split
    · exact .of_same
    · exact .refl _

theorem State.gapAfter_images (s : State) (p : Port) (bytes after : List Byte) : ImagesKept s (s.gapAfter p bytes after) := by
  unfold State.gapAfter
  split
  · exact .of_same
  · exact .refl _

theorem State.execFrameGapTimeout_images (s : State) (p : Port) (bytes after : List Byte) :
    ∃ t, execFrameGapTimeout p bytes after s = .next t ∧ ImagesKept s t := by
  refine ⟨_, rfl, ?_⟩
  split
  · exact .guarded .of_same
  · exact (ImagesKept.trans (t := s.endGap p) .of_same (State.gapAfter_images _ _ _ _)).trans (.settle _)

/-! ### Reset and start-up -/

/-- A cabinet reset cuts off a COMMIT in flight and keeps the image and the count cell (R180, R183). -/
theorem State.requestedReset_images (s : State) : ImagesKept s s.requestedReset := .of_write (.refl _) rfl rfl (.inr rfl)

theorem State.execResetLineClose_images (s : State) : ∃ t, execResetLineClose s = .next t ∧ ImagesKept s t := by
  refine ⟨_, rfl, ?_⟩
  split
  · exact .refl _
  · exact .of_write (.refl _) rfl rfl (.inr rfl)

theorem State.execTransmitEnd_images (s : State) (p : Port) : ∃ t, execTransmitEnd p s = .next t ∧ ImagesKept s t := by
  refine ⟨_, rfl, ?_⟩
  split
  · exact .refl _
  · split
    · exact s.requestedReset_images
    · exact .trans (t := s.modPort p PortState.sent) .of_same (.settle _)

theorem State.openContact_images (s : State) : ImagesKept s s.openContact := by
  unfold State.openContact
  split
  · exact .of_write (.refl _) rfl rfl (.inl rfl)
  · exact .of_same

theorem State.poweredOn_images (s : State) : ImagesKept s s.poweredOn := by
  have hempty : s.stored.Keeps Stored.empty := fun w _ => Stored.has_empty w
  unfold State.poweredOn
  simp only
  split
  · exact .of_write hempty rfl rfl (.inr rfl)
  · exact .of_write hempty rfl rfl (.inr rfl)

/-- The load brings the tables of a good image, else the empty ones (R184). -/
theorem State.load_images (s : State) : ImagesKept s s.load := by
  refine ⟨fun w hs => ⟨?_, hs.2⟩, id, rfl⟩
  obtain ⟨-, hgood, -⟩ := hs
  change s.cfs.image.loaded.Has w
  unfold Image.loaded
  split
  next h => exact hgood h
  next => exact Stored.has_empty w
  next => exact Stored.has_empty w

theorem State.offerReset_images (s : State) (e : Option Nat) : ImagesKept s (s.offerReset e) := by
  unfold State.offerReset
  split
  · exact .of_same (by simp) (by simp)
  · exact .refl _

theorem State.startSegment_images (s : State) (k : SegNo) : ImagesKept s (s.startSegment k) := by
  unfold State.startSegment
  split
  · exact .of_works ((State.startChecking_works _ _ _).trans (State.membersUnknown_works _ _))
  · exact .refl _

theorem State.completeStartUp_images (s : State) : ImagesKept s s.completeStartUp := by
  have hports : ImagesKept s.load s.load.openPorts := .of_write (.refl _) rfl rfl (.inl rfl)
  exact (((((s.load_images).trans hports).trans (State.offerReset_images _ _)).trans (State.judgeTimers_images _)).trans
    (.foldl State.startSegment_images _ _)).trans (State.evaluate_images _ _)

theorem State.execStartUpComplete_images (s : State) : ∃ t, execStartUpComplete s = .next t ∧ ImagesKept s t := by
  refine ⟨_, rfl, ?_⟩
  split
  · exact s.completeStartUp_images.trans (.settle _)
  · exact .refl _

/-! ### Every command -/

/-- Every command but the end of the write keeps the images and the commit count. -/
theorem exec_images (c : Instr) (s : State) (hc : c ≠ .commitWriteEnd) : ∃ t, exec c s = .next t ∧ ImagesKept s t := by
  cases c with
  | commitWriteEnd => exact absurd rfl hc
  | powerOn => exact ⟨_, rfl, s.poweredOn_images⟩
  | resetLineClose => exact s.execResetLineClose_images
  | resetLineOpen =>
    refine ⟨_, rfl, ?_⟩
    split
    · exact s.openContact_images
    · exact .refl _
  | startUpComplete => exact s.execStartUpComplete_images
  | minuteBoundary => exact s.execMinuteBoundary_images
  | slewAdjustment => exact ⟨_, rfl, .guarded .of_same⟩
  | timer2pExpiry => exact ⟨_, rfl, .guarded s.expire2P_images⟩
  | timerHExpiry => exact ⟨_, rfl, .guarded s.expireH_images⟩
  | epochCountEnd => exact ⟨_, rfl, .guarded .of_same⟩
  | evaluation n => exact s.execEvaluation_images n
  | tsReached g =>
    refine ⟨_, rfl, ?_⟩
    split
    next h =>
      simp only [State.tsDue, Bool.and_eq_true, decide_eq_true_eq] at h
      exact (ImagesKept.of_works (State.reachTs_works _ _ h.1)).trans (.settle _)
    next => exact .refl _
  | tmReached i => exact ⟨_, rfl, .guarded (.of_works (State.reachTm_works _ _))⟩
  | checkPassed k => exact ⟨_, rfl, .guarded (s.passCheck_images k)⟩
  | lineBreak k => exact ⟨_, rfl, .guarded .of_same⟩
  | lineHeld k =>
    refine ⟨_, rfl, .guarded ?_⟩
    split
    · exact s.goStuck_images k
    · exact .of_works (s.completeTxn_works k _)
  | lineReleased k => exact ⟨_, rfl, .guarded (.of_works (s.startChecking_works k _))⟩
  | lineReadsMark k => exact ⟨_, rfl, .guarded .of_same⟩
  | lineReadsSpace k => exact ⟨_, rfl, .guarded .of_same⟩
  | turnaroundEnd k => exact s.execTurnaroundEnd_images k
  | requestSent k => exact ⟨_, rfl, .guarded .of_same⟩
  | waitMarker k bytes => exact s.execWaitMarker_images k bytes
  | replyFrameReceived k bytes => exact s.execReplyFrameReceived_images k bytes
  | replyLengthBad k bytes => exact s.execReplyLengthBad_images k bytes
  | replyGapTimeout k => exact ⟨_, rfl, s.endReplyGap_images k⟩
  | replyWindowClose k bytes => exact s.execReplyWindowClose_images k bytes
  | lateReply k => exact ⟨_, rfl, (s.endReplyGap_images k).trans (State.countLate_images _ _)⟩
  | pollIntervalExpiry i => exact s.execPollIntervalExpiry_images i
  | resetRequestTaken =>
    refine ⟨_, rfl, ?_⟩
    split
    · exact s.requestedReset_images
    · exact .refl _
  | unknownRequestCode f code =>
    refine ⟨_, rfl, ?_⟩
    split
    · exact .refl _
    · exact (s.unknownCode_images f code).trans (.settle _)
  | frameDiscarded p bytes =>
    exact ⟨_, rfl, (ImagesKept.trans (t := s.endGap p) .of_same (State.discardBytes_images _ _ _)).trans (.settle _)⟩
  | frameGapTimeout p bytes after => exact s.execFrameGapTimeout_images p bytes after
  | transmitEnd p => exact s.execTransmitEnd_images p
  | mark f => exact ⟨_, rfl, .request s f _ _ markBlock_images⟩
  | setTime f => exact ⟨_, rfl, .request s f _ _ setTimeBlock_images⟩
  | readTime f => exact ⟨_, rfl, .request s f _ _ fun _ => .refl⟩
  | writePlan f => exact ⟨_, rfl, .request s f _ _ writePlanBlock_images⟩
  | deletePlan f => exact ⟨_, rfl, .request s f _ _ deletePlanBlock_images⟩
  | readPlan f => exact ⟨_, rfl, .request s f _ _ readPlanBlock_images⟩
  | writeOffset f => exact ⟨_, rfl, .request s f _ _ writeOffsetBlock_images⟩
  | readOffset f => exact ⟨_, rfl, .request s f _ _ readOffsetBlock_images⟩
  | writeParams f => exact ⟨_, rfl, .request s f _ _ writeParamsBlock_images⟩
  | readParams f => exact ⟨_, rfl, .request s f _ _ fun _ => .refl⟩
  | setEventGroups f => exact ⟨_, rfl, .request s f _ _ setEventGroupsBlock_images⟩
  | addEntry f => exact ⟨_, rfl, .request s f _ _ (addEntryBlock_images _)⟩
  | removeEntry f => exact ⟨_, rfl, .request s f _ _ (removeEntryBlock_images _)⟩
  | readEntry f => exact ⟨_, rfl, .request s f _ _ readEntryBlock_images⟩
  | listEntries f => exact ⟨_, rfl, .request s f _ _ listEntriesBlock_images⟩
  | placeHold f => exact ⟨_, rfl, .request s f _ _ (placeHoldBlock_images _)⟩
  | releaseHold f => exact ⟨_, rfl, .request s f _ _ (releaseHoldBlock_images _)⟩
  | setMembers f => exact ⟨_, rfl, .request s f _ _ setMembersBlock_images⟩
  | readGroup f => exact ⟨_, rfl, .request s f _ _ readGroupBlock_images⟩
  | setMap f => exact ⟨_, rfl, .request s f _ _ setMapBlock_images⟩
  | requery f => exact ⟨_, rfl, .request s f _ _ requeryBlock_images⟩
  | readIntersection f => exact ⟨_, rfl, .request s f _ _ readIntersectionBlock_images⟩
  | enableSegment f => exact ⟨_, rfl, .request s f _ _ enableSegmentBlock_images⟩
  | disableSegment f => exact ⟨_, rfl, .request s f _ _ disableSegmentBlock_images⟩
  | writeSegmentParams f => exact ⟨_, rfl, .request s f _ _ writeSegmentParamsBlock_images⟩
  | readSegment f => exact ⟨_, rfl, .request s f _ _ readSegmentBlock_images⟩
  | setPolicy f => exact ⟨_, rfl, .request s f _ _ setPolicyBlock_images⟩
  | clearFaults f => exact ⟨_, rfl, .request s f _ _ clearFaultsBlock_images⟩
  | readFaults f => exact ⟨_, rfl, .request s f _ _ readFaultsBlock_images⟩
  | setNoticeMask f => exact ⟨_, rfl, .request s f _ _ fun _ _ => .of_same⟩
  | readPorts f => exact ⟨_, rfl, .request s f _ _ fun _ => .refl⟩
  | commit f => exact ⟨_, rfl, .request s f _ _ (commitBlock_images _)⟩
  | readStore f => exact ⟨_, rfl, .request s f _ _ fun _ => .refl⟩
  | reset f => exact ⟨_, rfl, .request s f _ _ fun _ => .refl⟩

/-! ### The end of the write -/

/-- What every step keeps of the images, and what it may do to the commit count (R182, R183). -/
structure StorePromised (s t : State) : Prop where
  images : ∀ w, s.EveryImage (Stored.Has · w) → t.EveryImage (Stored.Has · w)
  sound : s.CommitSound → t.CommitSound ∧ s.cfs.count ≤ t.cfs.count ∧ t.cfs.count ≤ min 100000 (s.cfs.count + 1)

theorem Cfs.count_le (c : Cfs) : c.count ≤ 100000 := by
  unfold Cfs.count
  split
  · exact Nat.zero_le _
  · exact Nat.min_le_right _ _

theorem ImagesKept.promised {s t : State} (h : ImagesKept s t) : StorePromised s t := by
  refine ⟨h.images, fun hs => ⟨h.sound hs, h.count.ge, ?_⟩⟩
  have := s.cfs.count_le
  have := h.count
  omega

/-- The end of the write leaves the snapshot in a good image and counts one COMMIT more (R182). -/
theorem State.endCommit_promised {s : State} {c : CommitInFlight} (hc : s.cfs.commit = some c) :
    StorePromised s (s.endCommit c).settle := by
  have hst : (s.endCommit c).settle.stored = s.stored := by simp [State.endCommit]
  have hcfs : (s.endCommit c).settle.cfs
      = { s.cfs with image := Image.written s.freeUses c.snapshot, countCell := some (s.cfs.count + 1), status := .good,
                     commit := none } := by simp [State.endCommit]
  refine ⟨fun w hs => ?_, fun hs => ?_⟩
  · obtain ⟨hlive, -, hsnap⟩ := hs
    refine ⟨by rw [hst]; exact hlive, fun _ => ?_, fun d hd => ?_⟩
    · rw [hcfs]
      exact hsnap c hc
    · rw [hcfs] at hd
      cases hd
  · obtain ⟨-, hlt⟩ := hs (by rw [hc]; rfl)
    have hlim : s.cfs.count < 100000 := hlt
    have hcount : (s.endCommit c).settle.cfs.count = min (s.cfs.count + 1) 100000 := by rw [hcfs]; rfl
    refine ⟨fun hin => ?_, by omega, by omega⟩
    rw [hcfs] at hin
    cases hin

theorem exec_storePromised (c : Instr) (s : State) : ∃ t, exec c s = .next t ∧ StorePromised s t := by
  by_cases hc : c = .commitWriteEnd
  · subst hc
    refine ⟨_, rfl, ?_⟩
    split
    next d hd => exact State.endCommit_promised hd
    next => exact (ImagesKept.refl s).promised
  · obtain ⟨t, ht, hk⟩ := exec_images c s hc
    exact ⟨t, ht, hk.promised⟩

theorem step_storePromised {s t : State} (h : step s = .next t) : StorePromised s t := by
  unfold step at h
  split at h
  · cases h
    exact s.idle_images.promised
  next c rest _ =>
    obtain ⟨u, hu, hp⟩ := exec_storePromised c { s with pending := rest }
    rw [hu] at h
    cases h
    exact ⟨hp.images, hp.sound⟩

end Sys2Proof.Machine

section
open Sys2Proof Sys2Proof.Machine

/-- Settles O58: each command writes the live tables, if at all, by a write that keeps their forms (`Stored.Keeps`), and leaves the
store alone (`ImagesKept`); a COMMIT takes live tables as its snapshot, a load the tables of a good image, and the end of a write
alone makes an image good and moves the count (`State.endCommit_promised`). -/
theorem storedImagesKeepTheirForm : Obligations.StoredImagesKeepTheirForm := by
  unfold Obligations.StoredImagesKeepTheirForm
  intro s t h
  have hp := step_storePromised h
  exact ⟨hp.images .params, hp.images .offsets, hp.images .maps, hp.images .timetable, hp.sound⟩

end
end

section
/-! SUPPORT. Requests that leave no notice; the numbers they name; and what the plan marker and the references of a plan are. -/

namespace Sys2Proof.Machine

-- One theorem at a time: a proof that waits for the ones before it holds a thread of its own.
set_option Elab.async false

/-! ### Numbers and codes -/

theorem planIndex_succ (j : Fin 48) : planIndex (j.val + 1) = some j := dif_pos ⟨by omega, by omega⟩

theorem planIndex_none {k : Nat} (h : ¬ (1 ≤ k ∧ k ≤ 48)) : planIndex k = none := dif_neg h

theorem inRange_val {n : Nat} (i : Fin n) : inRange n i.val = some i := dif_pos i.isLt

theorem inRange_none {n k : Nat} (h : ¬ k < n) : inRange n k = none := dif_neg h

theorem Method.ofCode_none {n : Nat} (h : 2 < n) : Method.ofCode n = none := by
  match n, h with
  | n + 3, _ => rfl

theorem Stored.plan_succ (t : Stored) (j : Fin 48) : t.plan (j.val + 1) = vget t.plans j := by
  rw [Stored.plan, planIndex_succ]

theorem Stored.offset_succ (t : Stored) (j : Fin 48) (i : Ix) : t.offset (j.val + 1) i = vget (vget t.offsets j) i := by
  rw [Stored.offset, planIndex_succ]

/-! ### Requests without notices -/

theorem unlessCommitting_free {s : State} (h : s.cfs.commit = none) (r : State × Answer) : unlessCommitting s r = r := by
  rw [unlessCommitting, h]
  rfl

theorem unlessCommitting_busy {s : State} (h : s.cfs.commit.isSome = true) (r : State × Answer) :
    unlessCommitting s r = (s, plain .storeBusy) := if_pos h

theorem State.handedOver_free {s : State} (h : s.cfs.commit = none) (f : RequestFrame) (rq : Request) :
    (s.handedOver f rq).cfs.commit = none := h

/-- A served request whose block leaves `u` and offers no notice. -/
theorem State.request_silent {α : Type} {s u : State} {f : RequestFrame} {rq : Request} {a : α}
    {block : α → State → State × Answer} {st : Status} {items : List Item} (h : s.Serves f) (hr : rq.allowed f.port = true)
    (hq : u.Quiet) (hu : u.phase = s.phase) (hports : u.ports = s.ports) (hc : u.crystal = s.crystal)
    (hb : block a (s.handedOver f rq) = (u.handedOver f rq, (st, items))) :
    (s.request f rq (some a) (answering block)).settle = u.answered f rq [] st items :=
  State.request_told h hr hq hu hports hc (by rw [hb, State.told_nil])

/-- A served request whose block only answers. -/
theorem State.request_read {α : Type} {s : State} {f : RequestFrame} {rq : Request} {a : α}
    {block : α → State → State × Answer} {st : Status} {items : List Item} (h : s.Serves f) (hr : rq.allowed f.port = true)
    (hn : s.NoneIdle) (hb : block a (s.handedOver f rq) = (s.handedOver f rq, (st, items))) :
    (s.request f rq (some a) (answering block)).settle = s.answered f rq [] st items :=
  State.request_silent h hr hn.quiet rfl rfl rfl hb

/-- Of its block a request takes the outcome at hand-over alone. -/
theorem State.request_congr {α : Type} {s : State} {f : RequestFrame} {rq : Request} {a : α}
    {b c : α → State → State × Option Answer} (h : b a (s.handedOver f rq) = c a (s.handedOver f rq)) :
    s.request f rq (some a) b = s.request f rq (some a) c := by
  have hs : (s.modPort f.port (·.takeFrame s.crystal)).modPort f.port (fun p => { p with service := some ⟨f.tag, rq, none⟩ })
      = s.handedOver f rq := s.modPort_modPort _ _ _
  unfold State.request
  simp only at hs ⊢
  rw [hs, h]

/-! ### The in-use marker and the references of a plan (R21, R23, R24) -/

theorem GroupState.coordinating_iff (st : GroupState) :
    st.coordinating = true ↔ st = .pending ∨ st = .transition ∨ st = .steady := by
  cases st <;> decide

theorem State.planInUse_iff (s : State) (k : Nat) : s.planInUse k = true ↔ s.InUse k := by
  simp only [State.planInUse, State.InUse, List.any_eq_true, Bool.and_eq_true, Bool.or_eq_true, decide_eq_true_eq,
    GroupState.coordinating_iff, allGroups, List.mem_finRange, true_and]

theorem Stored.planEntries_eq (t : Stored) (k : Nat) :
    t.planEntries k = ((t.recurring ++ t.dated).filter fun x => decide (x.plan = k)).length := by
  rw [List.filter_append, List.length_append, Stored.planEntries]

theorem State.planReferenced_iff (s : State) (k : Nat) :
    s.planReferenced k = true ↔ s.InUse k ∨ (∃ x ∈ s.stored.recurring ++ s.stored.dated, x.plan = k)
      ∨ (∃ g h, (s.group g).hold = some h ∧ h.plan = k) ∨ (∃ g, (s.group g).wanted = k) := by
  have hentries : 0 < s.stored.planEntries k ↔ ∃ x ∈ s.stored.recurring ++ s.stored.dated, x.plan = k := by
    rw [Stored.planEntries_eq, List.length_pos_iff_exists_mem]
    simp only [List.mem_filter, decide_eq_true_eq]
  have hholds : 0 < s.planHolds k ↔ ∃ g h, (s.group g).hold = some h ∧ h.plan = k := by
    rw [State.planHolds, List.length_pos_iff_exists_mem]
    simp [allGroups]
  have hwanted : (allGroups.any fun g => decide ((s.group g).wanted = k)) = true ↔ ∃ g, (s.group g).wanted = k := by
    simp [allGroups]
  rw [State.planReferenced]
  simp only [Bool.or_eq_true, decide_eq_true_eq, hentries, hholds, hwanted, s.planInUse_iff, or_assoc]

theorem State.planGroups_eq (s : State) (k : Nat) :
    s.planGroups k = (allGroups.filter fun g =>
      decide ((s.group g).current = k ∨ (s.group g).target = k ∨ (s.group g).wanted = k)).length := by
  simp only [State.planGroups, Bool.decide_or, Bool.or_assoc]

theorem State.planHolds_eq (s : State) (k : Nat) :
    s.planHolds k = (allGroups.filter fun g => decide (∃ h ∈ (s.group g).hold, h.plan = k)).length := by
  simp only [State.planHolds, Option.map_eq_some_iff, Option.mem_def]

/-! ### Writing a plan (R20, R22) -/

theorem WritePlanArgs.record_eq {a : WritePlanArgs} {j : Fin 48} {m : Method} (hplan : a.plan = j.val + 1)
    (hm : Method.ofCode a.method = some m)
    (hfits : 300 ≤ a.cycle / 10 * 10 ∧ a.cycle / 10 * 10 ≤ 3000 ∧ 1 ≤ a.pattern ∧ a.pattern ≤ 32) :
    a.record = some (j, ⟨a.cycle / 10 * 10, a.pattern, m⟩) := by
  rw [WritePlanArgs.record, hplan, planIndex_succ, hm]
  exact if_pos hfits

theorem WritePlanArgs.record_none {a : WritePlanArgs}
    (h : ¬ (1 ≤ a.plan ∧ a.plan ≤ 48 ∧ 300 ≤ a.cycle / 10 * 10 ∧ a.cycle / 10 * 10 ≤ 3000 ∧ 1 ≤ a.pattern ∧ a.pattern ≤ 32
      ∧ a.method ≤ 2)) : a.record = none := by
  cases hrec : a.record with
  | none => rfl
  | some x =>
    unfold WritePlanArgs.record at hrec
    simp only at hrec
    split at hrec
    next j m hj hm =>
      split at hrec
      next hfits =>
        have hplan : 1 ≤ a.plan ∧ a.plan ≤ 48 := by
          by_contra hno
          rw [planIndex_none hno] at hj
          cases hj
        have hmethod : a.method ≤ 2 := by
          by_contra hno
          rw [Method.ofCode_none (Nat.lt_of_not_le hno)] at hm
          cases hm
        omega
      next => cases hrec
    next => cases hrec

/-- The cycle of a defined plan changes: its offsets are reduced (R22). -/
theorem Stored.writePlan_recycled {t : Stored} {j : Fin 48} {p : Plan} (h : ∃ q, vget t.plans j = some q ∧ q.cycle ≠ p.cycle) :
    t.writePlan j p = { t with plans := vset t.plans j (some p)
                               offsets := vset t.offsets j ((vget t.offsets j).map fun o => o % p.cycle) }
      ∧ t.writePlanCount j p = ((vget t.offsets j).toList.filter fun o => decide (o % p.cycle ≠ o)).length := by
  obtain ⟨q, hq, hc⟩ := h
  simp [Stored.writePlan, Stored.writePlanCount, hq, hc, reduceOffsets, reducedCount]

/-- Otherwise the offsets stay. -/
theorem Stored.writePlan_kept {t : Stored} {j : Fin 48} {p : Plan}
    (h : ¬ ∃ q, vget t.plans j = some q ∧ q.cycle ≠ p.cycle) :
    t.writePlan j p = { t with plans := vset t.plans j (some p) } ∧ t.writePlanCount j p = 0 := by
  have hany : (vget t.plans j).any (fun q => decide (q.cycle ≠ p.cycle)) = false := by
    rw [Bool.eq_false_iff, ne_eq, Option.any_eq_true]
    simpa using h
  simp only [Stored.writePlan, Stored.writePlanCount, hany]
  exact ⟨rfl, rfl⟩

end Sys2Proof.Machine
end

section
open Sys2Proof Sys2Proof.Machine

-- One theorem at a time: a proof that waits for the ones before it holds a thread of its own.
set_option Elab.async false

/-- Settles O13: the record that the arguments name is none where Table 3-1 refuses them, and the write reduces the offsets
exactly when the cycle of a defined plan changes. -/
theorem writePlanReplacesTheRecord : Obligations.WritePlanReplacesTheRecord := by
  unfold Obligations.WritePlanReplacesTheRecord
  intro s f a hs hn hport ha hcommit c
  have hr : Request.writePlan.allowed f.port = true := decide_eq_true hport
  have hfree := State.handedOver_free hcommit f .writePlan
  have hexec : exec (.writePlan f) s = .next (s.request f .writePlan (some a) (answering writePlanBlock)).settle := by
    simp only [exec, execWritePlan, ha]
  have refused {st : Status} (hb : writePlanBlock a (s.handedOver f .writePlan) = (s.handedOver f .writePlan, (st, []))) :
      exec (.writePlan f) s = .next (s.answered f .writePlan [] st []) :=
    hexec.trans (congrArg Host.Outcome.next (State.request_read hs hr hn hb))
  refine ⟨fun hbad => refused ?_, ?_⟩
  · rw [writePlanBlock, unlessCommitting_free hfree, WritePlanArgs.record_none hbad]
    rfl
  intro j m hj hm hlo hhi hp1 hp2 old row same recycled
  have hrec := WritePlanArgs.record_eq hj hm ⟨hlo, hhi, hp1, hp2⟩
  have hsame : ((vget s.stored.plans j).any fun q => decide (q.cycle = c) && decide (q.pattern = a.pattern)) = true ↔ same := by
    simp [Option.any_eq_true, same, old]
  have hinUse : (s.handedOver f .writePlan).planInUse a.plan = true ↔ s.InUse a.plan := s.planInUse_iff a.plan
  have hkept (hno : ¬ recycled) := Stored.writePlan_kept (t := s.stored) (p := ⟨c, a.pattern, m⟩) hno
  have written {st : Stored} {n : Nat} (hst : s.stored.writePlan j ⟨c, a.pattern, m⟩ = st ∧
      s.stored.writePlanCount j ⟨c, a.pattern, m⟩ = n) (hmay : s.InUse a.plan → same) (hmaps : st.maps = s.stored.maps) :
      exec (.writePlan f) s
        = .next (State.answered { s with stored := st } f .writePlan [] .ok [.n2 c, .n1 a.pattern, .n1 m.code, .n1 n]) := by
    obtain ⟨rfl, rfl⟩ := hst
    refine hexec.trans (congrArg Host.Outcome.next (State.request_silent hs hr (hn.quiet.congr rfl rfl hmaps) rfl rfl rfl ?_))
    rw [writePlanBlock, unlessCommitting_free hfree, hrec]
    refine if_neg fun hcond => ?_
    obtain ⟨hu, hno⟩ := Bool.and_eq_true_iff.mp hcond
    exact Bool.eq_false_iff.mp (Bool.not_inj (y := false) hno) (hsame.mpr (hmay (hinUse.mp hu)))
  refine ⟨fun hu hno => refused ?_, fun _ hsm => written (hkept ?_) (fun _ => hsm) rfl,
    fun hu hno => written (hkept hno) (fun h => absurd h hu) rfl,
    fun hu hre => written (Stored.writePlan_recycled hre) (fun h => absurd h hu) rfl⟩
  · rw [writePlanBlock, unlessCommitting_free hfree, hrec]
    exact if_pos (Bool.and_eq_true_iff.mpr ⟨hinUse.mpr hu, congrArg (!·) (Bool.eq_false_iff.mpr (mt hsame.mp hno))⟩)
  · rintro ⟨q, hq, hc⟩
    obtain ⟨q', hq', hc', -⟩ := hsm
    exact hc (Option.some.inj (hq.symm.trans hq') ▸ hc')

/-- Settles O14: the block's references are those of the statement (`State.planReferenced_iff`). -/
theorem deletePlanUndefinesUnreferencedPlan : Obligations.DeletePlanUndefinesUnreferencedPlan := by
  unfold Obligations.DeletePlanUndefinesUnreferencedPlan
  intro s f k hs hn hport hk hcommit referenced
  have hr : Request.deletePlan.allowed f.port = true := decide_eq_true hport
  have hfree := State.handedOver_free hcommit f .deletePlan
  have href : (s.handedOver f .deletePlan).planReferenced k = true ↔ referenced := s.planReferenced_iff k
  have hexec : exec (.deletePlan f) s = .next (s.request f .deletePlan (some k) (answering deletePlanBlock)).settle := by
    simp only [exec, execDeletePlan, hk]
  have refused {st : Status} (hb : deletePlanBlock k (s.handedOver f .deletePlan) = (s.handedOver f .deletePlan, (st, []))) :
      exec (.deletePlan f) s = .next (s.answered f .deletePlan [] st []) :=
    hexec.trans (congrArg Host.Outcome.next (State.request_read hs hr hn hb))
  refine ⟨fun hbad => refused ?_, ?_⟩
  · rw [deletePlanBlock, unlessCommitting_free hfree, planIndex_none hbad]
    rfl
  intro j hj
  have hblock : deletePlanBlock k (s.handedOver f .deletePlan)
      = if (vget s.stored.plans j).isNone then (s.handedOver f .deletePlan, plain .notFound)
        else if (s.handedOver f .deletePlan).planReferenced k then (s.handedOver f .deletePlan, plain .inUse)
        else (State.handedOver { s with stored := s.stored.deletePlan j } f .deletePlan, plain .ok) := by
    rw [deletePlanBlock, unlessCommitting_free hfree, hj, planIndex_succ]
    rfl
  refine ⟨fun hnone => refused ?_, fun hdef hin => refused ?_, fun hdef hout => hexec.trans (congrArg Host.Outcome.next
    (State.request_silent (u := { s with stored := s.stored.deletePlan j }) hs hr (hn.quiet.congr rfl rfl rfl) rfl rfl rfl ?_))⟩
  · rw [hblock, if_pos (by rw [hnone]; rfl)]
    rfl
  · rw [hblock, if_neg (by simpa using hdef), if_pos (href.mpr hin)]
    rfl
  · rw [hblock, if_neg (by simpa using hdef), if_neg (mt href.mp hout)]
    rfl

end

section
namespace Sys2Proof.Machine

-- One theorem at a time: a proof that waits for the ones before it holds a thread of its own.
set_option Elab.async false

/-! ### Policy codes (R165) -/

theorem FaultClass.ofCode_code (c : FaultClass) : FaultClass.ofCode c.code = some c := by cases c <;> rfl

theorem Policy.ofCode_code (p : Policy) : Policy.ofCode p.code = some p := by cases p <;> rfl

theorem Scope.ofCode_code (sc : Scope) : Scope.ofCode sc.code = some sc := by cases sc <;> rfl

theorem FaultClass.ofCode_none {n : Nat} (h : 5 < n) : FaultClass.ofCode n = none := by
  match n, h with
  | n + 6, _ => rfl

theorem Policy.ofCode_none {n : Nat} (h : 3 < n) : Policy.ofCode n = none := by
  match n, h with
  | n + 4, _ => rfl

theorem Scope.ofCode_none {n : Nat} (h : 1 < n) : Scope.ofCode n = none := by
  match n, h with
  | n + 2, _ => rfl

/-- A class, a policy or a scope out of its range is refused. -/
theorem setPolicyBlock_badArg {a : SetPolicyArgs} {s : State} (hfree : s.cfs.commit = none)
    (h : 5 < a.cls ∨ 3 < a.policy ∨ 1 < a.scope) : setPolicyBlock a s = (s, plain .badArg) := by
  rw [setPolicyBlock, unlessCommitting_free hfree]
  split
  next hc hp hsc =>
    rcases h with h | h | h
    · rw [FaultClass.ofCode_none h] at hc
      cases hc
    · rw [Policy.ofCode_none h] at hp
      cases hp
    · rw [Scope.ofCode_none h] at hsc
      cases hsc
  next => rfl

/-! ### Offsets (R26 to R28) -/

theorem MemberState.inTransition_iff (st : MemberState) : st.inTransition = true ↔ st = .correcting ∨ st = .inStep := by
  cases st <;> decide

theorem State.offsetResyncs_iff (s : State) (k : Nat) (i : Ix) :
    s.offsetResyncs k i = true ↔ ((s.member i).state = .correcting ∨ (s.member i).state = .inStep)
      ∧ ∃ g, s.groupOf i = some g ∧ (s.group g).current = k := by
  rw [State.offsetResyncs, Bool.and_eq_true, MemberState.inTransition_iff]
  simp [Option.any_eq_true]

theorem writeOffsetBlock_badArg {a : WriteOffsetArgs} {s : State} (hfree : s.cfs.commit = none)
    (h : ¬ (a.intersection ≤ 63 ∧ 1 ≤ a.plan ∧ a.plan ≤ 48)) : writeOffsetBlock a s = (s, plain .badArg) := by
  rw [writeOffsetBlock, unlessCommitting_free hfree]
  split
  next i j hi hj =>
    refine absurd ⟨?_, ?_⟩ h
    · by_contra hno
      rw [inRange_none (by omega)] at hi
      cases hi
    · by_contra hno
      rw [planIndex_none hno] at hj
      cases hj
  next => rfl

theorem toList_eq_map_vget {α : Type} {n : Nat} (v : Vector α n) : v.toList = (List.finRange n).map (vget v) := by
  refine List.ext_getElem (by simp) fun k h1 h2 => ?_
  simp [vget]

/-- The numbers of a range, among all numbers below a bound. -/
theorem finRange_slice (n first count : Nat) :
    ((List.finRange n).drop first).take count
      = (List.finRange n).filter fun i => decide (first ≤ i.val ∧ i.val < first + count) := by
  have hmem {l : List (Fin n)} {lo hi : Nat} (hl : ∀ k (hk : k < l.length), l[k].val = lo + k) (hlen : l.length ≤ hi - lo)
      (i : Fin n) (hi' : i ∈ l) : lo ≤ i.val ∧ i.val < hi := by
    obtain ⟨k, hk, rfl⟩ := List.mem_iff_getElem.mp hi'
    have := hl k hk
    omega
  have hsplit : List.finRange n = (List.finRange n).take first
      ++ (((List.finRange n).drop first).take count ++ ((List.finRange n).drop first).drop count) := by
    rw [List.take_append_drop, List.take_append_drop]
  have hlow := hmem (l := (List.finRange n).take first) (lo := 0) (hi := first) (fun k hk => by simp) (by simp)
  have hmid := hmem (l := ((List.finRange n).drop first).take count) (lo := first) (hi := first + count) (fun k hk => by simp)
    (by simp)
  have hhigh := hmem (l := ((List.finRange n).drop first).drop count) (lo := first + count) (hi := n)
    (fun k hk => by simp) (by simp)
  conv_rhs => rw [hsplit]
  rw [List.filter_append, List.filter_append, List.filter_eq_nil_iff.mpr, List.filter_eq_self.mpr, List.filter_eq_nil_iff.mpr,
    List.nil_append, List.append_nil]
  · intro i hi
    have := hhigh i hi
    simp only [decide_eq_true_eq]
    omega
  · intro i hi
    exact decide_eq_true (hmid i hi)
  · intro i hi
    have := hlow i hi
    simp only [decide_eq_true_eq]
    omega

theorem flatMap_single {α β : Type} (l : List α) (f : α → β) : (l.flatMap fun x => [f x]) = l.map f := by
  induction l with
  | nil => rfl
  | cons x l ih => rw [List.flatMap_cons, ih, List.map_cons, List.singleton_append]

/-- What READ_OFFSET carries of a row: the counted intersections, ascending (R28). -/
theorem offsetItems_eq (row : Vector Nat 64) {first count : Nat} (h : first + count ≤ 64) :
    listItem ((row.toList.drop first).take count) (fun o => [.n2 o])
      = .n1 count :: ((allIx.filter fun i => decide (first ≤ i.val ∧ i.val < first + count)).map fun i => .n2 (vget row i)) := by
  have hlen : ((row.toList.drop first).take count).length = count := by
    simp
    omega
  rw [listItem, hlen, flatMap_single, toList_eq_map_vget, ← List.map_drop, ← List.map_take, finRange_slice, List.map_map]
  rfl

end Sys2Proof.Machine

section
open Sys2Proof Sys2Proof.Machine

-- One theorem at a time: a proof that waits for the ones before it holds a thread of its own.
set_option Elab.async false

/-- Settles O15: the block compares the offset stored before with the reduced one, and sets the flag of the member beside it. -/
theorem writeOffsetStoresModCycle : Obligations.WriteOffsetStoresModCycle := by
  unfold Obligations.WriteOffsetStoresModCycle
  intro s f a hs hn hport ha hcommit
  have hr : Request.writeOffset.allowed f.port = true := decide_eq_true hport
  have hfree := State.handedOver_free hcommit f .writeOffset
  have hexec : exec (.writeOffset f) s = .next (s.request f .writeOffset (some a) (answering writeOffsetBlock)).settle := by
    simp only [exec, execWriteOffset, ha]
  have refused {st : Status} (hb : writeOffsetBlock a (s.handedOver f .writeOffset) = (s.handedOver f .writeOffset, (st, []))) :
      exec (.writeOffset f) s = .next (s.answered f .writeOffset [] st []) :=
    hexec.trans (congrArg Host.Outcome.next (State.request_read hs hr hn hb))
  refine ⟨fun hbad => refused (writeOffsetBlock_badArg hfree hbad), fun i j hi hj => ⟨fun hnone => refused ?_, ?_⟩⟩
  · rw [writeOffsetBlock, unlessCommitting_free hfree, hi, hj, inRange_val, planIndex_succ]
    simp only [State.handedOver, State.modPort_stored, hnone]
    rfl
  intro p hp o resync stored
  have hresync : (o ≠ (s.handedOver f .writeOffset).stored.offset a.plan i
      ∧ (s.handedOver f .writeOffset).offsetResyncs a.plan i = true) ↔ resync := by
    rw [State.offsetResyncs_iff, hj, Stored.offset_succ]
    simp only [resync, hj]
    rfl
  have hblock : writeOffsetBlock a (s.handedOver f .writeOffset)
      = (if o ≠ (s.handedOver f .writeOffset).stored.offset a.plan i
            ∧ (s.handedOver f .writeOffset).offsetResyncs a.plan i = true then
          State.handedOver { s with stored := stored, members := vset s.members i { s.member i with resync := true } } f
            .writeOffset
        else State.handedOver { s with stored := stored } f .writeOffset, (.ok, [.n2 o])) := by
    have hp' : vget (s.handedOver f .writeOffset).stored.plans j = some p := hp
    rw [writeOffsetBlock, unlessCommitting_free hfree, hi, inRange_val, hj, planIndex_succ]
    simp only [hp']
    rfl
  refine ⟨fun hre => hexec.trans (congrArg Host.Outcome.next ?_), fun hno => hexec.trans (congrArg Host.Outcome.next ?_)⟩
  · exact State.request_silent
      (u := { s with stored := stored, members := vset s.members i { s.member i with resync := true } }) hs hr
      (hn.quiet.congr rfl rfl rfl) rfl rfl rfl (by rw [hblock, if_pos (hresync.mpr hre)])
  · exact State.request_silent (u := { s with stored := stored }) hs hr (hn.quiet.congr rfl rfl rfl) rfl rfl rfl
      (by rw [hblock, if_neg (mt hresync.mp hno)])

/-- Settles O16: both blocks read the stored tables and the group records and change nothing. -/
theorem plansAndOffsetsAreRead : Obligations.PlansAndOffsetsAreRead := by
  unfold Obligations.PlansAndOffsetsAreRead
  refine ⟨?_, ?_⟩
  · intro s f k hs hn hk
    have hr : Request.readPlan.allowed f.port = true := rfl
    have reads {st : Status} {items : List Item}
        (hb : readPlanBlock k (s.handedOver f .readPlan) = (s.handedOver f .readPlan, (st, items))) :
        exec (.readPlan f) s = .next (s.answered f .readPlan [] st items) := by
      simp only [exec, execReadPlan, hk]
      exact congrArg Host.Outcome.next (State.request_read hs hr hn hb)
    refine ⟨fun hbad => reads (by rw [readPlanBlock, planIndex_none hbad]; rfl), fun j hj => ⟨fun hnone => reads ?_, ?_⟩⟩
    · have hnone' : vget (s.handedOver f .readPlan).stored.plans j = none := hnone
      rw [readPlanBlock, hj, planIndex_succ]
      simp only [hnone']
      rfl
    · intro p b hp hb
      have hp' : vget (s.handedOver f .readPlan).stored.plans j = some p := hp
      have hcode : boolCode ((s.handedOver f .readPlan).planInUse k) = b := by
        have hinUse : (s.handedOver f .readPlan).planInUse k = true ↔ s.InUse k := s.planInUse_iff k
        rcases hb with ⟨rfl, hu⟩ | ⟨rfl, hu⟩
        · rw [hinUse.mpr hu]
          rfl
        · rw [Bool.eq_false_iff.mpr (mt hinUse.mp hu)]
          rfl
      refine reads ?_
      rw [readPlanBlock, show planIndex k = some j by rw [hj, planIndex_succ]]
      simp only [hp', hcode, State.planGroups_eq, Stored.planEntries_eq, State.planHolds_eq]
      rfl
  · intro s f a hs hn ha fits
    have hr : Request.readOffset.allowed f.port = true := rfl
    have reads {st : Status} {items : List Item}
        (hb : readOffsetBlock a (s.handedOver f .readOffset) = (s.handedOver f .readOffset, (st, items))) :
        exec (.readOffset f) s = .next (s.answered f .readOffset [] st items) := by
      simp only [exec, execReadOffset, ha]
      exact congrArg Host.Outcome.next (State.request_read hs hr hn hb)
    refine ⟨fun hbad => reads ?_, fun j hfits hj => ?_⟩
    · rw [readOffsetBlock]
      by_cases hplan : 1 ≤ a.plan ∧ a.plan ≤ 48
      · rw [show planIndex a.plan = some ⟨a.plan - 1, by omega⟩ from dif_pos hplan]
        exact if_neg fun h => hbad ⟨hplan.1, hplan.2, h⟩
      · rw [planIndex_none hplan]
        rfl
    obtain ⟨-, -, hrange⟩ := hfits
    refine ⟨fun hnone => reads ?_, fun p hp => reads ?_⟩
    · have hnone' : vget (s.handedOver f .readOffset).stored.plans j = none := hnone
      rw [readOffsetBlock, hj, planIndex_succ]
      simp only [if_pos hrange, hnone']
      rfl
    · have hp' : vget (s.handedOver f .readOffset).stored.plans j = some p := hp
      rw [readOffsetBlock, hj, planIndex_succ]
      simp only [if_pos hrange, hp', offsetItems_eq _ hrange.2.2.2]
      rfl

/-- Settles O19: the four segments' parameters follow one another. -/
theorem readParamsReportsEveryParameter : Obligations.ReadParamsReportsEveryParameter := by
  unfold Obligations.ReadParamsReportsEveryParameter
  intro s f hs hn hf q seg
  have hr : Request.readParams.allowed f.port = true := rfl
  simp only [exec, execReadParams, hf, parseNothing]
  refine congrArg Host.Outcome.next (State.request_read hs hr hn ?_)
  rfl

/-- Settles O20: each of the two blocks writes one field of the stored tables. -/
theorem eventGroupsAndPoliciesAreReplaced : Obligations.EventGroupsAndPoliciesAreReplaced := by
  unfold Obligations.EventGroupsAndPoliciesAreReplaced
  intro s f hs hn hport hcommit
  have hrg : Request.setEventGroups.allowed f.port = true := decide_eq_true hport
  have hrp : Request.setPolicy.allowed f.port = true := decide_eq_true hport
  refine ⟨fun mask hmask => ?_, fun a ha => ?_⟩
  · simp only [exec, execSetEventGroups, hmask]
    refine congrArg Host.Outcome.next (State.request_silent (u := { s with stored := { s.stored with eventGroups := mask } })
      hs hrg (hn.quiet.congr rfl rfl rfl) rfl rfl rfl ?_)
    rw [setEventGroupsBlock, unlessCommitting_free (State.handedOver_free hcommit f _)]
    rfl
  · have hfree := State.handedOver_free hcommit f .setPolicy
    simp only [exec, execSetPolicy, ha]
    refine ⟨fun hbad => congrArg Host.Outcome.next (State.request_read hs hrp hn ?_), fun c p sc hc hp hsc =>
      congrArg Host.Outcome.next (State.request_silent
        (u := { s with stored := { s.stored with policies := s.stored.policies.set c ⟨p, sc⟩ } }) hs hrp
        (hn.quiet.congr rfl rfl rfl) rfl rfl rfl ?_)⟩
    · rw [setPolicyBlock_badArg hfree hbad]
      rfl
    · rw [setPolicyBlock, unlessCommitting_free hfree, hc, hp, hsc, c.ofCode_code, p.ofCode_code, sc.ofCode_code]
      rfl

end
end

section
namespace Sys2Proof.Machine

-- One theorem at a time: a proof that waits for the ones before it holds a thread of its own.
set_option Elab.async false

/-- A request that fits and has the right is refused STORE_BUSY when its block answers so at hand-over (R19, R183). -/
theorem State.request_storeBusy {α : Type} {s : State} {f : RequestFrame} {rq : Request} {args : Option α}
    {block : α → State → State × Option Answer} (h : s.Serves f) (hr : rq.allowed f.port = true) (hn : s.NoneIdle)
    (hfit : args.isSome = true) (hc : s.cfs.commit.isSome = true)
    (hb : ∀ a u, u.cfs.commit.isSome = true → block a u = (u, some (plain .storeBusy))) :
    (s.request f rq args block).settle = s.answered f rq [] .storeBusy [] := by
  obtain ⟨a, rfl⟩ := Option.isSome_iff_exists.mp hfit
  have hout : block a (s.handedOver f rq) = answering (fun _ u => (u, plain .storeBusy)) a (s.handedOver f rq) :=
    hb a _ hc
  rw [State.request_congr hout]
  exact State.request_read h hr hn rfl

theorem answering_storeBusy {α : Type} {block : α → State → State × Answer} {a : α} {u : State}
    (h : block a u = (u, plain .storeBusy)) : answering block a u = (u, some (plain .storeBusy)) := by rw [answering, h]

end Sys2Proof.Machine

section
open Sys2Proof Sys2Proof.Machine

/-- Settles O21: the block of each such request begins with the check of R19, and so does COMMIT's own. -/
theorem storedWritesWaitForTheCommit : Obligations.StoredWritesWaitForTheCommit := by
  unfold Obligations.StoredWritesWaitForTheCommit
  intro s f c rq hs hn hc hreq hfit hr hrq
  have refused {α : Type} {args : Option α} {block : α → State → State × Option Answer} (hargs : args.isSome = true)
      (hb : ∀ a u, u.cfs.commit.isSome = true → block a u = (u, some (plain .storeBusy))) :
      Host.Outcome.next (φ := Fault) (ρ := Refusal) (s.request f rq args block).settle
        = Host.Outcome.next (s.answered f rq [] .storeBusy []) :=
    congrArg _ (State.request_storeBusy hs hr hn hargs hc hb)
  cases c with
  | writePlan g => cases hreq; exact refused hfit fun _ _ hu => answering_storeBusy (unlessCommitting_busy hu _)
  | deletePlan g => cases hreq; exact refused hfit fun _ _ hu => answering_storeBusy (unlessCommitting_busy hu _)
  | writeOffset g => cases hreq; exact refused hfit fun _ _ hu => answering_storeBusy (unlessCommitting_busy hu _)
  | writeParams g => cases hreq; exact refused hfit fun _ _ hu => answering_storeBusy (unlessCommitting_busy hu _)
  | setEventGroups g => cases hreq; exact refused hfit fun _ _ hu => answering_storeBusy (unlessCommitting_busy hu _)
  | addEntry g => cases hreq; exact refused hfit fun _ _ hu => answering_storeBusy (unlessCommitting_busy hu _)
  | removeEntry g => cases hreq; exact refused hfit fun _ _ hu => answering_storeBusy (unlessCommitting_busy hu _)
  | setMembers g => cases hreq; exact refused hfit fun _ _ hu => answering_storeBusy (unlessCommitting_busy hu _)
  | setMap g => cases hreq; exact refused hfit fun _ _ hu => answering_storeBusy (unlessCommitting_busy hu _)
  | enableSegment g => cases hreq; exact refused hfit fun _ _ hu => answering_storeBusy (unlessCommitting_busy hu _)
  | disableSegment g => cases hreq; exact refused hfit fun _ _ hu => answering_storeBusy (unlessCommitting_busy hu _)
  | writeSegmentParams g => cases hreq; exact refused hfit fun _ _ hu => answering_storeBusy (unlessCommitting_busy hu _)
  | setPolicy g => cases hreq; exact refused hfit fun _ _ hu => answering_storeBusy (unlessCommitting_busy hu _)
  | commit g => cases hreq; exact refused hfit fun _ _ hu => if_pos hu
  | _ => cases hreq <;> exact absurd hrq (by decide)

end
end

section
/-! SUPPORT. What the leaves and the joins of a SET_MEMBERS may do: they move members, the tests of R70 may move a group between
TRANSITION and STEADY, and a failing check of a member that joins may suspend the group that it joins. -/

namespace Sys2Proof.Machine

-- One theorem at a time: a proof that waits for the ones before it holds a thread of its own.
set_option Elab.async false

/-! ### The relations -/

/-- An operation of coordination that discharges no poll and touches ports by notices alone. -/
structure Coordinated (s t : State) : Prop where
  works : Works s t
  polls : t.polls = s.polls
  ports : ∃ ns : List Notice, t.ports = (s.told ns).ports

theorem Coordinated.refl (s : State) : Coordinated s s := ⟨.refl _, rfl, [], by rw [State.told_nil]⟩

theorem Coordinated.trans {s t u : State} (h1 : Coordinated s t) (h2 : Coordinated t u) : Coordinated s u := by
  obtain ⟨a, ha⟩ := h1.ports
  obtain ⟨b, hb⟩ := h2.ports
  exact ⟨h1.works.trans h2.works, h2.polls.trans h1.polls, a ++ b, State.told_ports_trans h1.works.phase_eq ha hb⟩

theorem Coordinated.groupOf {s t : State} (h : Coordinated s t) (i : Ix) : t.groupOf i = s.groupOf i := by
  rw [State.groupOf, h.works.stored_eq]
  rfl

/-- The tests of R70 move a group that runs its plan between TRANSITION and STEADY, its target kept. -/
def Group.Retested (r r' : Group) : Prop :=
  r' = r ∨ ((r.state = .transition ∨ r.state = .steady) ∧ (r'.state = .transition ∨ r'.state = .steady)
    ∧ r'.target = r.target)

theorem Group.Retested.trans {a b c : Group} (h1 : a.Retested b) (h2 : b.Retested c) : a.Retested c := by
  rcases h1 with rfl | ⟨ha, hb, hab⟩
  · exact h2
  · rcases h2 with rfl | ⟨-, hc, hbc⟩
    · exact .inr ⟨ha, hb, hab⟩
    · exact .inr ⟨ha, hc, hbc.trans hab⟩

/-- Members of `P` are moved, and groups of `G` retested. -/
structure Moves (P : Ix → Prop) (G : GroupNo → Prop) (s t : State) : Prop extends Coordinated s t where
  groups : ∀ h, (s.group h).Retested (t.group h)
  others : ∀ h, ¬ G h → t.group h = s.group h
  members : ∀ j, ¬ P j → t.member j = s.member j

theorem Moves.refl (P : Ix → Prop) (G : GroupNo → Prop) (s : State) : Moves P G s s :=
  ⟨.refl _, fun _ => .inl rfl, fun _ _ => rfl, fun _ _ => rfl⟩

theorem Moves.trans {P : Ix → Prop} {G : GroupNo → Prop} {s t u : State} (h1 : Moves P G s t) (h2 : Moves P G t u) :
    Moves P G s u :=
  ⟨h1.toCoordinated.trans h2.toCoordinated, fun h => (h1.groups h).trans (h2.groups h),
    fun h hg => (h2.others h hg).trans (h1.others h hg), fun j hj => (h2.members j hj).trans (h1.members j hj)⟩

theorem Moves.mono {P Q : Ix → Prop} {G H : GroupNo → Prop} {s t : State} (h : Moves P G s t) (hP : ∀ j, P j → Q j)
    (hG : ∀ k, G k → H k) : Moves Q H s t :=
  ⟨h.toCoordinated, h.groups, fun k hk => h.others k (mt (hG k) hk), fun j hj => h.members j (mt (hP j) hj)⟩

/-- An operation upon members moves them. -/
theorem Upon.moves {P : Ix → Prop} {G : GroupNo → Prop} {s t : State} (h : Upon P s t) (hw : Works s t) : Moves P G s t := by
  obtain ⟨ns, -, hns⟩ := h.notices
  exact ⟨⟨hw, h.polls, ns, hns⟩, fun k => .inl (h.group k), fun k _ => h.group k, h.members⟩

/-- A group is retested by itself alone. -/
theorem Moves.setGroup (P : Ix → Prop) {s : State} {g : GroupNo} {r : Group} (h : (s.group g).Retested r)
    (hs : (s.group g).Sound → r.Sound) : Moves P (· = g) s (s.setGroup g r) := by
  refine ⟨⟨.group _ _ _ hs, rfl, [], by rw [State.told_nil]; rfl⟩, fun k => ?_,
    fun k hk => State.group_setGroup_ne s g k r hk, fun _ _ => rfl⟩
  by_cases hk : k = g
  · subst hk
    rw [State.group_setGroup_self]
    exact h
  · exact .inl (State.group_setGroup_ne s g k r hk)

theorem Moves.offer (P : Ix → Prop) (G : GroupNo → Prop) (s : State) (b : NoticeBody) : Moves P G s (s.offer b) := by
  have hg : ∀ k, (s.offer b).group k = s.group k := fun k => by
    rw [State.group, State.offer_groups]
    rfl
  refine ⟨⟨.offer _ _, State.offer_polls _ _, [⟨s.tref.e, b⟩], rfl⟩, fun k => .inl (hg k), fun k _ => hg k,
    fun j _ => ?_⟩
  rw [State.member, State.offer_members]
  rfl

/-! ### The tests of R70 -/

theorem State.offerSteady_moves (P : Ix → Prop) (G : GroupNo → Prop) (s : State) (g : GroupNo) :
    Moves P G s (s.offerSteady g) := .offer _ _ _ _

theorem State.testSteady_moves (P : Ix → Prop) (s : State) (g : GroupNo) : Moves P (· = g) s (s.testSteady g) := by
  unfold State.testSteady
  split
  next h =>
    have h1 : Moves P (· = g) s (s.setGroup g { s.group g with state := .steady, ts := none }) :=
      .setGroup P (.inr ⟨.inl h.1, .inr rfl, rfl⟩) fun hs => by simp_all [Group.Sound]
    exact h1.trans (State.offerSteady_moves _ _ _ _)
  next => exact .refl _ _ _

theorem State.testWorking_moves (P : Ix → Prop) (s : State) (g : GroupNo) : Moves P (· = g) s (s.testWorking g) := by
  unfold State.testWorking
  split
  next h =>
    refine .setGroup P (.inr ⟨.inr h.1, .inl rfl, rfl⟩) fun hs => ?_
    simp_all [Group.Sound]
  next => exact .refl _ _ _

theorem State.groupTests_moves (P : Ix → Prop) (s : State) (g : GroupNo) : Moves P (· = g) s (s.groupTests g) :=
  (s.testWorking_moves P g).trans (State.testSteady_moves _ _ _)

theorem State.testsOf_moves (P : Ix → Prop) {s : State} {i : Ix} {g : GroupNo} (hi : s.groupOf i = some g) :
    Moves P (· = g) s (s.testsOf i) := by
  simp only [State.testsOf, hi]
  exact s.groupTests_moves P g

theorem State.groupTests_member (s : State) (g : GroupNo) (j : Ix) : (s.groupTests g).member j = s.member j :=
  (s.groupTests_moves (fun _ => False) g).members j id

theorem State.testsOf_member (s : State) (i j : Ix) : (s.testsOf i).member j = s.member j := by
  unfold State.testsOf
  split
  · exact s.groupTests_member _ _
  · rfl

/-! ### What a member that joins is asked for (R86) -/

/-- A group that orders the FREE members that join it (R86). -/
def Group.Calls (r : Group) : Prop := (r.state = .pending ∧ r.target ≠ 0) ∨ r.state = .transition ∨ r.state = .steady

/-- The switch time of a member that joins, when an order made now would switch at `soon` (R86). -/
def Group.joinTm (r : Group) (soon : Nat) : Nat := if r.state = .pending then max (r.ts.getD 0) soon else soon

namespace Group.Retested

variable {r r' : Group} (h : r.Retested r')
include h

theorem target_eq : r'.target = r.target := by
  obtain rfl | ⟨-, -, ht⟩ := h
  · rfl
  · exact ht

theorem calls_iff : r'.Calls ↔ r.Calls := by
  obtain rfl | ⟨ha, hb, -⟩ := h
  · rfl
  · exact iff_of_true (.inr hb) (.inr ha)

theorem joinTm_eq (soon : Nat) : r'.joinTm soon = r.joinTm soon := by
  obtain rfl | ⟨ha, hb, -⟩ := h
  · rfl
  · have no {q : Group} (hq : q.state = .transition ∨ q.state = .steady) : q.joinTm soon = soon :=
      if_neg fun hp => by
        rw [hp] at hq
        simp at hq
    rw [no ha, no hb]

theorem coordinating_eq : r'.state.coordinating = r.state.coordinating := by
  obtain rfl | ⟨ha, hb, -⟩ := h
  · rfl
  · have yes {q : Group} (hq : q.state = .transition ∨ q.state = .steady) : q.state.coordinating = true := by
      rcases hq with hq | hq <;> rw [hq] <;> rfl
    rw [yes ha, yes hb]

end Group.Retested

theorem Group.Calls.not_suspended {r : Group} (h : r.Calls) : r.state ≠ .suspended := by
  intro hs
  simp [Group.Calls, hs] at h

/-! ### A failing check suspends the group (R88, R161) -/

/-- A failing check of a member that a group has ordered suspends the group, which the policy of CAPABILITY asks for. -/
structure Halts (g : GroupNo) (s t : State) : Prop extends Coordinated s t where
  policy : s.stored.policies.get .capability = ⟨.latched, .group⟩
  calls : (s.group g).Calls
  state : (t.group g).state = .suspended
  others : ∀ h, h ≠ g → t.group h = s.group h
  members : ∀ j, s.groupOf j ≠ some g → t.member j = s.member j

theorem State.suspend_halts {s : State} {g : GroupNo} {c : FaultClass} {i : Ix} (hcalls : (s.group g).Calls)
    (hpol : s.stored.policies.get .capability = ⟨.latched, .group⟩) : Halts g s (s.suspend g c i) := by
  have h : Suspends g s (s.suspend g c i) := State.suspend_suspends hpol
  obtain ⟨ns, -, hns⟩ := h.notices
  exact ⟨⟨s.suspend_works g c i, h.polls, ns, hns⟩, hpol, hcalls, h.state, h.groups, h.members⟩

theorem Moves.halts {P : Ix → Prop} {g : GroupNo} {s t u : State} (h1 : Moves P (· = g) s t)
    (hP : ∀ j, P j → s.groupOf j = some g) (h2 : Halts g t u) : Halts g s u := by
  refine ⟨h1.toCoordinated.trans h2.toCoordinated, ?_, (h1.groups g).calls_iff.mp h2.calls, h2.state, fun k hk => ?_,
    fun j hj => ?_⟩
  · rw [← h1.works.stored_eq]
    exact h2.policy
  · rw [h2.others k hk, h1.others k hk]
  · rw [h2.members j (by rwa [h1.groupOf]), h1.members j (mt (hP j) hj)]

/-! ### The raise of CAPABILITY by a member that joins (R126, R160 to R162) -/

section
variable {s : State} {i : Ix} {g : GroupNo} (hi : s.groupOf i = some g) (hcalls : (s.group g).Calls)
include hi hcalls

/-- The raise of CAPABILITY: its record and its notice, then what the policy asks for. -/
theorem State.raise_capability_called :
    ∃ s2, Moves (· = i) (· = g) s s2
      ∧ s2.member i = (s.member i).recordRaise .capability (s.stored.policies.get .capability).policy none none
      ∧ s.raise i .capability = (match (s.stored.policies.get .capability).policy with
          | .latched =>
              if (s.stored.policies.get .capability).scope = Scope.group then (s2.latch i .capability).suspend g .capability i
              else (s2.latch i .capability).testsOf i
          | .recovering => (s2.exclude i).testsOf i
          | .reportOnly => s2
          | .off => s2) := by
  have hrun := hcalls.not_suspended
  unfold State.raise
  extract_lets pair s1 s2 s3
  have h1 : Moves (· = i) (· = g) s s1 := (Upon.modMember s i _).moves (.modMember _ _ _)
  have hm1 : s1.member i = (s.member i).recordRaise .capability pair.policy none none := State.member_modMember_self _ _ _
  have h2 : Moves (· = i) (· = g) s s2 ∧ s2.member i = s1.member i := by
    unfold s2
    split
    · exact ⟨h1, rfl⟩
    · refine ⟨h1.trans (.offer _ _ _ _), ?_⟩
      rw [State.member, State.offer_members]
      rfl
  obtain ⟨h2, hm2⟩ := h2
  refine ⟨s2, h2, hm2.trans hm1, ?_⟩
  show _ = (match pair.policy with
    | .latched => if pair.scope = Scope.group then s3.suspend g .capability i else s3.testsOf i
    | .recovering => (s2.exclude i).testsOf i
    | .reportOnly => s2
    | .off => s2)
  cases hpol : pair.policy with
  | latched =>
    have hs : s.wouldSuspend i pair = true ↔ pair.scope = Scope.group := by simp [State.wouldSuspend, hpol, hi, hrun]
    simp only [hs, hi]
  | recovering => rfl
  | reportOnly => rfl
  | off => rfl

/-- A FREE member's raise of CAPABILITY either suspends its group, or leaves the member where the policy puts it. -/
theorem State.raise_capability_failing (hfree : (s.member i).state = .free) :
    Halts g s (s.raise i .capability)
      ∨ Moves (· = i) (· = g) s (s.raise i .capability)
        ∧ (s.member i).FailedFrom (s.stored.policies.get .capability).policy ((s.raise i .capability).member i) := by
  obtain ⟨s2, h2, hm2, hraise⟩ := State.raise_capability_called hi hcalls
  have hi2 : s2.groupOf i = some g := (h2.groupOf i).trans hi
  have hst : (s2.member i).state = .free := by
    rw [hm2]
    exact hfree
  have hcount : ((s2.member i).faults.get .capability).count = min 255 (((s.member i).faults.get .capability).count + 1) := by
    rw [hm2]
    rfl
  rw [hraise]
  cases hpol : (s.stored.policies.get .capability).policy with
  | off => exact .inr ⟨h2, hcount, hst⟩
  | reportOnly => exact .inr ⟨h2, hcount, hst⟩
  | recovering =>
    have h3 : Moves (· = i) (· = g) s2 (s2.exclude i) := (s2.exclude_upon i).moves (s2.exclude_works i)
    refine .inr ⟨(h2.trans h3).trans (State.testsOf_moves _ ((h3.groupOf i).trans hi2)), ?_⟩
    rw [State.testsOf_member, State.exclude_free hst, State.enter_member]
    exact ⟨by rw [Member.enter_capability, hcount], Member.enter_state _ _⟩
  | latched =>
    have h3 : Moves (· = i) (· = g) s2 (s2.latch i .capability) := (s2.latch_upon i _).moves (s2.latch_works i _)
    have h23 := h2.trans h3
    simp only
    split
    next hscope =>
      refine .inl (h23.halts (fun j hj => hj ▸ hi) (State.suspend_halts ((h23.groups g).calls_iff.mpr hcalls) ?_))
      rw [h23.works.stored_eq, ← hpol, ← hscope]
    next hscope =>
      refine .inr ⟨h23.trans (State.testsOf_moves _ ((h3.groupOf i).trans hi2)), ?_⟩
      rw [State.testsOf_member, State.latch_free hst, State.enter_member]
      refine ⟨?_, Member.enter_state _ _⟩
      rw [Member.enter_capability, (State.release_member _ _ _).2.1, State.member_modMember_self, PerClass.get_set_self]
      exact hcount

end

end Sys2Proof.Machine
end

section
/-! SUPPORT. The joins of a SET_MEMBERS (R86) and its leaves (R85), member by member and then along their lists. -/

namespace Sys2Proof.Machine

-- One theorem at a time: a proof that waits for the ones before it holds a thread of its own.
set_option Elab.async false

/-! ### The order that a member gets when it joins (R72, R86) -/

section
variable {s : State} {i : Ix} {g : GroupNo} (hi : s.groupOf i = some g) (hcalls : (s.group g).Calls)
include hi

theorem State.orderMember_called {plan : Nat} (tm : Nat) (h : s.stored.activation (s.member i) plan = true) :
    Moves (· = i) (· = g) s (s.orderMember i plan tm)
      ∧ s.stored.Ordered i ((s.orderMember i plan tm).member i) plan tm := by
  obtain ⟨p, hplan⟩ := Stored.activation_plan h
  have h1 : Upon (· = i) s ((s.clearCond i .capability).placeOrder i .order (s.stored.orderFor i plan p tm)) :=
    Upon.trans (.modMember s i fun m => m.clearCond .capability) (State.placeOrder_upon _ _ _ _)
  have hw : Works s ((s.clearCond i .capability).placeOrder i .order (s.stored.orderFor i plan p tm)) :=
    (s.clearCond_works i _).trans (State.placeOrder_works _ _ _ _)
  have h2 : Moves (· = i) (· = g) s _ :=
    (h1.trans (.modMember _ i fun m => (m.enter .ordered).clearTransition)).moves (hw.trans (.modMember _ _ _))
  have hm := State.placeOrder_member (s.clearCond i .capability) i .order (s.stored.orderFor i plan p tm)
  unfold State.orderMember
  rw [hplan]
  simp only [h, if_true]
  refine ⟨h2.trans (State.testsOf_moves _ ((h2.groupOf i).trans hi)), ?_⟩
  rw [State.testsOf_member, State.member_modMember_self]
  refine ⟨Member.enter_state _ _, (s.clearCond i .capability).nextOid, p, hplan, (Member.enter_order _ _).trans ?_⟩
  rw [hm]
  rfl

include hcalls

theorem State.failCheck_failing (hfree : (s.member i).state = .free) :
    Halts g s (s.failCheck i)
      ∨ Moves (· = i) (· = g) s (s.failCheck i)
        ∧ (s.member i).FailedFrom (s.stored.policies.get .capability).policy ((s.failCheck i).member i) := by
  unfold State.failCheck
  extract_lets m s1
  have h1 : Moves (· = i) (· = g) s s1 := by
    unfold s1
    split
    · exact (s.releaseTo_upon i _ _).moves (s.releaseTo_works i _ _)
    · exact .refl _ _ _
  have hm1 : (s1.member i).state = .free
      ∧ (s1.member i).faults.get .capability = (s.member i).faults.get .capability := by
    unfold s1
    split
    · rw [State.enter_member]
      exact ⟨Member.enter_state _ _, (Member.enter_capability _ _).trans (s.release_member i _).2.1⟩
    · exact ⟨hfree, rfl⟩
  have hi1 := (h1.groupOf i).trans hi
  rcases State.raise_capability_failing hi1 ((h1.groups g).calls_iff.mpr hcalls) hm1.1 with h2 | ⟨h2, hfail⟩
  · have ht : (s1.raise i .capability).testsOf i = s1.raise i .capability :=
      State.testsOf_suspended (by rw [h2.groupOf, hi1]) h2.state
    rw [ht]
    exact .inl (h1.halts (fun j hj => hj ▸ hi) h2)
  · refine .inr ⟨(h1.trans h2).trans (State.testsOf_moves _ ((h2.groupOf i).trans hi1)), ?_⟩
    rw [State.testsOf_member]
    unfold Member.FailedFrom at hfail ⊢
    rwa [hm1.2, h1.works.stored_eq] at hfail

end

/-! ### A join (R86) -/

/-- What a join makes of a member, from the record it had and the record `r` of its new group. -/
structure Stored.Joined (t : Stored) (i : Ix) (r : Group) (soon : Nat) (m m' : Member) : Prop where
  idle : m.state ≠ .free ∨ ¬ r.Calls → m' = m
  passing : m.state = .free → r.Calls → t.activation m r.target = true → t.Ordered i m' r.target (r.joinTm soon)
  failing : m.state = .free → r.Calls → t.activation m r.target = false →
    m.FailedFrom (t.policies.get .capability).policy m'

theorem Stored.Joined.congr {t : Stored} {i : Ix} {r r' : Group} {soon : Nat} {m m' : Member} (hr : r.Retested r')
    (h : t.Joined i r' soon m m') : t.Joined i r soon m m' := by
  obtain ⟨hidle, hpass, hfail⟩ := h
  rw [hr.calls_iff, hr.target_eq] at hpass hfail
  rw [hr.calls_iff] at hidle
  rw [hr.joinTm_eq] at hpass
  exact ⟨hidle, hpass, hfail⟩

theorem State.joinGroup_idle {s : State} {g : GroupNo} {i : Ix} (h : (s.member i).state ≠ .free ∨ ¬ (s.group g).Calls) :
    State.joinGroup g s i = s := by
  unfold State.joinGroup
  extract_lets r
  split
  next hfree =>
    have hno : ¬ r.Calls := h.resolve_left (not_not_intro hfree)
    cases hst : r.state with
    | pending =>
      refine if_pos ?_
      by_contra ht
      exact hno (.inl ⟨hst, ht⟩)
    | transition => exact absurd (.inr (.inl hst)) hno
    | steady => exact absurd (.inr (.inr hst)) hno
    | free => rfl
    | suspended => rfl
  next => rfl

theorem State.joinGroup_called {s : State} {g : GroupNo} {i : Ix} (hfree : (s.member i).state = .free)
    (h : (s.group g).Calls) :
    State.joinGroup g s i = s.orderMember i (s.group g).target ((s.group g).joinTm (s.tref.e + s.leadDs)) := by
  unfold State.joinGroup
  simp only [hfree, if_true]
  rcases h with ⟨hst, ht⟩ | hst | hst
  · simp only [hst, if_neg ht, Group.joinTm, if_true]
    rfl
  · simp [hst, Group.joinTm]
  · simp [hst, Group.joinTm]

theorem State.joinGroup_outcome {s : State} {g : GroupNo} {i : Ix} (hi : s.groupOf i = some g) :
    Halts g s (State.joinGroup g s i)
      ∨ Moves (· = i) (· = g) s (State.joinGroup g s i)
        ∧ s.stored.Joined i (s.group g) (s.tref.e + s.leadDs) (s.member i) ((State.joinGroup g s i).member i) := by
  by_cases hidle : (s.member i).state ≠ .free ∨ ¬ (s.group g).Calls
  · rw [State.joinGroup_idle hidle]
    exact .inr ⟨.refl _ _ _, fun _ => rfl, fun hf hc => absurd hidle (by simp [hf, hc]),
      fun hf hc => absurd hidle (by simp [hf, hc])⟩
  obtain ⟨hfree, hcalls⟩ := not_or.mp hidle
  rw [not_not] at hfree hcalls
  rw [State.joinGroup_called hfree hcalls]
  cases hact : s.stored.activation (s.member i) (s.group g).target with
  | true =>
    obtain ⟨hmoves, hord⟩ := State.orderMember_called hi ((s.group g).joinTm (s.tref.e + s.leadDs)) hact
    exact .inr ⟨hmoves, fun h => absurd h hidle, fun _ _ _ => hord, fun _ _ h => absurd (hact.symm.trans h) (by decide)⟩
  | false =>
    rw [State.orderMember_failing _ _ hact]
    exact (State.failCheck_failing hi hcalls hfree).imp_right fun ⟨hmoves, hfail⟩ =>
      ⟨hmoves, fun h => absurd h hidle, fun _ _ h => absurd (hact.symm.trans h) (by decide), fun _ _ _ => hfail⟩

/-! ### The joins in their order -/

/-- Nothing is asked of the members that join a suspended group. -/
theorem State.joins_suspended {s : State} {g : GroupNo} (h : (s.group g).state = .suspended) (l : List Ix) :
    l.foldl (State.joinGroup g) s = s := by
  induction l with
  | nil => rfl
  | cons i l ih => rw [List.foldl_cons, State.joinGroup_idle (.inr fun hc => hc.not_suspended h), ih]

theorem State.joins_outcome {g : GroupNo} {l : List Ix} (hnd : l.Nodup) {s : State} (hl : ∀ i ∈ l, s.groupOf i = some g) :
    Halts g s (l.foldl (State.joinGroup g) s)
      ∨ Moves (· ∈ l) (· = g) s (l.foldl (State.joinGroup g) s)
        ∧ ∀ i ∈ l, s.stored.Joined i (s.group g) (s.tref.e + s.leadDs) (s.member i)
            ((l.foldl (State.joinGroup g) s).member i) := by
  induction l generalizing s with
  | nil => exact .inr ⟨.refl _ _ _, fun _ h => absurd h List.not_mem_nil⟩
  | cons i l ih =>
    obtain ⟨hi, hnd⟩ := List.nodup_cons.mp hnd
    rw [List.foldl_cons]
    rcases State.joinGroup_outcome (hl i (.head _)) with h1 | ⟨h1, hjoin⟩
    · rw [State.joins_suspended h1.state]
      exact .inl h1
    have hl' : ∀ j ∈ l, (State.joinGroup g s i).groupOf j = some g := fun j hj => by
      rw [h1.groupOf]
      exact hl j (.tail _ hj)
    refine (ih hnd hl').imp (h1.halts fun j hj => hj ▸ hl i (.head _)) fun ⟨h2, hjoins⟩ => ⟨?_, fun j hj => ?_⟩
    · exact (h1.mono (fun j hj => hj ▸ .head _) fun _ h => h).trans (h2.mono (fun _ => .tail _) fun _ h => h)
    rcases List.mem_cons.mp hj with rfl | hj
    · rwa [h2.members j hi]
    · have hne : j ≠ i := fun h => hi (h ▸ hj)
      have hj' := hjoins j hj
      rw [h1.works.stored_eq, h1.works.tref_eq, State.leadDs, h1.works.stored_eq, h1.members j hne] at hj'
      exact hj'.congr (h1.groups g)

/-! ### A leave (R85, R113) -/

/-- What keeps a released EXCLUDED member out: the RELEASE ends ORDER_MISSED, TRANSITION_LATE and TRANSITION_BLOCKED. -/
def Member.heldReleased (m : Member) : Bool :=
  [FaultClass.noReply, .orderMissed, .transitionLate, .transitionBlocked, .capability, .alert].any fun c =>
    (m.faults.get c).latched
      || ((m.faults.get c).standing && decide ((m.faults.get c).applied = some .recovering)
          && decide (c = .noReply ∨ c = .capability ∨ c = .alert))

theorem Member.heldOut_eq_any (m : Member) :
    m.heldOut = allClasses.any fun c =>
      (m.faults.get c).latched || ((m.faults.get c).standing && decide ((m.faults.get c).applied = some .recovering)) := by
  rw [heldOut, anyRecovering, anyLatched, Bool.eq_iff_iff]
  simp only [Bool.or_eq_true, List.any_eq_true, and_or_left, exists_or]
  exact or_comm

theorem State.release_heldOut {s : State} {i : Ix} {tm : Nat} (h : (s.member i).state = .excluded) :
    ((s.release i tm).member i).heldOut = (s.member i).heldReleased := by
  have hfaults : ((s.release i tm).member i).faults = ((s.member i).clearTransitionConds.clearCond .orderMissed).faults := by
    unfold State.release
    rw [if_pos h]
    split
    · rw [State.clearOrder, State.member_modMember_self, State.member_modMember_self]
    · rw [State.placeOrder_member, State.member_modMember_self]
  rw [Member.heldOut_congr hfaults, Member.heldOut_eq_any]
  refine List.any_congr rfl fun c => ?_
  cases c <;> simp [Member.clearTransitionConds, Member.clearCond, PerClass.get, PerClass.set] <;> rfl

/-- Whether a leave from a coordinating group frees the member (R85). -/
def Member.freedAtLeave (m : Member) : Bool := m.state.taken || (decide (m.state = .excluded) && !m.heldReleased)

/-- What a leave makes of a member, from the record it had; `c` says whether the group it leaves is coordinating. -/
structure Stored.LeftAs (t : Stored) (i : Ix) (e : Nat) (c : Bool) (m m' : Member) : Prop where
  capability : m'.capability = m.capability
  entry : m'.faults.get .capability = m.faults.get .capability
  freed : c = true → m.freedAtLeave = true → m'.state = .free ∧ t.Released i m' e
  held : c = true → m.state = .excluded → m.heldReleased = true → m'.state = .excluded ∧ t.Released i m' e
  kept : c = false ∨ m.state = .unknown ∨ m.state = .latched ∨ m.state = .offline → m' = m

theorem State.leaveMember_kept {s : State} {i : Ix}
    (h : (s.member i).state = .unknown ∨ (s.member i).state = .latched ∨ (s.member i).state = .offline) :
    s.leaveMember i = s := by
  rcases h with h | h | h <;> simp only [State.leaveMember, h]

theorem State.leaveMember_taken {s : State} {i : Ix} (h : (s.member i).state.taken = true) :
    s.leaveMember i = (s.release i s.tref.e).enter i .free := by
  rcases (Member.taken_iff _).mpr h with h | h | h | h <;> simp only [State.leaveMember, h]

theorem State.leaveMember_excluded {s : State} {i : Ix} (h : (s.member i).state = .excluded) :
    s.leaveMember i
      = if (s.member i).heldReleased then s.release i s.tref.e else (s.release i s.tref.e).enter i .free := by
  simp only [State.leaveMember, h, State.release_heldOut h]

theorem State.leaveMember_upon (s : State) (i : Ix) : Upon (· = i) s (s.leaveMember i) := s.suspendMember_upon i

/-- A release keeps the capability record. -/
theorem State.release_record (s : State) (i : Ix) (tm : Nat) :
    ((s.release i tm).member i).capability = (s.member i).capability := by
  unfold State.release
  extract_lets s1
  have h1 : (s1.member i).capability = (s.member i).capability := by
    unfold s1
    split
    · rw [State.member_modMember_self]
      rfl
    · rfl
  split
  · rw [State.clearOrder, State.member_modMember_self]
    exact h1
  · rw [State.placeOrder_member]
    exact h1

/-- A released member that stands in state `st` then, from the record it had. -/
structure Stored.ReleasedTo (t : Stored) (i : Ix) (tm : Nat) (st : MemberState) (m m' : Member) : Prop where
  capability : m'.capability = m.capability
  entry : m'.faults.get .capability = m.faults.get .capability
  state : m'.state = st
  released : t.Released i m' tm

section
variable {s : State} {i : Ix} (tm : Nat)

theorem State.release_releasedTo (h : (s.member i).state ≠ .offline) :
    s.stored.ReleasedTo i tm (s.member i).state (s.member i) ((s.release i tm).member i) := by
  obtain ⟨hst, hentry, horder⟩ := s.release_member i tm
  exact ⟨s.release_record i tm, hentry, hst, Stored.released_of_order (horder h)⟩

theorem State.releaseTo_releasedTo (st : MemberState) (h : (s.member i).state ≠ .offline) :
    s.stored.ReleasedTo i tm st (s.member i) (((s.release i tm).enter i st).member i) := by
  obtain ⟨hrec, hentry, -, -⟩ := State.release_releasedTo tm h
  rw [State.enter_member]
  exact ⟨(Member.enter_record _ _).trans hrec, (Member.enter_capability _ _).trans hentry, Member.enter_state _ _,
    Stored.released_of_order ((Member.enter_order _ _).trans (State.release_order h))⟩

end

/-- The states in which a leave finds a member: taken into coordination, EXCLUDED, or out of reach. -/
theorem MemberState.taken_or (st : MemberState) :
    st.taken = true ∨ st = .excluded ∨ (st = .unknown ∨ st = .latched ∨ st = .offline) := by
  cases st <;> simp [taken]

theorem MemberState.not_taken {st : MemberState}
    (h : st = .excluded ∨ st = .unknown ∨ st = .latched ∨ st = .offline) : st.taken = false := by
  rcases h with rfl | rfl | rfl | rfl <;> rfl

theorem MemberState.taken_ne {st st' : MemberState} (h : st.taken = true) (h' : st'.taken = false) : st ≠ st' := by
  rintro rfl
  rw [h] at h'
  cases h'

theorem State.leaveMember_leftAs (s : State) (i : Ix) :
    s.stored.LeftAs i s.tref.e true (s.member i) ((s.leaveMember i).member i) := by
  rcases (s.member i).state.taken_or with ht | hx | hout
  · have hr := State.releaseTo_releasedTo s.tref.e .free (MemberState.taken_ne ht rfl)
    have no {st : MemberState} (h : st.taken = false) : (s.member i).state ≠ st := MemberState.taken_ne ht h
    rw [State.leaveMember_taken ht]
    exact ⟨hr.capability, hr.entry, fun _ _ => ⟨hr.state, hr.released⟩, fun _ h => absurd h (no rfl),
      fun h => absurd h (by simp [no (st := .unknown) rfl, no (st := .latched) rfl, no (st := .offline) rfl])⟩
  · have hon : (s.member i).state ≠ .offline := by simp [hx]
    have hf : (s.member i).freedAtLeave = !(s.member i).heldReleased := by simp [Member.freedAtLeave, hx, MemberState.taken]
    rw [State.leaveMember_excluded hx]
    cases hheld : (s.member i).heldReleased with
    | true =>
      have hr := State.release_releasedTo s.tref.e hon
      exact ⟨hr.capability, hr.entry, fun _ h => by simp [hf, hheld] at h, fun _ _ _ => ⟨hr.state.trans hx, hr.released⟩,
        fun h => by simp [hx] at h⟩
    | false =>
      have hr := State.releaseTo_releasedTo s.tref.e .free hon
      exact ⟨hr.capability, hr.entry, fun _ _ => ⟨hr.state, hr.released⟩, fun _ _ h => by simp [hheld] at h,
        fun h => by simp [hx] at h⟩
  · have ht := MemberState.not_taken (.inr hout)
    have hx : (s.member i).state ≠ .excluded := by rcases hout with h | h | h <;> simp [h]
    rw [State.leaveMember_kept hout]
    exact ⟨rfl, rfl, fun _ h => by simp [Member.freedAtLeave, ht, hx] at h, fun _ h => absurd h hx, fun _ => rfl⟩

theorem State.leave_outcome (s : State) (i : Ix) (h : GroupNo) :
    Moves (· = i) (· = h) s (s.leave (i, h))
      ∧ s.stored.LeftAs i s.tref.e (s.group h).state.coordinating (s.member i) ((s.leave (i, h)).member i) := by
  unfold State.leave
  cases hc : (s.group h).state.coordinating with
  | true =>
    have h1 : Moves (· = i) (· = h) s (s.leaveMember i) := (s.leaveMember_upon i).moves (s.leaveMember_works i)
    refine ⟨h1.trans (State.groupTests_moves _ _ _), ?_⟩
    simp only [if_true, State.groupTests_member]
    exact s.leaveMember_leftAs i
  | false =>
    exact ⟨.refl _ _ _, rfl, rfl, fun h => absurd h Bool.false_ne_true, fun h => absurd h Bool.false_ne_true, fun _ => rfl⟩

/-! ### The leaves in their order -/

theorem State.leaves_outcome {l : List (Ix × GroupNo)} (hnd : (l.map Prod.fst).Nodup) (s : State) :
    Moves (fun j => ∃ x ∈ l, x.1 = j) (fun h => ∃ x ∈ l, x.2 = h) s (l.foldl State.leave s)
      ∧ ∀ x ∈ l, s.stored.LeftAs x.1 s.tref.e (s.group x.2).state.coordinating (s.member x.1)
          ((l.foldl State.leave s).member x.1) := by
  induction l generalizing s with
  | nil => exact ⟨.refl _ _ _, fun _ h => absurd h List.not_mem_nil⟩
  | cons x l ih =>
    obtain ⟨hx, hnd⟩ := List.nodup_cons.mp hnd
    have hout (y : Ix × GroupNo) (hy : y ∈ l) : y.1 ≠ x.1 := fun h => hx (h ▸ List.mem_map_of_mem hy)
    obtain ⟨h1, hleft⟩ := s.leave_outcome x.1 x.2
    obtain ⟨h2, hrest⟩ := ih hnd (s.leave x)
    rw [List.foldl_cons]
    refine ⟨(h1.mono ?_ ?_).trans (h2.mono ?_ ?_), fun y hy => ?_⟩
    · exact fun j hj => ⟨x, .head _, hj.symm⟩
    · exact fun h hh => ⟨x, .head _, hh.symm⟩
    · exact fun j ⟨y, hy, hj⟩ => ⟨y, .tail _ hy, hj⟩
    · exact fun h ⟨y, hy, hh⟩ => ⟨y, .tail _ hy, hh⟩
    rcases List.mem_cons.mp hy with rfl | hy
    · rw [h2.members y.1 fun ⟨z, hz, hzy⟩ => hout z hz hzy]
      exact hleft
    · have hy' := hrest y hy
      rw [h1.works.stored_eq, h1.works.tref_eq, h1.members y.1 (hout y hy), (h1.groups y.2).coordinating_eq] at hy'
      exact hy'

end Sys2Proof.Machine
end

section
/-! SUPPORT. The block of SET_MEMBERS: the written list, the table, who leaves and who joins, and what comes of both
(R35, R36). -/

namespace Sys2Proof.Machine

-- One theorem at a time: a proof that waits for the ones before it holds a thread of its own.
set_option Elab.async false

/-! ### The written list (R35) -/

/-- Distinct numbers below 64 are at most 64. -/
theorem length_le_of_nodup {l : List Nat} (hnd : l.Nodup) (hl : ∀ n ∈ l, n ≤ 63) : l.length ≤ 64 := by
  have hsub : l ⊆ List.range 64 := fun n hn => List.mem_range.mpr (Nat.lt_succ_of_le (hl n hn))
  simpa using (hnd.subperm hsub).length_le

theorem memberList_fits {l : List Nat} (hl : ∀ n ∈ l, n ≤ 63) (hnd : l.Nodup) :
    memberList l = some (allIx.filter fun i => decide (i.val ∈ l)) := by
  have hlt : (l.all fun n => n < 64) = true := List.all_eq_true.mpr fun n hn => decide_eq_true (Nat.lt_succ_of_le (hl n hn))
  rw [memberList, if_pos ⟨length_le_of_nodup hnd hl, hlt, hnd⟩]
  simp only [List.contains_eq_mem]

theorem memberList_none {l : List Nat} (h : ¬ ((∀ n ∈ l, n ≤ 63) ∧ l.Nodup)) : memberList l = none := by
  refine if_neg fun ⟨_, hlt, hnd⟩ => h ⟨fun n hn => ?_, hnd⟩
  have := of_decide_eq_true (List.all_eq_true.mp hlt n hn)
  omega

theorem setMembersBlock_badArg {a : SetMembersArgs} {s : State} (hfree : s.cfs.commit = none)
    (h : ¬ (a.group ≤ 15 ∧ (∀ n ∈ a.list, n ≤ 63) ∧ a.list.Nodup)) : setMembersBlock a s = (s, plain .badArg) := by
  rw [setMembersBlock, unlessCommitting_free hfree]
  split
  next g l hg hl =>
    refine absurd ⟨?_, ?_⟩ h
    · by_contra hno
      rw [inRange_none (by omega)] at hg
      cases hg
    · by_contra hno
      rw [memberList_none hno] at hl
      cases hl
  next => rfl

/-! ### The table, the leaves and the joins -/

section
variable (b : Vector (Option GroupNo) 64) (g : GroupNo) (l : List Nat)

/-- The group fields after a write of group `g`'s list, by the numbers written. -/
def membersTable : Vector (Option GroupNo) 64 :=
  Vector.ofFn fun i => if i.val ∈ l then some g else if vget b i = some g then none else vget b i

theorem writeMembers_eq : writeMembers b g (allIx.filter fun i => decide (i.val ∈ l)) = membersTable b g l := by
  unfold writeMembers membersTable
  congr 1
  funext i
  simp [mem_allIx]

variable (i : Ix)

theorem membersTable_get :
    vget (membersTable b g l) i = if i.val ∈ l then some g else if vget b i = some g then none else vget b i := by
  rw [membersTable, vget_ofFn]

theorem membersTable_group (h : GroupNo) :
    vget (membersTable b g l) i = some h ↔ if i.val ∈ l then g = h else vget b i = some h ∧ h ≠ g := by
  rw [membersTable_get]
  by_cases hl : i.val ∈ l
  · simp [hl]
  · by_cases hb : vget b i = some g
    · simp only [hl, hb, if_true, if_false]
      grind
    · simp only [hl, hb, if_false]
      grind

end

theorem mem_leavesOf {b v : Vector (Option GroupNo) 64} {x : Ix × GroupNo} :
    x ∈ leavesOf b v ↔ vget b x.1 = some x.2 ∧ vget v x.1 ≠ some x.2 := by
  unfold leavesOf
  rw [List.mem_filterMap]
  constructor
  · rintro ⟨i, -, hi⟩
    split at hi
    next h hb =>
      split at hi
      · cases hi
      next hv =>
        cases hi
        exact ⟨hb, hv⟩
    · cases hi
  · rintro ⟨hb, hv⟩
    refine ⟨x.1, mem_allIx _, ?_⟩
    simp only [hb, if_neg hv]

theorem leavesOf_fst_nodup (b v : Vector (Option GroupNo) 64) : ((leavesOf b v).map Prod.fst).Nodup := by
  have hsub : (leavesOf b v).Pairwise fun x y => x.1 ≠ y.1 := by
    unfold leavesOf
    refine List.Pairwise.filterMap _ (fun i j hij x hx y hy => ?_) (List.nodup_finRange 64)
    have key {k : Ix} {z : Ix × GroupNo} (hz : (match vget b k with
        | some h => if vget v k = some h then none else some (k, h)
        | none => none) = some z) : z.1 = k := by
      grind
    rw [key hx, key hy]
    exact hij
  exact List.pairwise_map.mpr hsub

theorem mem_joinsOf {b v : Vector (Option GroupNo) 64} {g : GroupNo} {i : Ix} :
    i ∈ joinsOf b v g ↔ vget v i = some g ∧ vget b i ≠ some g := by
  simp [joinsOf, mem_allIx]

theorem joinsOf_nodup (b v : Vector (Option GroupNo) 64) (g : GroupNo) : (joinsOf b v g).Nodup :=
  (List.nodup_finRange 64).filter _

/-! ### What the leaves and the joins make of the state -/

/-- The table is written, and the leaves and then the joins are handed on (R36). -/
def State.handOn (s : State) (g : GroupNo) (v : Vector (Option GroupNo) 64) : State :=
  (joinsOf s.stored.groupOf v g).foldl (State.joinGroup g)
    (((leavesOf s.stored.groupOf v).foldl State.leave (s.setGroupOf (withoutMovers s.stored.groupOf v))).setGroupOf v)

/-- A failing check of a member that joined group `g` has suspended it (R88, R161). -/
structure Halted (g : GroupNo) (s u : State) : Prop where
  policy : s.stored.policies.get .capability = ⟨.latched, .group⟩
  calls : (s.group g).Calls
  state : (u.group g).state = .suspended

/-- What a write of the group fields `v` for group `g` comes to; `mid` are the members' records between the leaves and the
joins. -/
structure HandedOn (g : GroupNo) (v : Vector (Option GroupNo) 64) (s u : State) (mid : Ix → Member) : Prop where
  stored : u.stored = { s.stored with groupOf := v }
  tref : u.tref = s.tref
  cfs : u.cfs = s.cfs
  polls : u.polls = s.polls
  groups : ∀ h, h ≠ g → (∀ x ∈ leavesOf s.stored.groupOf v, x.2 ≠ h) → u.group h = s.group h
  stayed : ∀ i, (∀ h, s.groupOf i = some h → vget v i = some h) → mid i = s.member i
  left : ∀ i h, s.groupOf i = some h → vget v i ≠ some h →
    s.stored.LeftAs i s.tref.e (s.group h).state.coordinating (s.member i) (mid i)
  outside : ∀ i, vget v i ≠ some g → u.member i = mid i
  within : Halted g s u
    ∨ (∀ i, s.groupOf i = some g → u.member i = mid i)
      ∧ ∀ i, vget v i = some g → s.groupOf i ≠ some g →
          s.stored.Joined i (s.group g) (s.tref.e + s.leadDs) (mid i) (u.member i)

theorem State.groupOf_setGroupOf (s : State) (v : Vector (Option GroupNo) 64) (i : Ix) :
    (s.setGroupOf v).groupOf i = vget v i := rfl

theorem State.told_setGroupOf (s : State) (v : Vector (Option GroupNo) 64) (ns : List Notice) :
    ((s.setGroupOf v).told ns).ports = (s.told ns).ports := by
  unfold State.told State.setGroupOf
  split <;> rfl

/-- A join reads nothing of the group fields. -/
theorem State.joined_setGroupOf {s : State} {v : Vector (Option GroupNo) 64} {i : Ix} {r : Group} {soon : Nat} {m m' : Member}
    (h : (s.setGroupOf v).stored.Joined i r soon m m') : s.stored.Joined i r soon m m' := ⟨h.idle, h.passing, h.failing⟩

/-- A leave reads nothing of the group fields but whom it leaves. -/
theorem State.leftAs_setGroupOf {s : State} {w : Vector (Option GroupNo) 64} {i : Ix} {e : Nat} {c : Bool} {m m' : Member}
    (h : (s.setGroupOf w).stored.LeftAs i e c m m') : s.stored.LeftAs i e c m m' :=
  ⟨h.capability, h.entry, h.freed, h.held, h.kept⟩

/-- The leaves, made while no mover has a group, and then the joins, made of the written table. -/
theorem Moves.handedOn {s u1 : State} (g : GroupNo) {v w : Vector (Option GroupNo) 64}
    (h1 : Moves (fun j => ∃ x ∈ leavesOf s.stored.groupOf v, x.1 = j) (fun h => ∃ x ∈ leavesOf s.stored.groupOf v, x.2 = h)
      (s.setGroupOf w) u1)
    (hleft : ∀ x ∈ leavesOf s.stored.groupOf v,
      s.stored.LeftAs x.1 s.tref.e (s.group x.2).state.coordinating (s.member x.1) (u1.member x.1)) :
    HandedOn g v s ((joinsOf s.stored.groupOf v g).foldl (State.joinGroup g) (u1.setGroupOf v)) u1.member
      ∧ ((joinsOf s.stored.groupOf v g).foldl (State.joinGroup g) (u1.setGroupOf v)).owed = s.owed
      ∧ ∃ ns : List Notice,
          ((joinsOf s.stored.groupOf v g).foldl (State.joinGroup g) (u1.setGroupOf v)).ports = (s.told ns).ports := by
  have hst : (u1.setGroupOf v).stored = { s.stored with groupOf := v } :=
    congrArg (fun t : Stored => { t with groupOf := v }) h1.works.stored_eq
  have htref : (u1.setGroupOf v).tref = s.tref := h1.works.tref_eq
  have hjoin := State.joins_outcome (s := u1.setGroupOf v) (joinsOf_nodup s.stored.groupOf v g) fun i hi =>
    (u1.groupOf_setGroupOf v i).trans (mem_joinsOf.mp hi).1
  generalize (joinsOf s.stored.groupOf v g).foldl (State.joinGroup g) (u1.setGroupOf v) = u at hjoin
  have h2 : Coordinated (u1.setGroupOf v) u := hjoin.elim Halts.toCoordinated fun h => h.1.toCoordinated
  have hg : ∀ h, h ≠ g → u.group h = u1.group h := fun h hh =>
    hjoin.elim (fun hj => hj.others h hh) fun hj => hj.1.others h hh
  obtain ⟨a, ha⟩ := h1.ports
  obtain ⟨c, hc⟩ := h2.ports
  refine ⟨⟨h2.works.stored_eq.trans hst, h2.works.tref_eq.trans htref, h2.works.cfs_eq.trans h1.works.cfs_eq,
    h2.polls.trans h1.polls,
    fun h hh hno => ?_, fun i hi => ?_, fun i h hi hv => ?_, fun i hv => ?_, ?_⟩,
    h2.works.owed_eq.trans h1.works.owed_eq, a ++ c, ?_⟩
  · rw [hg h hh]
    exact h1.others h fun ⟨x, hx, he⟩ => hno x hx he
  · refine h1.members i fun ⟨x, hx, he⟩ => ?_
    obtain ⟨hb, hv⟩ := mem_leavesOf.mp hx
    exact hv (he ▸ hi x.2 (he ▸ hb))
  · exact hleft (i, h) (mem_leavesOf.mpr ⟨hi, hv⟩)
  · rcases hjoin with hj | ⟨hj, -⟩
    · exact hj.members i hv
    · exact hj.members i fun h => hv (mem_joinsOf.mp h).1
  · refine hjoin.imp (fun hj => ?_) fun ⟨hm, hj⟩ => ⟨fun i hi => ?_, fun i hv hi => ?_⟩
    · have hpol := hj.policy
      rw [hst] at hpol
      exact ⟨hpol, (h1.groups g).calls_iff.mp hj.calls, hj.state⟩
    · exact hm.members i fun h => (mem_joinsOf.mp h).2 hi
    · have hj' := hj i (mem_joinsOf.mpr ⟨hv, hi⟩)
      have hlead : (u1.setGroupOf v).leadDs = s.leadDs := by rw [State.leadDs, hst]; rfl
      rw [hlead, htref] at hj'
      have hsame : u1.stored.Joined i (u1.group g) _ _ _ := State.joined_setGroupOf hj'
      rw [h1.works.stored_eq] at hsame
      exact Stored.Joined.congr (h1.groups g) (State.joined_setGroupOf hsame)
  · rw [State.told_setGroupOf] at ha
    exact State.told_ports_trans (s := s) (t := u1.setGroupOf v) h1.works.phase_eq ha hc

theorem State.leaves_setGroupOf {l : List (Ix × GroupNo)} (hnd : (l.map Prod.fst).Nodup) (s : State)
    (w : Vector (Option GroupNo) 64) :
    Moves (fun j => ∃ x ∈ l, x.1 = j) (fun h => ∃ x ∈ l, x.2 = h) (s.setGroupOf w) (l.foldl State.leave (s.setGroupOf w))
      ∧ ∀ x ∈ l, s.stored.LeftAs x.1 s.tref.e (s.group x.2).state.coordinating (s.member x.1)
          ((l.foldl State.leave (s.setGroupOf w)).member x.1) :=
  have h := State.leaves_outcome hnd (s.setGroupOf w)
  ⟨h.1, fun x hx => State.leftAs_setGroupOf (h.2 x hx)⟩

theorem State.handOn_handedOn (s : State) (g : GroupNo) (v : Vector (Option GroupNo) 64) :
    ∃ mid, HandedOn g v s (s.handOn g v) mid ∧ (s.handOn g v).owed = s.owed
      ∧ ∃ ns : List Notice, (s.handOn g v).ports = (s.told ns).ports := by
  have hleaves := State.leaves_setGroupOf (leavesOf_fst_nodup s.stored.groupOf v) s (withoutMovers s.stored.groupOf v)
  exact ⟨_, hleaves.1.handedOn g hleaves.2⟩

/-- The port that hands the request over, the evaluations owed and the closing of the command have no part in it. -/
theorem HandedOn.closed {s u t : State} {f : RequestFrame} {rq : Request} {g : GroupNo} {v : Vector (Option GroupNo) 64}
    {mid : Ix → Member} (h : HandedOn g v (s.handedOver f rq) u mid) (hstored : t.stored = u.stored) (htref : t.tref = u.tref)
    (hcfs : t.cfs = u.cfs) (hpolls : t.polls = u.polls) (hgroups : t.groups = u.groups) (hmembers : t.members = u.members) :
    HandedOn g v s t mid := by
  have hg : ∀ k, t.group k = u.group k := fun k => congrArg (vget · k) hgroups
  have hm : ∀ i, t.member i = u.member i := fun i => congrArg (vget · i) hmembers
  refine ⟨hstored.trans h.stored, htref.trans h.tref, hcfs.trans h.cfs, hpolls.trans h.polls,
    fun k hk hno => (hg k).trans (h.groups k hk hno), h.stayed, h.left, fun i hi => (hm i).trans (h.outside i hi), ?_⟩
  simp only [hm]
  exact h.within.imp_left fun ⟨hpol, hcalls, hst⟩ => ⟨hpol, hcalls, (congrArg Group.state (hg g)).trans hst⟩

section
variable {s u : State} {g : GroupNo} {v : Vector (Option GroupNo) 64} {mid : Ix → Member} (h : HandedOn g v s u mid) {i : Ix}
include h

/-- The write of the group fields leaves the maps alone. -/
theorem HandedOn.released {tm : Nat} (hrel : s.stored.Released i (u.member i) tm) : u.Released i tm := by
  rw [State.released_iff, h.stored]
  exact hrel

/-- The write of the group fields leaves the plans and offsets alone. -/
theorem HandedOn.ordered {plan tm : Nat} (hord : s.stored.Ordered i (u.member i) plan tm) : u.Ordered i plan tm := by
  rw [State.ordered_iff, h.stored]
  exact hord

end

end Sys2Proof.Machine
end

section
/-! SUPPORT. The reply of SET_MEMBERS, its owed evaluations, and the reply of a request whose block also offers notices. -/

namespace Sys2Proof.Machine

-- One theorem at a time: a proof that waits for the ones before it holds a thread of its own.
set_option Elab.async false

/-! ### A reply beside notices (R172, R173) -/

theorem PortState.copies_service (p : PortState) (ns : List Notice) : (p.copies ns).service = p.service := by
  unfold PortState.copies
  induction ns generalizing p with
  | nil => rfl
  | cons n ns ih =>
    rw [List.foldl_cons, ih]
    unfold PortState.copy
    split
    · split <;> rfl
    · rfl

/-- The outcome given to a port that serves a request waits there, or is being sent once the transmitter is free. -/
theorem PortState.giveReply_pump {p : PortState} {tag : BitVec 16} {rq : Request} (h : p.service = some ⟨tag, rq, none⟩)
    (st : Status) (items : List Item) :
    (p.giveReply (st, items)).pump.service.map (·.tag) = some tag
      ∧ ((p.giveReply (st, items)).pump.service.bind (·.reply) = some ⟨tag, rq.code, st, items⟩
          ∨ (p.giveReply (st, items)).pump.tx = some (.served ⟨tag, rq.code, st, items⟩)) := by
  simp only [PortState.giveReply, h]
  unfold PortState.pump
  cases htx : p.tx with
  | some x => exact ⟨rfl, .inl rfl⟩
  | none => exact ⟨rfl, .inr rfl⟩

theorem State.settle_port (s : State) (p : Port) : s.settle.port p = (s.port p).pump := by
  rw [State.port, State.settle_ports]
  cases p <;> rfl

theorem State.told_port {s : State} (h : s.phase = .running) (ns : List Notice) (p : Port) :
    (s.told ns).port p = (s.port p).copies ns := by
  rw [State.told_running h]
  cases p <;> rfl

/-- A block that leaves the ports with notices alone has its outcome carried by the port of the request. -/
theorem State.hasReply {s u : State} {f : RequestFrame} {rq : Request} {ns : List Notice} (h : s.Serves f)
    (hu : u.ports = ((s.handedOver f rq).told ns).ports) (st : Status) (items : List Item) :
    (u.modPort f.port (·.giveReply (st, items))).settle.HasReply f rq st items := by
  obtain ⟨hrun, -⟩ := h
  have hport : (u.port f.port).service = some ⟨f.tag, rq, none⟩ := by
    have : u.port f.port = ((s.handedOver f rq).told ns).port f.port := congrArg (fun v => PerPort.get v f.port) hu
    rw [this, State.told_port (by exact hrun), PortState.copies_service, State.handedOver, State.port_modPort_self]
  unfold State.HasReply
  rw [State.settle_port, State.port_modPort_self]
  exact PortState.giveReply_pump hport st items

/-! ### The reply and the owed evaluations of SET_MEMBERS (R35, R36) -/

/-- One evaluation is owed to each group of a list, in its order. -/
def State.oweAll (s : State) (l : List GroupNo) : State := { s with owed := s.owed ++ l.map fun h => ⟨oneGroup h⟩ }

theorem State.owes_eq (l : List GroupNo) (s : State) : l.foldl (fun s h => s.owe (oneGroup h)) s = s.oweAll l := by
  unfold State.oweAll
  induction l generalizing s with
  | nil => simp
  | cons g l ih =>
    rw [List.foldl_cons, ih]
    simp [State.owe]

section
variable (b : Vector (Option GroupNo) 64) (g : GroupNo) (l : List Nat)

/-- The intersections that a written list takes from other groups, with those groups. -/
def membersTaken : List (Ix × GroupNo) :=
  allIx.filterMap fun i =>
    match vget b i with
    | some h => if i.val ∈ l ∧ h ≠ g then some (i, h) else none
    | none => none

/-- The intersections of the group's former list that the written one leaves out. -/
def membersGone : List Ix := allIx.filter fun i => decide (vget b i = some g ∧ i.val ∉ l)

theorem leavesOf_taken : ((leavesOf b (membersTable b g l)).filter fun x => x.2 ≠ g) = membersTaken b g l := by
  unfold leavesOf membersTaken
  rw [List.filter_filterMap]
  refine List.filterMap_congr fun i _ => ?_
  have hv := membersTable_group b g l i
  cases hb : vget b i with
  | none => rfl
  | some h =>
    simp only [hb, hv h]
    grind

theorem leavesOf_gone :
    (((leavesOf b (membersTable b g l)).filter fun x => x.2 = g).map Prod.fst) = membersGone b g l := by
  unfold leavesOf membersGone
  rw [List.filter_filterMap, List.map_filterMap, ← List.filterMap_eq_filter]
  refine List.filterMap_congr fun i _ => ?_
  have hv := membersTable_group b g l i
  cases hb : vget b i with
  | none => simp [Option.guard, hb]
  | some h =>
    simp only [hb, hv h]
    grind

/-- What SET_MEMBERS carries: the list, the intersections taken with their former groups, and those that have none now. -/
def membersReply : List Item :=
  let list := allIx.filter fun i => decide (i.val ∈ l)
  (.n1 list.length :: list.map fun i => .n1 i.val)
    ++ (.n1 (membersTaken b g l).length :: (membersTaken b g l).flatMap fun x => [.n1 x.1.val, .n1 x.2.val])
    ++ (.n1 (membersGone b g l).length :: (membersGone b g l).map fun i => .n1 i.val)

/-- The groups that lose a member to the written list. -/
def membersLosers : List GroupNo := allGroups.filter fun h => decide (∃ x ∈ membersTaken b g l, x.2 = h)

end

theorem leavesOf_losers (b : Vector (Option GroupNo) 64) (g : GroupNo) (l : List Nat) :
    (allGroups.filter fun h => (membersTaken b g l).any fun x => x.2 = h) = membersLosers b g l := by
  unfold membersLosers
  refine List.filter_congr fun h _ => ?_
  rw [Bool.eq_iff_iff, List.any_eq_true, decide_eq_true_eq]
  simp only [decide_eq_true_eq]

theorem membersReply_eq (b : Vector (Option GroupNo) 64) (g : GroupNo) (l : List Nat) :
    listItem (allIx.filter fun i => decide (i.val ∈ l)) (fun i => [Item.n1 i.val])
        ++ listItem (membersTaken b g l) (fun x => [.n1 x.1.val, .n1 x.2.val])
        ++ listItem ((leavesOf b (membersTable b g l)).filter fun x => x.2 = g) (fun x => [.n1 x.1.val])
      = membersReply b g l := by
  have hgone (k : List (Ix × GroupNo)) : listItem k (fun x => [Item.n1 x.1.val])
      = .n1 (k.map Prod.fst).length :: (k.map Prod.fst).map fun i => .n1 i.val := by
    rw [listItem, flatMap_single, List.length_map, List.map_map]
    rfl
  rw [hgone, leavesOf_gone]
  simp only [listItem, flatMap_single, membersReply]

theorem setMembersBlock_written {a : SetMembersArgs} {s : State} {g : GroupNo} (hfree : s.cfs.commit = none)
    (hg : a.group = g.val) (hl : ∀ n ∈ a.list, n ≤ 63) (hnd : a.list.Nodup) :
    setMembersBlock a s
      = if membersTable s.stored.groupOf g a.list = s.stored.groupOf then (s, (.ok, membersReply s.stored.groupOf g a.list))
        else
          ((s.handOn g (membersTable s.stored.groupOf g a.list)).oweAll (g :: membersLosers s.stored.groupOf g a.list),
            (.ok, membersReply s.stored.groupOf g a.list)) := by
  have howes (u : State) (k : List GroupNo) :
      k.foldl (fun s h => s.owe (oneGroup h)) (u.owe (oneGroup g)) = u.oweAll (g :: k) := State.owes_eq (g :: k) u
  rw [setMembersBlock, unlessCommitting_free hfree, hg, inRange_val, memberList_fits hl hnd]
  simp only [writeMembers_eq, leavesOf_taken, leavesOf_losers, membersReply_eq, howes, State.handOn]

end Sys2Proof.Machine
end

section
/-! SUPPORT. What SET_MEMBERS comes to for one intersection: of no concern, left out of the list, kept in it, or new to it. -/

namespace Sys2Proof.Machine

-- One theorem at a time: a proof that waits for the ones before it holds a thread of its own.
set_option Elab.async false

/-! ### A leave followed by a join (R85, R86) -/

theorem Group.not_calls {r : Group} (h : r.state = .free ∨ r.state = .suspended ∨ (r.state = .pending ∧ r.target = 0)) :
    ¬ r.Calls := by
  rcases h with h | h | ⟨h, ht⟩ <;> simp [Group.Calls, *]

/-- The switch time of a member that joins a group which orders it (R86). -/
theorem Group.calls_at {r : Group} {soon tm : Nat}
    (h : (r.state = .pending ∧ r.target ≠ 0 ∧ ∃ ts, r.ts = some ts ∧ tm = max ts soon)
      ∨ ((r.state = .transition ∨ r.state = .steady) ∧ tm = soon)) : r.Calls ∧ r.joinTm soon = tm := by
  rcases h with ⟨hp, ht, ts, hts, rfl⟩ | ⟨hr, rfl⟩
  · exact ⟨.inl ⟨hp, ht⟩, by simp [Group.joinTm, hp, hts]⟩
  · refine ⟨.inr hr, if_neg fun hp => ?_⟩
    simp [hp] at hr

section
variable {t : Stored} {i : Ix} {e soon : Nat} {c : Bool} {r : Group} {m n m' : Member}

/-- A leave that finds a FREE member, or frees it, leaves it FREE. -/
theorem Stored.LeftAs.state_free (hl : t.LeftAs i e c m n) (h : m.state = .free ∨ (c && m.freedAtLeave) = true) :
    n.state = .free := by
  cases c with
  | false => rw [hl.kept (.inl rfl), h.resolve_right (by simp)]
  | true =>
    have hfreed : m.freedAtLeave = true := by
      rcases h with h | h
      · simp [Member.freedAtLeave, h, MemberState.taken]
      · simpa using h
    exact (hl.freed rfl hfreed).1

namespace Stored.Joined

variable (hl : t.LeftAs i e c m n) (hj : t.Joined i r soon n m')
include hl hj

theorem out_of_service (h : m.state = .unknown ∨ m.state = .latched ∨ m.state = .offline ∨ (c = false ∧ m.state ≠ .free)) :
    m' = m := by
  have hn : n = m := hl.kept (by tauto)
  have hfree : m.state ≠ .free := by
    rcases h with h | h | h | ⟨-, h⟩
    · simp [h]
    · simp [h]
    · simp [h]
    · exact h
  rw [← hn] at hfree ⊢
  exact hj.idle (.inl hfree)

theorem still_held (hc : c = true) (hx : m.state = .excluded) (hheld : m.heldReleased = true) :
    m'.state = .excluded ∧ t.Released i m' e := by
  obtain ⟨hst, hrel⟩ := hl.held hc hx hheld
  rw [hj.idle (.inl (by simp [hst]))]
  exact ⟨hst, hrel⟩

theorem uncalled (h : ¬ r.Calls) :
    ((c && m.freedAtLeave) = true → m'.state = .free ∧ t.Released i m' e) ∧ (c = false → m' = m) := by
  rw [hj.idle (.inr h)]
  refine ⟨fun hf => ?_, fun hc => hl.kept (.inl hc)⟩
  obtain ⟨hc, hfreed⟩ := Bool.and_eq_true_iff.mp hf
  exact hl.freed hc hfreed

theorem called (h : m.state = .free ∨ (c && m.freedAtLeave) = true) (hcalls : r.Calls) :
    (t.activation m r.target = true → t.Ordered i m' r.target (r.joinTm soon))
      ∧ (t.activation m r.target = false → m.FailedFrom (t.policies.get .capability).policy m') := by
  have hfree := hl.state_free h
  rw [← Stored.activation_congr t r.target hl.capability]
  refine ⟨hj.passing hfree hcalls, fun hact => ?_⟩
  have hfail := hj.failing hfree hcalls hact
  unfold Member.FailedFrom at hfail ⊢
  rwa [hl.entry] at hfail

end Stored.Joined

end

/-! ### The four kinds of intersection -/

/-- Whether an intersection that the written list concerns leaves a coordinating group. -/
def State.leavesBy (s : State) (g : GroupNo) (l : List Nat) (i : Ix) : Bool :=
  (s.groupOf i).any fun h => (i.val ∉ l || decide (h ≠ g)) && (s.group h).state.coordinating

namespace HandedOn

variable {s u : State} {g : GroupNo} {l : List Nat} {mid : Ix → Member} {i : Ix}
variable (h : HandedOn g (membersTable s.stored.groupOf g l) s u mid)
include h

theorem unconcerned (hl : i.val ∉ l) (hg : s.groupOf i ≠ some g) : u.member i = s.member i := by
  have hv : ∀ k, vget (membersTable s.stored.groupOf g l) i = some k ↔ s.groupOf i = some k ∧ k ≠ g := fun k => by
    rw [membersTable_group, if_neg hl]
    rfl
  rw [h.outside i (by simp [hv]), h.stayed i fun k hk => (hv k).mpr ⟨hk, fun hkg => hg (hkg ▸ hk)⟩]

theorem gone (hl : i.val ∉ l) (hg : s.groupOf i = some g) :
    s.stored.LeftAs i s.tref.e (s.leavesBy g l i) (s.member i) (u.member i) := by
  have hv : vget (membersTable s.stored.groupOf g l) i ≠ some g := by
    rw [Ne, membersTable_group, if_neg hl]
    simp
  have hleaves : s.leavesBy g l i = (s.group g).state.coordinating := by simp [State.leavesBy, hg, hl]
  rw [h.outside i hv, hleaves]
  exact h.left i g hg hv

theorem keeps (hl : i.val ∈ l) (hg : s.groupOf i = some g) : Halted g s u ∨ u.member i = s.member i := by
  have hv : vget (membersTable s.stored.groupOf g l) i = some g := by
    rw [membersTable_group, if_pos hl]
  refine h.within.imp_right fun ⟨hstay, _⟩ => ?_
  rw [hstay i hg, h.stayed i fun k hk => by rw [hv, ← hg, hk]]

theorem arrives (hl : i.val ∈ l) (hg : s.groupOf i ≠ some g) :
    s.stored.LeftAs i s.tref.e (s.leavesBy g l i) (s.member i) (mid i)
      ∧ (Halted g s u ∨ s.stored.Joined i (s.group g) (s.tref.e + s.leadDs) (mid i) (u.member i)) := by
  have hv : vget (membersTable s.stored.groupOf g l) i = some g := by
    rw [membersTable_group, if_pos hl]
  refine ⟨?_, h.within.imp_right fun ⟨_, hjoin⟩ => hjoin i hv hg⟩
  cases hi : s.groupOf i with
  | none =>
    have hleaves : s.leavesBy g l i = false := by simp [State.leavesBy, hi]
    rw [hleaves, h.stayed i fun k hk => by simp [hi] at hk]
    exact ⟨rfl, rfl, fun hc => absurd hc Bool.false_ne_true, fun hc => absurd hc Bool.false_ne_true, fun _ => rfl⟩
  | some k =>
    have hk : k ≠ g := fun hk => hg (hk ▸ hi)
    have hleaves : s.leavesBy g l i = (s.group k).state.coordinating := by simp [State.leavesBy, hi, hk]
    rw [hleaves]
    exact h.left i k hi (by simp [hv, Ne.symm hk])

theorem others {k : GroupNo} (hk : k ≠ g) (hno : ∀ x ∈ membersTaken s.stored.groupOf g l, x.2 ≠ k) :
    u.group k = s.group k := by
  refine h.groups k hk fun x hx hxk => hno x ?_ hxk
  rw [← leavesOf_taken]
  exact List.mem_filter.mpr ⟨hx, decide_eq_true (hxk ▸ hk)⟩

end HandedOn

/-! ### The request -/

/-- A SET_MEMBERS that writes the table as it is (log entry 21). -/
theorem State.setMembersBlock_same {s : State} {f : RequestFrame} {a : SetMembersArgs} {g : GroupNo}
    (hcommit : s.cfs.commit = none) (hg : a.group = g.val) (hl : ∀ n ∈ a.list, n ≤ 63) (hnd : a.list.Nodup)
    (hsame : membersTable s.stored.groupOf g a.list = s.stored.groupOf) :
    setMembersBlock a (s.handedOver f .setMembers)
      = (s.handedOver f .setMembers, (.ok, membersReply s.stored.groupOf g a.list)) := by
  have hst : (s.handedOver f .setMembers).stored = s.stored := State.modPort_stored _ _ _
  rw [setMembersBlock_written (State.handedOver_free hcommit f .setMembers) hg hl hnd, hst, if_pos hsame]

/-- A SET_MEMBERS that changes the table, from its hand-over to the closing of the command. -/
theorem State.setMembers_changed {s : State} {f : RequestFrame} {a : SetMembersArgs} {g : GroupNo} (hs : s.Serves f)
    (hr : Request.setMembers.allowed f.port = true) (hcommit : s.cfs.commit = none) (hg : a.group = g.val)
    (hl : ∀ n ∈ a.list, n ≤ 63) (hnd : a.list.Nodup) (hchange : membersTable s.stored.groupOf g a.list ≠ s.stored.groupOf) :
    ∃ t mid, (s.request f .setMembers (some a) (answering setMembersBlock)).settle = t
      ∧ HandedOn g (membersTable s.stored.groupOf g a.list) s t mid
      ∧ t.owed = s.owed ++ (g :: membersLosers s.stored.groupOf g a.list).map (fun h => ⟨oneGroup h⟩)
      ∧ t.HasReply f .setMembers .ok (membersReply s.stored.groupOf g a.list) := by
  have hst : (s.handedOver f .setMembers).stored = s.stored := State.modPort_stored _ _ _
  have howed : (s.handedOver f .setMembers).owed = s.owed := State.modPort_owed _ _ _
  have hblock := setMembersBlock_written (State.handedOver_free hcommit f .setMembers) hg hl hnd
  rw [hst, if_neg hchange] at hblock
  obtain ⟨mid, h, hu, ns, hports⟩ := (s.handedOver f .setMembers).handOn_handedOn g (membersTable s.stored.groupOf g a.list)
  rw [State.request_served s f _ a _ hs hr, hblock]
  generalize (s.handedOver f .setMembers).handOn g (membersTable s.stored.groupOf g a.list) = u at h hu hports
  refine ⟨_, mid, rfl, h.closed ?_ ?_ ?_ ?_ ?_ ?_, ?_, State.hasReply (ns := ns) hs ?_ _ _⟩
  · exact (State.settle_stored _).trans (State.modPort_stored _ _ _)
  · exact (State.settle_tref _).trans (State.modPort_tref _ _ _)
  · exact (State.settle_cfs _).trans (State.modPort_cfs _ _ _)
  · exact (State.settle_polls _).trans (State.modPort_polls _ _ _)
  · exact (State.settle_groups _).trans (State.modPort_groups _ _ _)
  · exact (State.settle_members _).trans (State.modPort_members _ _ _)
  · rw [State.settle_owed, State.modPort_owed, State.oweAll, hu, howed]
  · exact hports

end Sys2Proof.Machine
end

section
open Sys2Proof Sys2Proof.Machine

-- One theorem at a time: a proof that waits for the ones before it holds a thread of its own.
set_option Elab.async false

/-- Settles O28: the block hands on the leaves and then the joins (`HandedOn`), and each intersection is of no concern to the
written list, left out of it, kept in it, or new to it. -/
theorem setMembersWritesTheTable : Obligations.SetMembersWritesTheTable := by
  unfold Obligations.SetMembersWritesTheTable
  intro s f a hs hn hport ha hcommit fits
  have hr : Request.setMembers.allowed f.port = true := decide_eq_true hport
  have hfree := State.handedOver_free hcommit f .setMembers
  have hexec : exec (.setMembers f) s = .next (s.request f .setMembers (some a) (answering setMembersBlock)).settle := by
    simp only [exec, execSetMembers, ha]
  have answered {st : Status} {items : List Item}
      (hb : setMembersBlock a (s.handedOver f .setMembers) = (s.handedOver f .setMembers, (st, items))) :
      exec (.setMembers f) s = .next (s.answered f .setMembers [] st items) :=
    hexec.trans (congrArg Host.Outcome.next (State.request_read hs hr hn hb))
  refine ⟨fun hbad => answered (setMembersBlock_badArg hfree hbad), ?_⟩
  rintro g ⟨-, hl, hnd⟩ hg table list taken gone reply
  have htable : table = membersTable s.stored.groupOf g a.list := rfl
  have htaken : taken = membersTaken s.stored.groupOf g a.list := rfl
  have hreply : reply = membersReply s.stored.groupOf g a.list := rfl
  clear_value reply gone taken list table
  subst htable htaken hreply
  refine ⟨fun hsame => answered (State.setMembersBlock_same hcommit hg hl hnd hsame), fun hchange => ?_⟩
  obtain ⟨t, mid, ht, h, howed, hreply⟩ := State.setMembers_changed hs hr hcommit hg hl hnd hchange
  refine ⟨t, hexec.trans (congrArg Host.Outcome.next ht), h.stored, h.tref, h.cfs, h.polls, hreply, ?_,
    fun k hk hno => h.others hk hno, fun i => ?_⟩
  · rw [howed, List.map_cons, List.append_assoc]
    rfl
  intro m m' pair suspended leaves heldStill freed
  have halted (hh : Halted g s t) : suspended := ⟨hh.policy, hh.calls.not_suspended, hh.state⟩
  refine ⟨h.unconcerned, fun hi hin => ?_, fun hi hin => (h.keeps hin hi).imp_left halted, fun hi hin => ?_⟩
  · have hleft : s.stored.LeftAs i s.tref.e leaves m m' := h.gone hin hi
    refine ⟨fun hf => ?_, fun hc hx hheld => ?_, fun hk => hleft.kept hk⟩
    · obtain ⟨hc, hfreed⟩ := Bool.and_eq_true_iff.mp hf
      exact (hleft.freed hc hfreed).imp_right h.released
    · exact (hleft.held hc hx hheld).imp_right h.released
  · intro plan soon old
    have hleft : s.stored.LeftAs i s.tref.e leaves m (mid i) := (h.arrives hin hi).1
    have hjoined : suspended ∨ s.stored.Joined i (s.group g) soon (mid i) m' := (h.arrives hin hi).2.imp_left halted
    refine ⟨fun hout => hjoined.imp_right fun hj => hj.out_of_service hleft hout, fun hc hx hheld => ?_, fun hidle => ?_,
      fun tm hm hcall => ?_⟩
    · exact hjoined.imp_right fun hj => (hj.still_held hleft hc hx hheld).imp_right h.released
    · have hno : ¬ Halted g s t := fun hh => Group.not_calls hidle hh.calls
      have hj := (h.arrives hin hi).2.resolve_left hno
      obtain ⟨hfreed, hkept⟩ := hj.uncalled hleft (Group.not_calls hidle)
      exact ⟨fun hf => (hfreed hf).imp_right h.released, hkept⟩
    · obtain ⟨hcalls, rfl⟩ := Group.calls_at hcall
      refine ⟨fun hact => ?_, fun hact => ?_⟩
      · exact hjoined.imp_right fun hj => h.ordered ((hj.called hleft hm hcalls).1 hact)
      · exact hjoined.imp_right fun hj => (hj.called hleft hm hcalls).2 hact

end

section
/-! SUPPORT. The instants of recurring entries (R39): the search back from the day of E stops at the latest occurrence, and the days
of a mask come round every seven days. -/

namespace Sys2Proof.Machine

-- One theorem at a time: a proof that waits for the ones before it holds a thread of its own.
set_option Elab.async false

/-- A recurring entry starts on day `d`, at or before E. -/
def OccursBy (days : BitVec 7) (minute e d : Nat) : Prop :=
  days.getLsbD (d % 7) = true ∧ startInstant d minute ≤ e

theorem startInstant_le {d d' : Nat} (h : d ≤ d') (minute : Nat) : startInstant d minute ≤ startInstant d' minute := by
  simp only [startInstant]
  omega

/-- The search finds the first of its days on which the entry starts by E: it is not after the day of E, and no later day of the
search has a start. -/
theorem occurrenceFrom_some {days : BitVec 7} {minute e k n o : Nat} (h : occurrenceFrom days minute e k n = some o) :
    ∃ j, k ≤ j ∧ j < k + n ∧ j ≤ e / 864000 ∧ OccursBy days minute e (e / 864000 - j)
      ∧ o = startInstant (e / 864000 - j) minute
      ∧ ∀ i, k ≤ i → i < j → ¬ OccursBy days minute e (e / 864000 - i) := by
  induction n generalizing k with
  | zero => cases h
  | succ n ih =>
    simp only [occurrenceFrom] at h
    split at h
    next hk =>
      obtain ⟨hle, hday, hby⟩ := hk
      exact ⟨k, le_refl k, by omega, hle, ⟨hday, hby⟩, (Option.some.inj h).symm, fun i hi hik => by omega⟩
    next hk =>
      obtain ⟨j, hkj, hjn, hj, hocc, ho, hlater⟩ := ih h
      refine ⟨j, by omega, by omega, hj, hocc, ho, fun i hi hij => ?_⟩
      rcases Nat.eq_or_lt_of_le hi with rfl | hi
      · exact fun hocc => hk ⟨by omega, hocc⟩
      · exact hlater i hi hij

/-- A search that finds nothing has passed over no start by E. -/
theorem occurrenceFrom_none {days : BitVec 7} {minute e k n : Nat} (h : occurrenceFrom days minute e k n = none) :
    ∀ j, k ≤ j → j < k + n → j ≤ e / 864000 → ¬ OccursBy days minute e (e / 864000 - j) := by
  induction n generalizing k with
  | zero => exact fun j hk hj => by omega
  | succ n ih =>
    simp only [occurrenceFrom] at h
    split at h
    next => cases h
    next hk =>
      intro j hkj hj hle
      rcases Nat.eq_or_lt_of_le hkj with rfl | hlt
      · exact fun hocc => hk ⟨hle, hocc⟩
      · exact ih h j hlt (by omega) hle

/-- Every start by E has one at or after it within the seven days up to E. -/
theorem OccursBy.recent {days : BitVec 7} {minute e d : Nat} (hm : minute ≤ 1439) (h : OccursBy days minute e d) :
    ∃ j, j < 8 ∧ j ≤ e / 864000 ∧ d ≤ e / 864000 - j ∧ OccursBy days minute e (e / 864000 - j) := by
  obtain ⟨hday, hby⟩ := h
  have hd : d ≤ e / 864000 := by
    simp only [startInstant] at hby
    omega
  by_cases hnear : e / 864000 < d + 8
  · refine ⟨e / 864000 - d, by omega, by omega, by omega, ?_⟩
    rw [Nat.sub_sub_self hd]
    exact ⟨hday, hby⟩
  · refine ⟨(e / 864000 - d - 1) % 7 + 1, by omega, by omega, by omega, ?_, ?_⟩
    · rwa [show (e / 864000 - ((e / 864000 - d - 1) % 7 + 1)) % 7 = d % 7 by omega]
    · simp only [startInstant]
      omega

end Sys2Proof.Machine

section
open Sys2Proof Sys2Proof.Machine

/-- Settles O24: the search finds the last start of the seven days up to E, and an earlier start has a later one there
(`OccursBy.recent`). -/
theorem latestOccurrenceIsTheGreatest : Obligations.LatestOccurrenceIsTheGreatest := by
  unfold Obligations.LatestOccurrenceIsTheGreatest
  intro days minute e hm he occurrence
  have hocc {o : Nat} (h : occurrence o) (hle : o ≤ e) : ∃ d, OccursBy days minute e d ∧ o = startInstant d minute := by
    obtain ⟨d, -, hday, rfl⟩ := h
    exact ⟨d, ⟨hday, hle⟩, rfl⟩
  refine ⟨fun o ho => ?_, fun hnone o ho => ?_⟩
  · obtain ⟨j, -, hj8, hj, hby, rfl, hlater⟩ := occurrenceFrom_some ho
    refine ⟨⟨e / 864000 - j, by omega, hby.1, rfl⟩, hby.2, ?_, fun o' ho' hle => ?_⟩
    · by_contra hfar
      have hj7 : j = 7 := by
        simp only [startInstant] at hfar
        omega
      refine hlater 0 (le_refl 0) (by omega) ⟨?_, ?_⟩
      · rw [show (e / 864000 - 0) % 7 = (e / 864000 - j) % 7 by omega]
        exact hby.1
      · simp only [startInstant] at hfar ⊢
        omega
    · obtain ⟨d, hd, rfl⟩ := hocc ho' hle
      obtain ⟨i, -, hi, hdi, hbi⟩ := hd.recent hm
      have hji : j ≤ i := by
        by_contra hlt
        exact hlater i (Nat.zero_le i) (Nat.lt_of_not_le hlt) hbi
      exact startInstant_le (by omega) minute
  · by_contra hle
    obtain ⟨d, hd, -⟩ := hocc ho (Nat.le_of_not_lt hle)
    obtain ⟨i, hi8, hi, -, hbi⟩ := hd.recent hm
    exact occurrenceFrom_none hnone i (Nat.zero_le i) (by omega) hi hbi

end
end

section
/-! SUPPORT. The governing entry (R51, R52): the orders by which entries compete, and the first of a list by such an order. -/

namespace Sys2Proof.Machine

-- One theorem at a time: a proof that waits for the ones before it holds a thread of its own.
set_option Elab.async false

/-- No two entries beat each other, and what does not beat an entry that does not beat a third does not beat the third. -/
structure Ranks (beats : Entry → Entry → Bool) : Prop where
  asymm : ∀ {x y : Entry}, beats x y = true → beats y x = false
  trans : ∀ {x y z : Entry}, beats x y = false → beats y z = false → beats x z = false

theorem Ranks.irrefl {beats : Entry → Entry → Bool} (h : Ranks beats) (x : Entry) : beats x x = false := by
  cases hx : beats x x with
  | false => rfl
  | true => exact hx.symm.trans (h.asymm hx)

/-- The best entry of a list is one of it that no other beats. -/
theorem bestEntry_spec {beats : Entry → Entry → Bool} (hr : Ranks beats) {l : List Entry} {w : Entry}
    (h : bestEntry beats l = some w) : w ∈ l ∧ ∀ y ∈ l, beats y w = false := by
  induction l generalizing w with
  | nil => cases h
  | cons x rest ih =>
    unfold bestEntry at h
    split at h
    next y hy =>
      obtain ⟨hmem, hbest⟩ := ih hy
      split at h
      next hbeats =>
        cases h
        exact ⟨.tail _ hmem, List.forall_mem_cons.mpr ⟨hr.asymm hbeats, hbest⟩⟩
      next hbeats =>
        cases h
        exact ⟨.head _, List.forall_mem_cons.mpr
          ⟨hr.irrefl _, fun z hz => hr.trans (hbest z hz) (Bool.eq_false_iff.mpr hbeats)⟩⟩
    next hnone =>
      cases h
      have hrest : rest = [] := by
        cases rest with
        | nil => rfl
        | cons z rest =>
          unfold bestEntry at hnone
          split at hnone
          · split at hnone <;> cases hnone
          · cases hnone
      rw [hrest]
      exact ⟨.head _, List.forall_mem_cons.mpr ⟨hr.irrefl _, fun _ hz => nomatch hz⟩⟩

theorem bestEntry_isSome {beats : Entry → Entry → Bool} {x : Entry} {l : List Entry} (h : x ∈ l) :
    ∃ w, bestEntry beats l = some w := by
  cases l with
  | nil => cases h
  | cons y rest =>
    unfold bestEntry
    split
    · split <;> exact ⟨_, rfl⟩
    · exact ⟨_, rfl⟩

theorem datedBeats_iff (e : Nat) (a b : Entry) :
    datedBeats e a b = true ↔ b.priority < a.priority ∨ (a.priority = b.priority
      ∧ (b.rankInstant e < a.rankInstant e ∨ (a.rankInstant e = b.rankInstant e ∧ a.id < b.id))) := by
  simp only [datedBeats, Bool.or_eq_true, Bool.and_eq_true, decide_eq_true_eq]

theorem recurringBeats_iff (e : Nat) (a b : Entry) :
    recurringBeats e a b = true ↔ b.rankInstant e < a.rankInstant e ∨ (a.rankInstant e = b.rankInstant e
      ∧ (b.priority < a.priority ∨ (a.priority = b.priority ∧ a.id < b.id))) := by
  simp only [recurringBeats, Bool.or_eq_true, Bool.and_eq_true, decide_eq_true_eq]

theorem datedBeats_ranks (e : Nat) : Ranks (datedBeats e) := by
  constructor
  · intro x y h
    rw [← Bool.not_eq_true, datedBeats_iff]
    rw [datedBeats_iff] at h
    omega
  · intro x y z hxy hyz
    rw [← Bool.not_eq_true, datedBeats_iff] at *
    omega

theorem recurringBeats_ranks (e : Nat) : Ranks (recurringBeats e) := by
  constructor
  · intro x y h
    rw [← Bool.not_eq_true, recurringBeats_iff]
    rw [recurringBeats_iff] at h
    omega
  · intro x y z hxy hyz
    rw [← Bool.not_eq_true, recurringBeats_iff] at *
    omega

/-- A dated entry that is active for a group, in the words of R51. -/
theorem Entry.activeFor_iff (x : Entry) (g : GroupNo) (e : Nat) :
    x.activeFor g e = true ↔ x.groups.getLsbD g.val = true ∧ ∃ day ends, x.kind = .dated day ends
      ∧ startInstant day x.startMinute ≤ e ∧ ∀ m, ends = some m → e < m.instant := by
  unfold Entry.activeFor Entry.covers
  cases hk : x.kind with
  | recurring days => simp
  | dated day ends => cases ends <;> simp [and_assoc]

/-- A recurring entry that has occurred. -/
theorem Entry.occurrence_some_iff (x : Entry) (e o : Nat) :
    x.occurrence e = some o ↔ ∃ days, x.kind = .recurring days ∧ latestOccurrence days x.startMinute e = some o := by
  unfold Entry.occurrence
  cases hk : x.kind with
  | recurring days => simp
  | dated day ends => simp

namespace Stored

variable (t : Stored) (g : GroupNo) (e : Nat)

/-- The dated entries that compete for a group. -/
def actives : List Entry := t.dated.filter (·.activeFor g e)

/-- The recurring entries that compete for a group. -/
def occurring : List Entry := t.recurring.filter fun x => x.covers g && (x.occurrence e).isSome

theorem mem_occurring (x : Entry) :
    x ∈ t.occurring g e ↔ x ∈ t.recurring ∧ x.groups.getLsbD g.val = true ∧ ∃ o, x.occurrence e = some o := by
  simp only [occurring, List.mem_filter, Bool.and_eq_true, Option.isSome_iff_exists, Entry.covers]

variable {t g e}

/-- With an active entry the choice falls among the dated ones. -/
theorem governing_of_active {x : Entry} (h : x ∈ t.actives g e) :
    t.governing g e = bestEntry (datedBeats e) (t.actives g e) := by
  obtain ⟨w, hw⟩ := bestEntry_isSome (beats := datedBeats e) h
  rw [hw]
  simp only [governing, actives] at hw ⊢
  rw [hw]
  rfl

/-- With no active entry it falls among the recurring ones. -/
theorem governing_of_inactive (h : t.actives g e = []) :
    t.governing g e = bestEntry (recurringBeats e) (t.occurring g e) := by
  simp only [governing, actives] at h ⊢
  rw [h]
  rfl

end Stored

end Sys2Proof.Machine

section
open Sys2Proof Sys2Proof.Machine

/-- Settles O25: the first of the entries that compete by the order of R51, else by that of R52, and an entry that another does not
beat comes no earlier than it. -/
theorem governingEntryIsChosenByTheTable : Obligations.GoverningEntryIsChosenByTheTable := by
  unfold Obligations.GoverningEntryIsChosenByTheTable
  intro t g e active start occurs
  have hactive (x : Entry) : active x ↔ x ∈ t.actives g e := by
    rw [Stored.actives, List.mem_filter, x.activeFor_iff]
    rfl
  have hoccurs (x : Entry) (o : Nat) : occurs x o ↔ x ∈ t.occurring g e ∧ x.occurrence e = some o := by
    rw [Stored.mem_occurring, x.occurrence_some_iff]
    refine ⟨fun ⟨hmem, hg, h⟩ => ⟨⟨hmem, hg, o, (x.occurrence_some_iff e o).mpr h⟩, h⟩,
      fun ⟨⟨hmem, hg, _⟩, h⟩ => ⟨hmem, hg, h⟩⟩
  have hinactive (h : ∀ y, ¬ active y) : t.actives g e = [] :=
    List.eq_nil_iff_forall_not_mem.mpr fun y hy => h y ((hactive y).mpr hy)
  have hstart {x : Entry} (h : active x) : x.rankInstant e = start x := by
    obtain ⟨-, -, day, ends, hk, -⟩ := h
    simp only [Entry.rankInstant, start, hk, startInstant]
  have hrank {x : Entry} {o : Nat} (h : occurs x o) : x.rankInstant e = o := by
    obtain ⟨-, -, days, hk, ho⟩ := h
    simp only [Entry.rankInstant, Entry.occurrence, hk, ho, Option.getD_some]
  clear_value occurs start active
  refine ⟨fun x hx => ?_, fun w y hw haw hay => ?_, fun x o hno hx => ?_, fun w y o o' hno hw how hoy => ?_,
    fun hno hnone => ?_⟩
  · obtain ⟨w, hw⟩ := bestEntry_isSome (beats := datedBeats e) ((hactive x).mp hx)
    exact ⟨w, (Stored.governing_of_active ((hactive x).mp hx)).trans hw,
      (hactive w).mpr (bestEntry_spec (datedBeats_ranks e) hw).1⟩
  · rw [Stored.governing_of_active ((hactive y).mp hay)] at hw
    have hbest := (bestEntry_spec (datedBeats_ranks e) hw).2 y ((hactive y).mp hay)
    rw [← Bool.not_eq_true, datedBeats_iff, hstart haw, hstart hay] at hbest
    omega
  · obtain ⟨w, hw⟩ := bestEntry_isSome (beats := recurringBeats e) ((hoccurs x o).mp hx).1
    obtain ⟨hmem, -⟩ := bestEntry_spec (recurringBeats_ranks e) hw
    obtain ⟨-, -, o', ho'⟩ := (t.mem_occurring g e w).mp hmem
    exact ⟨w, o', (Stored.governing_of_inactive (hinactive hno)).trans hw, (hoccurs w o').mpr ⟨hmem, ho'⟩⟩
  · rw [Stored.governing_of_inactive (hinactive hno)] at hw
    have hbest := (bestEntry_spec (recurringBeats_ranks e) hw).2 y ((hoccurs y o').mp hoy).1
    rw [← Bool.not_eq_true, recurringBeats_iff, hrank how, hrank hoy] at hbest
    omega
  · rw [Stored.governing_of_inactive (hinactive hno)]
    cases hbest : bestEntry (recurringBeats e) (t.occurring g e) with
    | none => rfl
    | some w =>
      obtain ⟨hmem, -⟩ := bestEntry_spec (recurringBeats_ranks e) hbest
      obtain ⟨-, -, o, ho⟩ := (t.mem_occurring g e w).mp hmem
      exact absurd ((hoccurs w o).mpr ⟨hmem, ho⟩) (hnone w o)

end
end

section
/-! SUPPORT. What ADD_ENTRY and REMOVE_ENTRY make of the timetable: an entry joins its list at the place of its key, and the
entry of an id is found and taken out (R38, R40 to R43). -/

namespace Sys2Proof.Machine

-- One theorem at a time: a proof that waits for the ones before it holds a thread of its own.
set_option Elab.async false

/-! ### Ids and places -/

theorem Entry.isDated_iff (x : Entry) : x.isDated = true ↔ ∃ day ends, x.kind = .dated day ends := by
  unfold Entry.isDated
  cases x.kind <;> simp

theorem Stored.entry_isSome_iff (t : Stored) (id : Nat) :
    (t.entry id).isSome = true ↔ ∃ x ∈ t.recurring ++ t.dated, x.id = id := by
  rw [Option.isSome_iff_ne_none, ne_eq, Stored.entry_none]
  simp only [not_forall, not_not, exists_prop]

/-- With distinct ids an entry is found by its own. -/
theorem Stored.entry_of_mem {t : Stored} (h : ((t.recurring ++ t.dated).map (·.id)).Nodup) {x : Entry}
    (hx : x ∈ t.recurring ++ t.dated) : t.entry x.id = some x := by
  cases hfound : t.entry x.id with
  | none => exact absurd rfl (Stored.entry_none.mp hfound x hx)
  | some y =>
    have hy : (t.recurring ++ t.dated).find? (·.id = x.id) = some y := by
      rw [List.find?_append, ← hfound, Stored.entry, Option.orElse_eq_orElse, Option.orElse_eq_or]
    have hid : y.id = x.id := by simpa using List.find?_some hy
    rw [List.inj_on_of_nodup_map h (List.mem_of_find?_eq_some hy) hx hid]

/-- The place of an entry in a list: before the first that its key stands before. -/
def placeIn (x : Entry) (l : List Entry) : Nat := (l.takeWhile fun y => !x.before y).length

/-- A list that an entry has joined at its place. -/
def joinedBy (x : Entry) (l : List Entry) : List Entry := l.take (placeIn x l) ++ x :: l.drop (placeIn x l)

theorem insertEntry_eq (x : Entry) (l : List Entry) : insertEntry x l = joinedBy x l := by
  induction l with
  | nil => rfl
  | cons y l ih =>
    unfold insertEntry joinedBy placeIn
    cases h : x.before y with
    | true => simp [h]
    | false => simpa [h, joinedBy, placeIn] using ih

theorem placeIn_le (x : Entry) (l : List Entry) : placeIn x l ≤ l.length := (List.takeWhile_sublist _).length_le

/-- The first entry of an id stands after those of other ids. -/
theorem positionOf_append {id : Nat} {before : List Entry} {x : Entry} (h : ∀ y ∈ before, y.id ≠ id) (hx : x.id = id)
    (after : List Entry) : positionOf id (before ++ x :: after) = before.length := by
  induction before with
  | nil => simp [positionOf, List.findIdx_cons, hx]
  | cons y before ih =>
    obtain ⟨hy, hbefore⟩ := List.forall_mem_cons.mp h
    simpa [positionOf, List.findIdx_cons, hy] using ih hbefore

/-! ### ADD_ENTRY (Table 4-3) -/

theorem EpochMinute.ok_iff (m : EpochMinute) : m.ok = true ↔ m.day ≤ 65535 ∧ m.minute ≤ 1439 := by
  rw [EpochMinute.ok, Bool.and_eq_true, decide_eq_true_eq, decide_eq_true_eq]

namespace AddEntryArgs

variable (a : AddEntryArgs)

/-- The instant at which an entry of these arguments starts, if it is a dated one. -/
def start : Nat := a.dayField * 864000 + a.startMinute * 600

/-- The fields that both kinds have are in range (orders 2, 4 and 5). -/
def CommonFits : Prop := a.groups ≠ 0#16 ∧ a.plan ≤ 48 ∧ a.priority ≤ 7 ∧ a.startMinute ≤ 1439

/-- The arguments name an entry of this kind (orders 2 to 7). -/
def Names : EntryKind → Prop
  | .recurring d => a.kind = 0 ∧ a.CommonFits ∧ d = BitVec.ofNat 7 a.dayField ∧ d ≠ 0#7 ∧ a.ends = none
  | .dated day ends => a.kind = 1 ∧ a.CommonFits ∧ day = a.dayField ∧ day ≤ 65535 ∧ ends = a.ends
      ∧ ∀ m, a.ends = some m → m.minute ≤ 1439 ∧ m.day ≤ 65535 ∧ a.start < m.day * 864000 + m.minute * 600

variable {a}

theorem entryKind_of_misfit (h : ¬ a.CommonFits) : a.entryKind = none := by
  refine if_pos ?_
  simp only [CommonFits] at h
  by_contra hno
  simp only [not_or, Nat.not_lt] at hno
  exact h hno

theorem entryKind_of_fit (h : a.CommonFits) :
    a.entryKind = match a.kind with
      | 0 => if BitVec.ofNat 7 a.dayField = 0#7 ∨ a.ends.isSome then none else some (.recurring (BitVec.ofNat 7 a.dayField))
      | 1 =>
          if 65535 < a.dayField then none
          else
            match a.ends with
            | none => some (.dated a.dayField none)
            | some m => if m.ok ∧ a.start < m.instant then some (.dated a.dayField (some m)) else none
      | _ => none := by
  obtain ⟨hgroups, hplan, hpriority, hminute⟩ := h
  refine (if_neg ?_).trans rfl
  rintro (h | h | h | h)
  · exact hgroups h
  all_goals omega

/-- Orders 2 to 7 of Table 4-3 let through just the kind that the arguments name. -/
theorem entryKind_iff (kind : EntryKind) : a.entryKind = some kind ↔ a.Names kind := by
  by_cases hfits : a.CommonFits
  case neg =>
    rw [entryKind_of_misfit hfits]
    cases kind <;> simp [Names, hfits]
  rw [entryKind_of_fit hfits]
  split
  next hkind =>
    cases kind with
    | recurring d =>
      simp only [Names, hkind, hfits, true_and, Option.ite_none_left_eq_some, not_or, Option.not_isSome_iff_eq_none,
        Option.some.injEq, EntryKind.recurring.injEq]
      exact ⟨fun ⟨⟨hd, he⟩, h⟩ => ⟨h.symm, h ▸ hd, he⟩, fun ⟨h, hd, he⟩ => ⟨⟨h ▸ hd, he⟩, h.symm⟩⟩
    | dated day ends => simp [Names, hkind]
  next hkind =>
    cases kind with
    | recurring d =>
      simp only [Names, hkind]
      cases a.ends <;> simp
    | dated day ends =>
      simp only [Names, hkind, hfits, true_and, Option.ite_none_left_eq_some]
      cases a.ends with
      | none =>
        refine ⟨?_, ?_⟩
        · rintro ⟨hday, ⟨⟩⟩
          exact ⟨rfl, Nat.le_of_not_lt hday, rfl, nofun⟩
        · rintro ⟨rfl, hday, rfl, -⟩
          exact ⟨Nat.not_lt.mpr hday, rfl⟩
      | some m =>
        simp only [Option.ite_none_right_eq_some, m.ok_iff]
        refine ⟨?_, ?_⟩
        · rintro ⟨hday, ⟨⟨hmday, hminute⟩, hend⟩, ⟨⟩⟩
          exact ⟨rfl, Nat.le_of_not_lt hday, rfl, fun _ hm => Option.some.inj hm ▸ ⟨hminute, hmday, hend⟩⟩
        · rintro ⟨rfl, hday, rfl, hm⟩
          obtain ⟨hminute, hmday, hend⟩ := hm m rfl
          exact ⟨Nat.not_lt.mpr hday, ⟨⟨hmday, hminute⟩, hend⟩, rfl⟩
  next h0 h1 =>
    cases kind with
    | recurring d => simpa [Names] using fun h => absurd h h0
    | dated day ends => simpa [Names] using fun h => absurd h h1

/-- The arguments' own kind code is that of the kind they name. -/
theorem Names.isDated_iff {kind : EntryKind} (h : a.Names kind) {x : Entry} (hx : x.kind = kind) :
    x.isDated = true ↔ a.kind = 1 := by
  subst hx
  rw [x.isDated_iff]
  cases hk : x.kind with
  | recurring d =>
    rw [hk] at h
    simp [h.1]
  | dated day ends =>
    rw [hk] at h
    simp [h.1]

theorem Names.kindCode {kind : EntryKind} (h : a.Names kind) {x : Entry} (hx : x.kind = kind) : x.kindCode = a.kind := by
  have hdated := h.isDated_iff hx
  unfold Entry.kindCode
  split
  next hd => exact (hdated.mp hd).symm
  next hd =>
    cases kind with
    | recurring d => exact h.1.symm
    | dated day ends => exact absurd (hdated.mpr h.1) hd

variable (a) in
/-- The entry that is stored for the arguments from a port (R41, R42). -/
def entry (p : Port) (kind : EntryKind) : Entry :=
  ⟨a.id, p, kind, a.groups, a.plan, storedPriority p a.priority, a.startMinute, a.tag⟩

end AddEntryArgs

/-- EVENT may add dated entries alone, on groups of its own set (R41). -/
theorem eventMayAdd_iff (p : Port) (kind : EntryKind) (groups eventGroups : GroupSet) :
    eventMayAdd p kind groups eventGroups = true
      ↔ (p = .event → (∃ day ends, kind = .dated day ends) ∧ groups &&& ~~~eventGroups = 0#16) := by
  cases p <;> cases kind <;> simp [eventMayAdd]

theorem storedPriority_eq (p : Port) (v : Nat) : storedPriority p v = if p = .event ∧ 3 < v then 3 else v := by
  unfold storedPriority
  by_cases hp : p = .event
  · simp only [hp, true_and, if_true, Nat.min_def]
    split <;> split <;> omega
  · simp only [hp, false_and, if_false]

theorem Stored.planKnown_iff (t : Stored) (k : Nat) : t.planKnown k = true ↔ k = 0 ∨ ∃ p, t.plan k = some p := by
  rw [Stored.planKnown, Bool.or_eq_true, decide_eq_true_eq, Option.isSome_iff_exists]

/-- Order 12 of Table 4-3, for the kind that the arguments name. -/
theorem AddEntryArgs.Names.endPassed_iff {a : AddEntryArgs} {kind : EntryKind} (h : a.Names kind) (t : Tref) :
    endPassed kind t = true
      ↔ a.kind = 1 ∧ t.state ≠ .unset ∧ ∃ m, a.ends = some m ∧ m.day * 864000 + m.minute * 600 ≤ t.e := by
  cases kind with
  | recurring d =>
    obtain ⟨hkind, -⟩ := h
    simp [endPassed, hkind]
  | dated day ends =>
    obtain ⟨hkind, -, -, -, rfl, -⟩ := h
    cases a.ends with
    | none => simp [endPassed]
    | some m =>
      change _ ↔ _ ∧ _ ∧ ∃ m', some m = some m' ∧ m'.instant ≤ t.e
      simp [endPassed, hkind]

namespace Stored

/-- The list that an entry belongs to. -/
def listOf (t : Stored) (x : Entry) : List Entry := if x.isDated then t.dated else t.recurring

/-- A new entry joins its list at its place (R38, R42). -/
theorem putEntry_eq (t : Stored) (x : Entry) :
    t.putEntry x
      = if x.isDated then { t with dated := joinedBy x (t.listOf x) } else { t with recurring := joinedBy x (t.listOf x) } := by
  simp only [putEntry, ← insertEntry_eq, listOf]
  split <;> rfl

theorem listOf_putEntry (t : Stored) (x : Entry) :
    (t.putEntry x).listOf x = joinedBy x (t.listOf x) := by
  rw [putEntry_eq]
  cases hx : x.isDated <;> simp [listOf, hx]

theorem positionOf_putEntry {t : Stored} {x : Entry} (h : ∀ y ∈ t.recurring ++ t.dated, y.id ≠ x.id) :
    positionOf x.id ((t.putEntry x).listOf x) = placeIn x (t.listOf x) := by
  have hlist : ∀ y ∈ t.listOf x, y.id ≠ x.id := fun y hy => h y (by
    unfold listOf at hy
    split at hy
    · exact List.mem_append_right _ hy
    · exact List.mem_append_left _ hy)
  rw [listOf_putEntry, joinedBy, positionOf_append (fun y hy => hlist y (List.mem_of_mem_take hy)) rfl, List.length_take,
    Nat.min_eq_left (placeIn_le x _)]

theorem entryCount_putEntry (t : Stored) (x : Entry) : (t.putEntry x).entryCount = t.entryCount + 1 := by
  unfold putEntry entryCount
  split
  · rw [(insertEntry_perm x t.dated).length_eq, List.length_cons, Nat.add_assoc]
  · rw [(insertEntry_perm x t.recurring).length_eq, List.length_cons, Nat.add_right_comm]

end Stored

end Sys2Proof.Machine

section
open Sys2Proof Sys2Proof.Machine

-- One theorem at a time: a proof that waits for the ones before it holds a thread of its own.
set_option Elab.async false

/-- Settles O22: the block makes the checks of Table 4-3 one after another, and an entry that passes them joins its list. -/
theorem addEntryStoresTheEntry : Obligations.AddEntryStoresTheEntry := by
  unfold Obligations.AddEntryStoresTheEntry
  intro s f a hs hn ha hcommit common start ofKind rights known taken count passed refused
  have hr : Request.addEntry.allowed f.port = true := rfl
  have hfree := State.handedOver_free hcommit f .addEntry
  have hexec : exec (.addEntry f) s = .next (s.request f .addEntry (some a) (answering (addEntryBlock f.port))).settle := by
    simp only [exec, execAddEntry, ha]
  have refuses {st : Status}
      (hb : addEntryBlock f.port a (s.handedOver f .addEntry) = (s.handedOver f .addEntry, (st, []))) : refused st :=
    hexec.trans (congrArg Host.Outcome.next (State.request_read hs hr hn hb))
  have hkind (kind : EntryKind) : ofKind kind ↔ a.Names kind := by
    cases kind <;> exact Iff.rfl
  have hrights (kind : EntryKind) : eventMayAdd f.port kind a.groups s.stored.eventGroups = true ↔ rights kind :=
    eventMayAdd_iff _ _ _ _
  have hknown : s.stored.planKnown a.plan = true ↔ known := Stored.planKnown_iff _ _
  have htaken : (s.stored.entry a.id).isSome = true ↔ taken := Stored.entry_isSome_iff _ _
  have hpassed {kind : EntryKind} (h : ofKind kind) : endPassed kind s.tref = true ↔ passed :=
    ((hkind kind).mp h).endPassed_iff s.tref
  have hcount : s.stored.entryCount = count := rfl
  have hblock {kind : EntryKind} (h : ofKind kind) :
      addEntryBlock f.port a (s.handedOver f .addEntry)
        = if eventMayAdd f.port kind a.groups s.stored.eventGroups = false then (s.handedOver f .addEntry, plain .denied)
          else if s.stored.planKnown a.plan = false then (s.handedOver f .addEntry, plain .notFound)
          else if (s.stored.entry a.id).isSome then (s.handedOver f .addEntry, plain .inUse)
          else if 256 ≤ s.stored.entryCount then (s.handedOver f .addEntry, plain .full)
          else if endPassed kind s.tref then (s.handedOver f .addEntry, plain .badArg)
          else
            (State.handedOver
              { s with stored := s.stored.putEntry (a.entry f.port kind), owed := s.owed ++ [⟨a.groups⟩] } f .addEntry,
              (.ok,
                [.n1 a.id, .n1 (a.entry f.port kind).priority, .n1 (a.entry f.port kind).kindCode,
                  .n1 (positionOf (a.entry f.port kind).id
                    ((s.stored.putEntry (a.entry f.port kind)).listOf (a.entry f.port kind))),
                  .n2 (s.stored.putEntry (a.entry f.port kind)).entryCount])) := by
    rw [addEntryBlock, unlessCommitting_free hfree, (AddEntryArgs.entryKind_iff kind).mpr ((hkind kind).mp h)]
    rfl
  refine ⟨fun hnone => refuses ?_, fun kind hk hno => refuses ?_, fun kind hk hri hno => refuses ?_,
    fun kind hk hri hkn ht => refuses ?_, fun kind hk hri hkn ht hfull => refuses ?_,
    fun kind hk hri hkn ht hroom hp => refuses ?_, ?_⟩
  · have hno : a.entryKind = none :=
      Option.eq_none_iff_forall_ne_some.mpr fun kind h => hnone kind ((hkind kind).mpr ((AddEntryArgs.entryKind_iff kind).mp h))
    rw [addEntryBlock, unlessCommitting_free hfree, hno]
    rfl
  · rw [hblock hk, Bool.eq_false_iff.mpr (mt (hrights kind).mp hno)]
    rfl
  · rw [hblock hk, (hrights kind).mpr hri, Bool.eq_false_iff.mpr (mt hknown.mp hno)]
    rfl
  · rw [hblock hk, (hrights kind).mpr hri, hknown.mpr hkn, htaken.mpr ht]
    rfl
  · have hfull' : 256 ≤ s.stored.entryCount := hfull
    rw [hblock hk, (hrights kind).mpr hri, hknown.mpr hkn, Bool.eq_false_iff.mpr (mt htaken.mp ht)]
    simp only [if_pos hfull']
    rfl
  · have hroom' : ¬ 256 ≤ s.stored.entryCount := Nat.not_le.mpr hroom
    rw [hblock hk, (hrights kind).mpr hri, hknown.mpr hkn, Bool.eq_false_iff.mpr (mt htaken.mp ht), (hpassed hk).mpr hp]
    simp only [if_neg hroom']
    rfl
  · intro kind hk hri hkn ht hroom hp x list position joined
    have hnames := (hkind kind).mp hk
    have hx : a.entry f.port kind = x := by rw [AddEntryArgs.entry, storedPriority_eq]
    have hdated : x.isDated = true ↔ a.kind = 1 := hnames.isDated_iff rfl
    have hlist : s.stored.listOf x = list := by simp only [Stored.listOf, hdated, list]
    have hput : s.stored.putEntry x
        = if a.kind = 1 then { s.stored with dated := joined } else { s.stored with recurring := joined } := by
      rw [Stored.putEntry_eq, hlist]
      simp only [hdated]
      rfl
    have hposition : positionOf x.id ((s.stored.putEntry x).listOf x) = position := by
      rw [Stored.positionOf_putEntry fun y hy hid => ht ⟨y, hy, hid⟩, hlist]
      rfl
    refine hexec.trans (congrArg Host.Outcome.next (State.request_silent hs hr (hn.quiet.congr rfl rfl ?_) rfl rfl rfl ?_))
    · show (if a.kind = 1 then _ else _ : Stored).maps = _
      split <;> rfl
    · have hroom' : ¬ 256 ≤ s.stored.entryCount := Nat.not_le.mpr hroom
      rw [hblock hk, (hrights kind).mpr hri, hknown.mpr hkn, Bool.eq_false_iff.mpr (mt htaken.mp ht),
        Bool.eq_false_iff.mpr (mt (hpassed hk).mp hp), hx, hposition, Stored.entryCount_putEntry,
        hnames.kindCode (x := x) rfl, hput]
      simp only [if_neg hroom']
      rfl

/-- Settles O23: with distinct ids the entry that the block finds is the one named. -/
theorem removeEntryTakesTheEntryOut : Obligations.RemoveEntryTakesTheEntryOut := by
  unfold Obligations.RemoveEntryTakesTheEntryOut
  intro s f id hs hn hid hcommit hnodup
  have hr : Request.removeEntry.allowed f.port = true := rfl
  have hfree := State.handedOver_free hcommit f .removeEntry
  have hexec : exec (.removeEntry f) s
      = .next (s.request f .removeEntry (some id) (answering (removeEntryBlock f.port))).settle := by
    simp only [exec, execRemoveEntry, hid]
  have hblock : removeEntryBlock f.port id (s.handedOver f .removeEntry)
      = match s.stored.entry id with
        | none => (s.handedOver f .removeEntry, plain .notFound)
        | some x =>
            if rank f.port < rank x.owner then (s.handedOver f .removeEntry, plain .denied)
            else
              (State.handedOver { s with stored := s.stored.dropEntry id, owed := s.owed ++ [⟨x.groups⟩] } f .removeEntry,
                (.ok, [.n1 x.kindCode, .n1 x.plan, .n2 x.tag.toNat, .n2 x.groups.toNat])) := by
    rw [removeEntryBlock, unlessCommitting_free hfree]
    rfl
  refine ⟨fun hnone => hexec.trans (congrArg Host.Outcome.next (State.request_read hs hr hn ?_)), ?_, ?_⟩
  · rw [hblock, Stored.entry_none.mpr hnone]
    rfl
  · rintro x hx rfl hrank
    refine hexec.trans (congrArg Host.Outcome.next (State.request_read hs hr hn ?_))
    rw [hblock, Stored.entry_of_mem hnodup hx]
    exact if_pos hrank
  · rintro x hx rfl hrank
    refine hexec.trans (congrArg Host.Outcome.next (State.request_silent hs hr (hn.quiet.congr rfl rfl rfl) rfl rfl rfl ?_))
    rw [hblock, Stored.entry_of_mem hnodup hx]
    exact if_neg (Nat.not_lt.mpr hrank)

end
end

section
/-! SUPPORT. What start-up brings about and its evaluation leaves so: a segment in CHECKING stays there, and a member in UNKNOWN
stays UNKNOWN (R120, R139). -/

namespace Sys2Proof.Machine

-- One theorem at a time: a proof that waits for the ones before it holds a thread of its own.
set_option Elab.async false

/-- Segments in CHECKING stay in CHECKING, and members in UNKNOWN, those of `P` aside, in UNKNOWN. -/
structure Abides (P : Ix → Prop) (s t : State) : Prop where
  segments : ∀ k, (s.segment k).state = .checking → (t.segment k).state = .checking
  members : ∀ i, ¬ P i → (s.member i).state = .unknown → (t.member i).state = .unknown

/-- No member aside. -/
def Nobody (_ : Ix) : Prop := False

namespace Abides

variable {P : Ix → Prop} {s t u : State}

theorem refl (P : Ix → Prop) (s : State) : Abides P s s := ⟨fun _ => id, fun _ _ => id⟩

theorem trans (h1 : Abides P s t) (h2 : Abides P t u) : Abides P s u :=
  ⟨fun k => h2.segments k ∘ h1.segments k, fun i hi => h2.members i hi ∘ h1.members i hi⟩

theorem aside (h : Abides Nobody s t) : Abides P s t := ⟨h.segments, fun i _ => h.members i id⟩

/-- A member that is not UNKNOWN need not be set aside. -/
theorem known {i : Ix} (h : Abides (· = i) s t) (hi : (s.member i).state ≠ .unknown) : Abides Nobody s t :=
  ⟨h.segments, fun j _ hj => h.members j (fun e => hi (e ▸ hj)) hj⟩

theorem foldl {α : Type} {f : State → α → State} (h : ∀ s a, Abides Nobody s (f s a)) (l : List α) (s : State) :
    Abides Nobody s (l.foldl f s) := by
  induction l generalizing s with
  | nil => exact .refl _ _
  | cons a l ih => exact (h s a).trans (ih _)

theorem of_eq (hs : t.segments = s.segments) (hm : t.members = s.members) : Abides P s t := by
  refine ⟨fun k => ?_, fun i _ => ?_⟩
  · rw [State.segment, State.segment, hs]
    exact id
  · rw [State.member, State.member, hm]
    exact id

theorem told (P : Ix → Prop) (s : State) (ns : List Notice) : Abides P s (s.told ns) := by
  rw [s.told_eq ns]
  exact .of_eq rfl rfl

theorem setGroup (P : Ix → Prop) (s : State) (g : GroupNo) (r : Group) : Abides P s (s.setGroup g r) := .of_eq rfl rfl

theorem modSegment (P : Ix → Prop) (s : State) (k : SegNo) (f : Segment → Segment)
    (h : ∀ r : Segment, r.state = .checking → (f r).state = .checking) : Abides P s (s.modSegment k f) := by
  refine ⟨fun l hl => ?_, fun _ _ => id⟩
  by_cases hlk : l = k
  · subst hlk
    rw [State.segment_modSegment_self]
    exact h _ hl
  · rwa [State.segment_modSegment_ne _ _ _ _ hlk]

theorem modMember (s : State) (i : Ix) (f : Member → Member) : Abides (· = i) s (s.modMember i f) :=
  ⟨fun _ => id, fun j hj h => by rwa [State.member_modMember_ne s i j f hj]⟩

/-- A change that leaves an UNKNOWN member UNKNOWN. -/
theorem modMember_state (s : State) (i : Ix) (f : Member → Member)
    (h : ∀ m : Member, m.state = .unknown → (f m).state = .unknown) : Abides Nobody s (s.modMember i f) := by
  refine ⟨fun _ => id, fun j _ hj => ?_⟩
  by_cases hji : j = i
  · subst hji
    rw [State.member_modMember_self]
    exact h _ hj
  · rwa [State.member_modMember_ne s i j f hji]

end Abides

theorem State.offer_abides (P : Ix → Prop) (s : State) (b : NoticeBody) : Abides P s (s.offer b) :=
  s.offer_eq_told b ▸ .told P s _

/-! ### Orders and conditions -/

@[simp] theorem Segment.putOrder_state (k : Segment) (e : Nat) (i : Ix) (b : TxnBody) : (k.putOrder e i b).state = k.state := by
  unfold Segment.putOrder
  split <;> rfl

theorem State.enter_abides (s : State) (i : Ix) (st : MemberState) : Abides (· = i) s (s.enter i st) := .modMember _ _ _

theorem State.clearOrder_abides (s : State) (i : Ix) : Abides (· = i) s (s.clearOrder i) := .modMember _ _ _

theorem State.dropOrder_abides (P : Ix → Prop) (s : State) (i : Ix) : Abides P s (s.dropOrder i) := by
  unfold State.dropOrder
  split
  · exact .modSegment _ _ _ _ fun _ => id
  · exact .refl _ _

theorem State.placeOrder_abides (s : State) (i : Ix) (kind : OrderKind) (p : OrderPayload) :
    Abides (· = i) s (s.placeOrder i kind p) := by
  unfold State.placeOrder
  extract_lets s1 s2
  have h1 : Abides (· = i) s s1 := by
    unfold s1
    split
    · exact .modSegment _ _ _ _ fun r hr => (r.putOrder_state _ _ _).trans hr
    · exact .refl _ _
  have h2 : Abides (· = i) s s2 := h1.trans (.modMember _ _ _)
  exact h2.trans (.of_eq rfl rfl)

theorem State.release_abides (s : State) (i : Ix) (tm : Nat) : Abides (· = i) s (s.release i tm) := by
  unfold State.release
  extract_lets s1
  have h1 : Abides (· = i) s s1 := by
    unfold s1
    split
    · exact .modMember _ _ _
    · exact .refl _ _
  split
  · exact h1.trans (State.clearOrder_abides _ _)
  · exact h1.trans (State.placeOrder_abides _ _ _ _)

theorem State.releaseTo_abides (s : State) (i : Ix) (tm : Nat) (st : MemberState) :
    Abides (· = i) s ((s.release i tm).enter i st) := (s.release_abides i tm).trans (State.enter_abides _ _ _)

/-! ### Groups -/

theorem State.groupTests_abides (P : Ix → Prop) (s : State) (g : GroupNo) : Abides P s (s.groupTests g) := by
  have hworking : Abides P s (s.testWorking g) := by
    unfold State.testWorking
    split
    · exact .setGroup _ _ _ _
    · exact .refl _ _
  have hsteady (u : State) : Abides P u (u.testSteady g) := by
    unfold State.testSteady
    split
    · exact (Abides.setGroup _ _ _ _).trans (State.offer_abides _ _ _)
    · exact .refl _ _
  exact hworking.trans (hsteady _)

theorem State.testsOf_abides (P : Ix → Prop) (s : State) (i : Ix) : Abides P s (s.testsOf i) := by
  unfold State.testsOf
  split
  · exact State.groupTests_abides _ _ _
  · exact .refl _ _

theorem State.suspendMember_abides (s : State) (i : Ix) : Abides Nobody s (s.suspendMember i) := by
  unfold State.suspendMember
  split
  next hst => exact (s.releaseTo_abides i _ _).known (by rw [hst]; decide)
  next hst => exact (s.releaseTo_abides i _ _).known (by rw [hst]; decide)
  next hst => exact (s.releaseTo_abides i _ _).known (by rw [hst]; decide)
  next hst => exact (s.releaseTo_abides i _ _).known (by rw [hst]; decide)
  next hst =>
    have h1 := s.release_abides i s.tref.e
    refine Abides.known (i := i) ?_ (by rw [hst]; decide)
    extract_lets s1
    split
    · exact h1
    · exact h1.trans (State.enter_abides _ _ _)
  next => exact .refl _ _

theorem State.suspend_abides (s : State) (g : GroupNo) (c : FaultClass) (i : Ix) : Abides Nobody s (s.suspend g c i) :=
  (Abides.setGroup _ _ _ _).trans (.foldl State.suspendMember_abides _ _)

/-! ### Raises (R160 to R162) -/

theorem State.latch_abides (s : State) (i : Ix) (c : FaultClass) : Abides Nobody s (s.latch i c) := by
  unfold State.latch
  extract_lets s1
  have h1 : Abides Nobody s s1 := .modMember_state _ _ _ fun _ => id
  have hto {st : MemberState} (hst : (s.member i).state ≠ .unknown) :
      Abides Nobody s ((s1.release i s.tref.e).enter i st) := (h1.aside.trans (s1.releaseTo_abides i _ _)).known hst
  split
  next hst => exact hto (by rw [hst]; decide)
  next hst => exact hto (by rw [hst]; decide)
  next hst => exact hto (by rw [hst]; decide)
  next hst => exact hto (by rw [hst]; decide)
  next hst => exact hto (by rw [hst]; decide)
  next => exact h1

theorem State.exclude_abides (s : State) (i : Ix) : Abides Nobody s (s.exclude i) := by
  unfold State.exclude
  split
  next hst => exact (s.enter_abides i _).known (by rw [hst]; decide)
  next hst => exact (s.enter_abides i _).known (by rw [hst]; decide)
  next hst => exact (s.enter_abides i _).known (by rw [hst]; decide)
  next hst => exact (s.enter_abides i _).known (by rw [hst]; decide)
  next => exact .refl _ _

theorem State.raise_abides (s : State) (i : Ix) (c : FaultClass) (cause : Option MissCause) (reason : Option Nat) :
    Abides Nobody s (s.raise i c cause reason) := by
  unfold State.raise
  extract_lets pair s1 s2 s3
  have h1 : Abides Nobody s s1 := .modMember_state _ _ _ fun _ => id
  have h2 : Abides Nobody s s2 := by
    unfold s2
    split
    · exact h1
    · exact h1.trans (State.offer_abides _ _ _)
  split
  · have h3 : Abides Nobody s s3 := h2.trans (State.latch_abides _ _ _)
    split
    · split
      · exact h3.trans (State.suspend_abides _ _ _ _)
      · exact h3
    · exact h3.trans (State.testsOf_abides _ _ _)
  · exact (h2.trans (State.exclude_abides _ _)).trans (State.testsOf_abides _ _ _)
  · exact h2
  · exact h2

theorem State.failCheck_abides (s : State) (i : Ix) : Abides (· = i) s (s.failCheck i) := by
  unfold State.failCheck
  extract_lets m s1
  have h1 : Abides (· = i) s s1 := by
    unfold s1
    split
    · exact State.releaseTo_abides _ _ _ _
    · exact .refl _ _
  exact (h1.trans (State.raise_abides _ _ _ _ _).aside).trans (State.testsOf_abides _ _ _)

/-! ### Ordering and readmission (R72, R87) -/

theorem State.orderMember_abides (s : State) (i : Ix) (plan tm : Nat) : Abides (· = i) s (s.orderMember i plan tm) := by
  unfold State.orderMember
  split
  · split
    · extract_lets s1
      have h1 : Abides (· = i) s s1 := (Abides.modMember _ _ _).trans (State.placeOrder_abides _ _ _ _)
      exact (h1.trans (.modMember _ _ _)).trans (State.testsOf_abides _ _ _)
    · exact State.failCheck_abides _ _
  · exact State.failCheck_abides _ _

theorem State.readmit_abides (s : State) (i : Ix) (b : Bool) : Abides (· = i) s (s.readmit i b) := by
  unfold State.readmit
  extract_lets s1 stay kept
  have h1 : Abides (· = i) s s1 := State.enter_abides _ _ _
  have hstay : Abides (· = i) s stay := by
    unfold stay
    split
    · exact h1.trans (State.release_abides _ _ _)
    · exact h1
  have hkept : Abides (· = i) s ((s1.enter i .ordered).testsOf i) :=
    (h1.trans (State.enter_abides _ _ _)).trans (State.testsOf_abides _ _ _)
  have hordered (plan tm : Nat) : Abides (· = i) s (s1.orderMember i plan tm) := h1.trans (State.orderMember_abides _ _ _ _)
  split
  · exact hstay
  · extract_lets r
    split
    · exact hstay
    · exact hstay
    · split
      · exact hstay
      · split
        · exact hkept
        · exact hordered _ _
    · split
      · exact hkept
      · exact hordered _ _
    · split
      · exact hkept
      · exact hordered _ _

theorem State.tryReadmit_abides (s : State) (i : Ix) : Abides Nobody s (s.tryReadmit i) := by
  unfold State.tryReadmit
  split
  next h => exact (s.readmit_abides i _).known (by rw [h.1]; decide)
  next => exact .refl _ _

/-! ### Switch starts and evaluations (R47, R74) -/

theorem MemberState.taken_known {st : MemberState} (h : st.taken = true) : st ≠ .unknown := by
  rintro rfl
  cases h

theorem State.switchTake_abides (g : GroupNo) (s : State) (i : Ix) : Abides Nobody s (State.switchTake g s i) := by
  unfold State.switchTake
  extract_lets r
  split
  next h =>
    refine Abides.known (i := i) ?_ (MemberState.taken_known h.2)
    split
    · exact (State.release_abides _ _ _).trans (.modMember _ _ _)
    · exact State.orderMember_abides _ _ _ _
  next => exact .refl _ _

theorem State.withdraw_abides (g : GroupNo) (s : State) (i : Ix) : Abides Nobody s (State.withdraw g s i) := by
  unfold State.withdraw
  split
  · exact (State.dropOrder_abides _ _ _).trans (.modMember_state _ _ _ fun _ => id)
  · exact .refl _ _

theorem State.switchEnds_abides (g : GroupNo) (s : State) (i : Ix) : Abides Nobody s (State.switchEnds g s i) := by
  unfold State.switchEnds
  split
  · exact (Abides.modMember_state s i (fun m => m.clearTransitionConds.clearCond .capability) fun _ => id).trans
      (State.tryReadmit_abides _ _)
  · exact .refl _ _

theorem State.startSwitch_abides (s : State) (g : GroupNo) : Abides Nobody s (s.startSwitch g) := by
  unfold State.startSwitch
  extract_lets r ts members found s1 s2 s3 s4
  have h2 : Abides Nobody s s2 := (Abides.setGroup _ _ _ _).trans (State.offer_abides _ _ _)
  have h3 : Abides Nobody s s3 := h2.trans (.foldl (State.switchTake_abides g) _ _)
  have h4 : Abides Nobody s s4 := h3.trans (.foldl (State.withdraw_abides g) _ _)
  exact h4.trans (.foldl (State.switchEnds_abides g) _ _)

theorem State.evaluateGroup_abides (s : State) (g : GroupNo) : Abides Nobody s (s.evaluateGroup g) := by
  unfold State.evaluateGroup
  extract_lets w r s1
  have h1 : Abides Nobody s s1 := .setGroup _ _ _ _
  split
  · exact h1.trans (State.startSwitch_abides _ _)
  · exact h1

theorem State.evaluate_abides (s : State) (scope : GroupSet) : Abides Nobody s (s.evaluate scope) := by
  rw [State.evaluate_eq]
  have htidied : Abides Nobody s { s with stored := s.tidiedTables } := .of_eq rfl rfl
  exact (htidied.trans (.told _ _ _)).trans (.foldl State.evaluateGroup_abides _ _)

/-! ### Segments -/

theorem State.choose_abides (s : State) (k : SegNo) : Abides Nobody s (s.choose k) := by
  unfold State.choose
  split
  · split
    · exact .modSegment _ _ _ _ fun _ => id
    · exact .refl _ _
  · exact .refl _ _

theorem State.settle_abides (s : State) : Abides Nobody s s.settle := by
  have hpump (u : State) : Abides Nobody u u.pump := .of_eq rfl rfl
  exact (Abides.foldl State.choose_abides allSegs s).trans (hpump _)

theorem State.membersUnknown_abides (s : State) (k : SegNo) : Abides Nobody s (s.membersUnknown k) :=
  .foldl (fun s i => .modMember_state s i (·.enter .unknown) fun m _ => m.enter_state .unknown) _ _

theorem State.startChecking_abides (s : State) (k : SegNo) (c : SegCause) : Abides Nobody s (s.startChecking k c) := by
  have hwatch : Abides Nobody s (s.modSegment k fun r => { r with line := .mark, lineSince := s.crystal }) :=
    .modSegment _ _ _ _ fun _ => id
  have henter (u : State) : Abides Nobody u (u.enterSegment k .checking c) :=
    (Abides.modSegment _ u k (fun r => { r with state := .checking }) fun _ _ => rfl).trans (State.offer_abides _ _ _)
  exact hwatch.trans (henter _)

theorem State.startSegment_abides (s : State) (k : SegNo) : Abides Nobody s (s.startSegment k) := by
  unfold State.startSegment
  split
  · exact (s.startChecking_abides k _).trans (State.membersUnknown_abides _ _)
  · exact .refl _ _

end Sys2Proof.Machine
end

section
/-! SUPPORT. Start-up: the class of the image, what its steps leave alone, and the segments it starts (R181, R184). -/

namespace Sys2Proof.Machine

-- One theorem at a time: a proof that waits for the ones before it holds a thread of its own.
set_option Elab.async false

/-! ### The image (R181) -/

/-- Every byte of an image and its CRC hold all ones. -/
def AllOnes (bytes : List Byte) (crc : BitVec 16) : Prop := (∀ b ∈ bytes, b = 0xFF#8) ∧ crc = 0xFFFF#16

section
variable (bytes : List Byte) (crc : BitVec 16) (tab : Stored)

theorem Image.cls_held : (Image.held bytes crc tab).cls
    = if crc16 bytes = crc then .good else if bytes.all (· = 0xFF#8) && crc = 0xFFFF#16 then .blank else .bad := rfl

theorem allOnes_iff : (bytes.all (· = 0xFF#8) && crc = 0xFFFF#16) = true ↔ AllOnes bytes crc := by
  simp only [AllOnes, Bool.and_eq_true, List.all_eq_true, decide_eq_true_eq]

theorem Image.cls_good_iff : (Image.held bytes crc tab).cls = .good ↔ crc16 bytes = crc := by
  rw [Image.cls_held]
  split
  next h => exact iff_of_true rfl h
  next h => split <;> exact iff_of_false nofun h

theorem Image.cls_blank_iff : (Image.held bytes crc tab).cls = .blank ↔ crc16 bytes ≠ crc ∧ AllOnes bytes crc := by
  rw [Image.cls_held, ← allOnes_iff]
  split
  next h => exact iff_of_false nofun fun hno => hno.1 h
  next h =>
    split
    next hones => exact iff_of_true rfl ⟨h, hones⟩
    next hones => exact iff_of_false nofun fun hno => hones hno.2

theorem Image.cls_bad_iff : (Image.held bytes crc tab).cls = .bad ↔ crc16 bytes ≠ crc ∧ ¬ AllOnes bytes crc := by
  rw [Image.cls_held, ← allOnes_iff]
  split
  next h => exact iff_of_false nofun fun hno => hno.1 h
  next h =>
    split
    next hones => exact iff_of_false nofun fun hno => hno.2 hones
    next hones => exact iff_of_true rfl ⟨h, hones⟩

end

theorem Image.loaded_good {g : Image} (h : g.cls = .good) : g.loaded = g.tables := by rw [Image.loaded, h]

theorem Image.loaded_not_good {g : Image} (h : g.cls ≠ .good) : g.loaded = Stored.empty := by
  unfold Image.loaded
  split
  next hg => exact absurd hg h
  next => rfl
  next => rfl

/-! ### What the steps of start-up leave alone -/

/-- The phase, the value of E, the stored tables and the store stay as they are. -/
structure OnlyOffers (s t : State) : Prop where
  phase : t.phase = s.phase
  e : t.tref.e = s.tref.e
  stored : t.stored = s.stored
  cfs : t.cfs = s.cfs

theorem OnlyOffers.refl (s : State) : OnlyOffers s s := ⟨rfl, rfl, rfl, rfl⟩

theorem OnlyOffers.trans {s t u : State} (h1 : OnlyOffers s t) (h2 : OnlyOffers t u) : OnlyOffers s u :=
  ⟨h2.phase.trans h1.phase, h2.e.trans h1.e, h2.stored.trans h1.stored, h2.cfs.trans h1.cfs⟩

theorem OnlyOffers.told (s : State) (ns : List Notice) : OnlyOffers s (s.told ns) := by
  rw [s.told_eq ns]
  exact ⟨rfl, rfl, rfl, rfl⟩

theorem OnlyOffers.offer {s t : State} (h : OnlyOffers s t) (b : NoticeBody) : OnlyOffers s (t.offer b) :=
  h.trans (t.offer_eq_told b ▸ .told t _)

theorem OnlyOffers.of_works {s t : State} (h : Works s t) : OnlyOffers s t :=
  ⟨h.phase_eq, congrArg _ h.tref_eq, h.stored_eq, h.cfs_eq⟩

theorem State.offerReset_onlyOffers (s : State) (e : Option Nat) : OnlyOffers s (s.offerReset e) := by
  unfold State.offerReset State.offerAt
  split
  · split
    · exact ⟨rfl, rfl, rfl, rfl⟩
    · exact .refl _
  · exact .refl _

theorem State.expire2P_onlyOffers (s : State) : OnlyOffers s s.expire2P := by
  unfold State.expire2P
  split
  · refine OnlyOffers.offer ?_ _
    exact ⟨rfl, rfl, rfl, rfl⟩
  · exact .refl _

theorem State.expireH_onlyOffers (s : State) : OnlyOffers s s.expireH := by
  unfold State.expireH
  split
  · refine OnlyOffers.offer ?_ _
    exact ⟨rfl, rfl, rfl, rfl⟩
  · exact .refl _

theorem State.judgeTimers_onlyOffers (s : State) : OnlyOffers s s.judgeTimers := by
  unfold State.judgeTimers
  split
  · extract_lets s1
    have h1 : OnlyOffers s s1 := ⟨rfl, rfl, rfl, rfl⟩
    split
    · exact (h1.trans (State.expire2P_onlyOffers _)).trans (State.expireH_onlyOffers _)
    · exact h1.trans (State.expireH_onlyOffers _)
  · exact (State.expire2P_onlyOffers _).trans (State.expireH_onlyOffers _)

/-- Where no timer runs the new limits change nothing (R5). -/
theorem State.judgeTimers_still {s : State} (h : s.tref.state = .unset ∨ s.tref.state = .untimed) : s.judgeTimers = s := by
  refine State.judgeTimers_none ?_ ?_
  · rcases h with h | h <;> simp [State.due2P, h]
  · rcases h with h | h <;> simp [State.dueH, h]

theorem State.startSegment_works (s : State) (k : SegNo) : Works s (s.startSegment k) := by
  unfold State.startSegment
  split
  · exact (s.startChecking_works k _).trans (State.membersUnknown_works _ _)
  · exact .refl _

/-! ### The segments (R120, R139) -/

/-- Where no two intersections share a drop, the intersection mapped to a drop is found there. -/
theorem State.mem_mappedTo {s : State} (h : s.stored.MapsUnique) {i : Ix} {k : SegNo} {d : Drop}
    (hi : s.place i = some ⟨k, d⟩) : i ∈ s.mappedTo k := by
  refine List.mem_filterMap.mpr ⟨d, List.mem_finRange d, ?_⟩
  cases hfound : s.atDrop k d with
  | none => exact absurd hi (by simpa using List.find?_eq_none.mp hfound i (mem_allIx i))
  | some j =>
    have hj : s.place j = some ⟨k, d⟩ := by
      unfold State.atDrop at hfound
      simpa using List.find?_some hfound
    rw [h j i ⟨k, d⟩ hj hi]

theorem foldl_unknown {l : List Ix} {i : Ix} (hi : i ∈ l) (s : State) :
    ((l.foldl (fun s j => s.enter j .unknown) s).member i).state = .unknown := by
  obtain ⟨before, after, rfl⟩ := List.append_of_mem hi
  rw [List.foldl_append, List.foldl_cons]
  refine (Abides.foldl (f := fun s j => State.enter s j .unknown)
    (fun s j => .modMember_state s j (·.enter .unknown) fun m _ => m.enter_state .unknown) after _).members i id ?_
  rw [State.enter, State.member_modMember_self]
  exact Member.enter_state _ _

theorem State.startChecking_state (s : State) (k : SegNo) (c : SegCause) : ((s.startChecking k c).segment k).state = .checking := by
  rw [State.startChecking, State.enterSegment, State.offer_eq_told]
  refine (Abides.told Nobody _ _).segments k ?_
  rw [State.segment_modSegment_self]

/-- An enabled segment enters CHECKING, and the members mapped to it are UNKNOWN. -/
theorem State.startSegment_brings {s : State} {k : SegNo} (h : vget s.stored.enables k = true) :
    ((s.startSegment k).segment k).state = .checking
      ∧ ∀ i ∈ s.mappedTo k, ((s.startSegment k).member i).state = .unknown := by
  have hmapped : (s.startChecking k .start).mappedTo k = s.mappedTo k := by
    unfold State.mappedTo State.atDrop State.place
    rw [(s.startChecking_works k .start).stored_eq]
  rw [State.startSegment, if_pos h]
  refine ⟨(State.membersUnknown_abides _ k).segments k (s.startChecking_state k _), fun i hi => ?_⟩
  rw [State.membersUnknown, hmapped]
  exact foldl_unknown hi _

/-- Once every segment has been looked at, the enabled ones are in CHECKING. -/
theorem State.startSegments_bring {s : State} (hmaps : s.stored.MapsUnique) {i : Ix} {k : SegNo} {d : Drop}
    (hi : s.place i = some ⟨k, d⟩) (hk : vget s.stored.enables k = true) :
    ((allSegs.foldl State.startSegment s).segment k).state = .checking
      ∧ ((allSegs.foldl State.startSegment s).member i).state = .unknown := by
  have hmem : k ∈ allSegs := List.mem_finRange k
  obtain ⟨before, after, hsegs⟩ := List.append_of_mem hmem
  rw [hsegs, List.foldl_append, List.foldl_cons]
  have hst : (before.foldl State.startSegment s).stored = s.stored :=
    (Works.foldl _ State.startSegment_works before s).stored_eq
  obtain ⟨hchecking, hunknown⟩ := State.startSegment_brings (s := before.foldl State.startSegment s) (k := k) (by rwa [hst])
  have hmapped : i ∈ (before.foldl State.startSegment s).mappedTo k := by
    refine State.mem_mappedTo (d := d) (by rwa [hst]) ?_
    rw [State.place, hst]
    exact hi
  have hafter := Abides.foldl State.startSegment_abides after ((before.foldl State.startSegment s).startSegment k)
  exact ⟨hafter.segments k hchecking, hafter.members i id (hunknown i hmapped)⟩

/-! ### The evaluation of all groups -/

theorem State.evaluate_frame (s : State) (scope : GroupSet) :
    (s.evaluate scope).phase = s.phase ∧ (s.evaluate scope).tref = s.tref ∧ (s.evaluate scope).cfs = s.cfs
      ∧ (s.evaluate scope).stored = s.tidiedTables := by
  rw [State.evaluate_eq]
  have hw : Works _ _ := .foldl _ State.evaluateGroup_works (allGroups.filter (s.inScope scope))
    (State.told { s with stored := s.tidiedTables } s.expiries)
  rw [hw.phase_eq, hw.tref_eq, hw.cfs_eq, hw.stored_eq, State.told_eq]
  exact ⟨rfl, rfl, rfl, rfl⟩

theorem State.tidiedTables_dated_nil {s : State} (h : s.stored.dated = []) : s.tidiedTables = s.stored := by
  unfold State.tidiedTables
  split
  · rw [h, tidyList, List.filterMap_nil, ← h]
  · rfl

theorem State.tidiedTables_unconsulted {s : State} (h : s.tref.state = .unset ∨ s.tref.state = .untimed) :
    s.tidiedTables = s.stored := by
  unfold State.tidiedTables
  rcases h with h | h <;> rw [h] <;> rfl

/-! ### The completion (R184) -/

/-- The state whose timers are judged at the completion: loaded, the ports open, the notice of the reset offered. -/
def State.opened (s : State) : State := s.load.openPorts.offerReset s.tref.resetNoticeE

/-- The state whose groups are evaluated at the completion. -/
def State.segmentsStarted (s : State) : State := allSegs.foldl State.startSegment s.opened.judgeTimers

theorem State.judged_onlyOffers (s : State) : OnlyOffers s.load.openPorts s.opened.judgeTimers :=
  (s.load.openPorts.offerReset_onlyOffers s.tref.resetNoticeE).trans s.opened.judgeTimers_onlyOffers

theorem State.segmentsStarted_onlyOffers (s : State) : OnlyOffers s.load.openPorts s.segmentsStarted :=
  s.judged_onlyOffers.trans (.of_works (.foldl _ State.startSegment_works _ _))

theorem State.segmentsStarted_tref {s : State} (h : s.tref.state = .unset ∨ s.tref.state = .untimed) :
    s.segmentsStarted.tref.state = s.tref.state := by
  have hopened : s.opened.tref.state = s.tref.state := by
    unfold State.opened State.offerReset State.offerAt
    split
    · split <;> rfl
    · rfl
  rw [State.segmentsStarted, (Works.foldl _ State.startSegment_works allSegs _).tref_eq,
    State.judgeTimers_still (by rwa [hopened]), hopened]

end Sys2Proof.Machine

section
open Sys2Proof Sys2Proof.Machine

-- One theorem at a time: a proof that waits for the ones before it holds a thread of its own.
set_option Elab.async false

/-- Settles O7: the load brings the tables of its image, the completion starts the segments upon them (`State.startSegments_bring`),
and the evaluation of all groups tidies the dated list alone and moves no member out of UNKNOWN (`State.evaluate_abides`). -/
theorem startUpLoadsTheImage : Obligations.StartUpLoadsTheImage := by
  unfold Obligations.StartUpLoadsTheImage
  refine ⟨⟨rfl, fun _ _ _ => ⟨Image.cls_good_iff _ _ _, Image.cls_blank_iff _ _ _, Image.cls_bad_iff _ _ _⟩⟩, ?_⟩
  intro s since hload tab
  have hexec : exec .startUpComplete s = .next (s.segmentsStarted.evaluate everyGroup).settle := by
    show execStartUpComplete s = _
    rw [execStartUpComplete, hload]
    rfl
  have hstarted := s.segmentsStarted_onlyOffers
  obtain ⟨hphase, htref, hcfs, hstored⟩ := s.segmentsStarted.evaluate_frame everyGroup
  have habides := (s.segmentsStarted.evaluate_abides everyGroup).trans (State.settle_abides _)
  have htables : s.segmentsStarted.stored = s.cfs.image.loaded := hstarted.stored
  refine ⟨_, hexec, ?_, ?_, ?_, ?_, ?_, ?_, fun hgood => ?_, fun hbad => ?_⟩
  · rw [State.settle_phase, hphase, hstarted.phase]
    rfl
  · rw [State.settle_tref, htref, hstarted.e]
    rfl
  all_goals simp only [State.settle_cfs, State.settle_stored, hcfs, hstarted.cfs]
  · rfl
  · rfl
  · rfl
  · rfl
  · rw [Image.loaded_good hgood] at htables
    refine ⟨?_, ?_, ?_, fun hclock => ?_, fun hmaps i k d hi hk => ?_⟩
    · rw [hstored, State.tidiedTables_eq, htables]
    · show s.cfs.image.cls.status = _
      rw [hgood]
      rfl
    · show s.cfs.image.cls.result = _
      rw [hgood]
      rfl
    · rw [hstored, State.tidiedTables_unconsulted (by rwa [State.segmentsStarted_tref hclock]), htables]
    · have hjudged : s.opened.judgeTimers.stored = tab := s.judged_onlyOffers.stored.trans (Image.loaded_good hgood)
      have hplace : s.opened.judgeTimers.place i = some ⟨k, d⟩ := by
        rw [State.place, hjudged]
        exact hi
      obtain ⟨hchecking, hunknown⟩ := State.startSegments_bring (by rwa [hjudged]) hplace (by rwa [hjudged])
      exact ⟨habides.segments k hchecking, habides.members i id hunknown⟩
  · rw [Image.loaded_not_good hbad] at htables
    have hnil : s.segmentsStarted.stored.dated = [] := htables ▸ rfl
    refine ⟨?_, ?_, ?_⟩
    · rw [hstored, State.tidiedTables_dated_nil hnil, htables]
    · show s.cfs.image.cls.status = _
      cases hcls : s.cfs.image.cls with
      | good => exact absurd hcls hbad
      | blank => rfl
      | bad => rfl
    · show s.cfs.image.cls.result = _
      cases hcls : s.cfs.image.cls with
      | good => exact absurd hcls hbad
      | blank => rfl
      | bad => rfl

end
end

section
/-! SUPPORT. What the read requests carry: optional fields and counted lists, the items of each object, and the answer of each
request (R45, R46, R90, R133, R149, R158, R168, R179, R186). -/

namespace Sys2Proof.Machine

-- One theorem at a time: a proof that waits for the ones before it holds a thread of its own.
set_option Elab.async false

/-! ### Optional fields and counted lists (R187) -/

theorem optItem_ite {α : Type} (w : Nat) (p : Prop) [Decidable p] (a : α) (f : α → List Item) :
    optItem w (if p then some a else none) f = if p then .present :: f a else [.absent w] := by
  split <;> rfl

theorem optItem_map {α : Type} (w : Nat) (o : Option α) (f : α → List Item) : optItem w (o.map f) id = optItem w o f := by
  cases o <;> rfl

theorem listItem_map {α : Type} (l : List α) (f : α → List Item) : listItem (l.map f) id = listItem l f := by
  rw [listItem, listItem, List.length_map, List.flatMap_map]
  rfl

/-- What a class carries, class by class in the order of Table 11-1. -/
theorem flatMap_allClasses {α : Type} (p : FaultClass → List α) :
    allClasses.flatMap p
      = p .noReply ++ p .orderMissed ++ p .transitionLate ++ p .transitionBlocked ++ p .capability ++ p .alert := by
  simp only [allClasses, List.flatMap_cons, List.flatMap_nil, List.append_nil, List.append_assoc]

/-- What a drop carries, in ascending order of drop address. -/
theorem flatMap_allDrops {α : Type} (p : Drop → List α) :
    allDrops.flatMap p = p 0 ++ p 1 ++ p 2 ++ p 3 ++ p 4 ++ p 5 ++ p 6 ++ p 7 ++ p 8 ++ p 9 ++ p 10 ++ p 11 ++ p 12 ++ p 13
      ++ p 14 ++ p 15 := by
  have hdrops : allDrops = [0, 1, 2, 3, 4, 5, 6, 7, 8, 9, 10, 11, 12, 13, 14, 15] := by decide
  simp only [hdrops, List.flatMap_cons, List.flatMap_nil, List.append_nil, List.append_assoc]

/-! ### Timetable entries (R45, R46) -/

/-- The end of an entry, if it has one, lies after E. -/
def endsAfter (ends : Option EpochMinute) (e : Nat) : Bool :=
  match ends with
  | none => true
  | some m => decide (e < m.instant)

theorem Entry.activeFor_dated {x : Entry} {day : Nat} {ends : Option EpochMinute} (hk : x.kind = .dated day ends) (g : GroupNo)
    (e : Nat) :
    x.activeFor g e = (x.groups.getLsbD g.val && (decide (startInstant day x.startMinute ≤ e) && endsAfter ends e)) := by
  unfold Entry.activeFor Entry.covers
  rw [hk, ← Bool.and_assoc]
  cases ends <;> rfl

/-- An entry is active for some group of its set when its set is not empty, it has started and it has not ended (R51). -/
theorem Entry.activeMarker_dated {x : Entry} {day : Nat} {ends : Option EpochMinute} (hk : x.kind = .dated day ends) (e : Nat) :
    x.activeMarker e
      = some (x.groups ≠ 0#16 && decide (startInstant day x.startMinute ≤ e) && endsAfter ends e) := by
  have hconst (l : List GroupNo) (p : GroupNo → Bool) (b : Bool) : (l.any fun g => p g && b) = (l.any p && b) := by
    cases b <;> simp
  have hany : (allGroups.any fun g => x.groups.getLsbD g.val) = decide (x.groups ≠ 0#16) := by
    rw [Bool.eq_iff_iff, decide_eq_true_eq, ne_eq, groupSet_eq_zero_iff]
    simp [allGroups]
  rw [Entry.activeMarker, if_pos (x.isDated_iff.mpr ⟨day, ends, hk⟩), Bool.and_assoc, ← hany, ← hconst]
  simp only [Entry.activeFor_dated hk]

theorem find?_id {id : Nat} {before : List Entry} {x : Entry} {after : List Entry} (hbefore : ∀ y ∈ before, y.id ≠ id)
    (hx : x.id = id) : (before ++ x :: after).find? (·.id = id) = some x := by
  have hnone : before.find? (·.id = id) = none := List.find?_eq_none.mpr fun y hy => by simpa using hbefore y hy
  rw [List.find?_append, hnone, Option.none_or, List.find?_cons, decide_eq_true hx]

/-- The first entry of an id, in the recurring list. -/
theorem Stored.entry_recurring {t : Stored} {id : Nat} {before : List Entry} {x : Entry} {after : List Entry}
    (h : t.recurring = before ++ x :: after) (hbefore : ∀ y ∈ before, y.id ≠ id) (hx : x.id = id) : t.entry id = some x := by
  rw [Stored.entry, h, find?_id hbefore hx]
  rfl

/-- The first entry of an id, in the dated list. -/
theorem Stored.entry_dated {t : Stored} {id : Nat} {before : List Entry} {x : Entry} {after : List Entry}
    (h : t.dated = before ++ x :: after) (hbefore : ∀ y ∈ t.recurring ++ before, y.id ≠ id) (hx : x.id = id) :
    t.entry id = some x := by
  obtain ⟨hrecurring, hdated⟩ := List.forall_mem_append.mp hbefore
  have hnone : t.recurring.find? (·.id = id) = none := List.find?_eq_none.mpr fun y hy => by simpa using hrecurring y hy
  rw [Stored.entry, h, hnone, find?_id hdated hx]
  rfl

theorem Stored.listOf_recurring {t : Stored} {x : Entry} {days : BitVec 7} (hk : x.kind = .recurring days) :
    t.listOf x = t.recurring := if_neg (by simp [Entry.isDated, hk])

theorem Stored.listOf_dated {t : Stored} {x : Entry} {day : Nat} {ends : Option EpochMinute} (hk : x.kind = .dated day ends) :
    t.listOf x = t.dated := if_pos (by simp [Entry.isDated, hk])

namespace Entry

variable (x : Entry)

/-- The fields that both kinds have, before those of one kind (R45). -/
def commonItems (kind : Nat) : List Item :=
  [.n1 x.id, .n1 (roleCode x.owner), .n1 kind, .n2 x.groups.toNat, .n1 x.plan, .n1 x.priority]

variable {x}

/-- What READ_ENTRY carries of a recurring entry. -/
theorem items_recurring {days : BitVec 7} (hk : x.kind = .recurring days) (position e : Nat) :
    x.items position e = x.commonItems 0
      ++ [.present, .n1 days.toNat, .absent 2, .n2 x.startMinute, .absent 4, .n2 x.tag.toNat, .n1 0, .n1 position, .absent 1]
      ++ optItem 5 (latestOccurrence days x.startMinute e) (fun o => [.time o]) := by
  simp [items, commonItems, kindCode, isDated, Entry.days, startDay, ends, activeMarker, occurrence, hk, optItem]

/-- What READ_ENTRY carries of a dated entry. -/
theorem items_dated {day : Nat} {ends : Option EpochMinute} (hk : x.kind = .dated day ends) (position e : Nat) :
    x.items position e = x.commonItems 1 ++ [.absent 1, .present, .n2 day, .n2 x.startMinute] ++ optItem 4 ends EpochMinute.items
      ++ [.n2 x.tag.toNat, .n1 1, .n1 position, .present,
        .n1 (boolCode (x.groups ≠ 0#16 && decide (startInstant day x.startMinute ≤ e)
          && endsAfter ends e)), .absent 5] := by
  rw [items, activeMarker_dated hk]
  simp [commonItems, kindCode, isDated, Entry.days, startDay, Entry.ends, occurrence, hk, optItem]

end Entry

/-! ### Groups (R90) -/

/-- A state that takes no part in the group is one of five. -/
theorem MemberState.not_eligible_count (st : MemberState) :
    (if (!st.eligible) = true then 1 else 0)
      = (if decide (st = .unknown) = true then 1 else 0) + (if decide (st = .free) = true then 1 else 0)
        + (if decide (st = .excluded) = true then 1 else 0) + (if decide (st = .latched) = true then 1 else 0)
        + (if decide (st = .offline) = true then 1 else 0) := by
  cases st <;> rfl

theorem length_filter_not_eligible (l : List Ix) (st : Ix → MemberState) :
    (l.filter fun i => !(st i).eligible).length
      = (l.filter fun i => decide (st i = .unknown)).length + (l.filter fun i => decide (st i = .free)).length
        + (l.filter fun i => decide (st i = .excluded)).length + (l.filter fun i => decide (st i = .latched)).length
        + (l.filter fun i => decide (st i = .offline)).length := by
  simp only [← List.countP_eq_length_filter]
  induction l with
  | nil => rfl
  | cons i l ih =>
    simp only [List.countP_cons, ih, MemberState.not_eligible_count]
    omega

/-! ### Ports (R179) -/

theorem NoticeMask.code_eq (m : NoticeMask) :
    m.code = [m.timeState, m.switchStarted, m.groupSteady, m.entryExpired, m.holdEnded, m.fault, m.alertChange, m.segmentState,
      m.storeDone].foldr (fun b n => 2 * n + if b then 1 else 0) 0 := by
  simp only [NoticeMask.code, boolCode, List.foldr_cons, List.foldr_nil]
  omega

/-- What READ_PORTS finds at the port of the request itself: the good frame is counted, after one that a gap has ended, and the
request is being served (R170, R171). -/
theorem State.handedOver_port_self (s : State) (f : RequestFrame) (rq : Request) :
    (s.handedOver f rq).port f.port
      = { s.port f.port with
          rx := .hunting
          service := some ⟨f.tag, rq, none⟩
          counters := { (s.port f.port).counters with
            request := count16 (s.port f.port).counters.request
            frameError := if (s.port f.port).rx.gap s.crystal then count16 (s.port f.port).counters.frameError
              else (s.port f.port).counters.frameError } } := by
  rw [State.handedOver, State.port_modPort_self, PortState.takeFrame_eq]

/-! ### Segments (R149) -/

/-- The phase of a transaction in flight and whether its window has been moved. -/
def FieldPhase.items : FieldPhase → List Item
  | .request => [.n1 0, .n1 (boolCode false)]
  | .window _ waited _ _ => [.n1 1, .n1 (boolCode waited)]

theorem InFlight.items_eq (x : InFlight) : x.items = [.n1 x.body.kind.code, .n1 x.target.val] ++ x.phase.items := by
  unfold InFlight.items
  cases x.phase <;> rfl

/-- The plan and Tm of a queued transaction. -/
def TxnBody.items : TxnBody → List Item
  | .order _ p => [.present, .n1 p.plan, .time p.tm]
  | .query => [.absent 6]

theorem Txn.items_eq (x : Txn) : x.items = [.n1 x.body.kind.code, .n1 x.target.val, .time x.enqueued] ++ x.body.items := by
  unfold Txn.items
  cases x.body <;> rfl

/-! ### Faults (R168) -/

/-- The counted suspension records, the group number before each. -/
theorem State.suspensionItems_eq (s : State) :
    listItem (allGroups.filterMap fun g => (s.group g).suspension.map fun x => (g, x)) (fun x => .n1 x.1.val :: x.2.items)
      = listItem (allGroups.filterMap fun g => (s.group g).suspension.map fun x => .n1 g.val :: x.items) id := by
  rw [← listItem_map, List.map_filterMap]
  simp only [Option.map_map]
  rfl

/-! ### Intersections (R133) -/

theorem Methods.byte_eq (m : Methods) :
    m.byte = (if m.shortway then 1 else 0) + (if m.delay then 2 else 0) + (if m.step then 4 else 0) := by
  obtain ⟨a, b, c⟩ := m
  cases a <;> cases b <;> cases c <;> rfl

/-! ### The answers -/

section
variable {s : State} {f : RequestFrame} (hs : s.Serves f) (hn : s.NoneIdle)
include hs hn

theorem exec_readEntry_notFound {id : Nat} (hp : parseByte f.payload = some id) (h : s.stored.entry id = none) :
    exec (.readEntry f) s = .next (s.answered f .readEntry [] .notFound []) := by
  simp only [exec, execReadEntry, hp]
  refine congrArg Host.Outcome.next (State.request_read hs rfl hn ?_)
  have h' : (s.handedOver f .readEntry).stored.entry id = none := h
  rw [readEntryBlock, h']
  rfl

theorem exec_readEntry {id : Nat} (hp : parseByte f.payload = some id) {x : Entry} (h : s.stored.entry id = some x) :
    exec (.readEntry f) s
      = .next (s.answered f .readEntry [] .ok (x.items (positionOf id (s.stored.listOf x)) s.tref.e)) := by
  simp only [exec, execReadEntry, hp]
  refine congrArg Host.Outcome.next (State.request_read hs rfl hn ?_)
  have h' : (s.handedOver f .readEntry).stored.entry id = some x := h
  rw [readEntryBlock, h']
  rfl

theorem exec_listEntries {a : ListEntriesArgs} (hp : parseListEntries f.payload = some a) (l : List Entry)
    (hl : a.selector = 0 ∧ l = s.stored.recurring ∨ a.selector = 1 ∧ l = s.stored.dated) :
    exec (.listEntries f) s = .next (s.answered f .listEntries [] .ok
      ([.n2 l.length, .n2 s.stored.entryCount] ++ listItem ((l.drop (8 * a.page)).take 8) Entry.pageItems)) := by
  simp only [exec, execListEntries, hp]
  refine congrArg Host.Outcome.next (State.request_read hs rfl hn ?_)
  rcases hl with ⟨hsel, rfl⟩ | ⟨hsel, rfl⟩ <;> simp only [listEntriesBlock, hsel] <;> rfl

theorem exec_listEntries_badArg {a : ListEntriesArgs} (hp : parseListEntries f.payload = some a) (ha : 1 < a.selector) :
    exec (.listEntries f) s = .next (s.answered f .listEntries [] .badArg []) := by
  simp only [exec, execListEntries, hp]
  refine congrArg Host.Outcome.next (State.request_read hs rfl hn ?_)
  unfold listEntriesBlock
  split
  · omega
  · omega
  · rfl

/-- READ_GROUP, READ_INTERSECTION and READ_SEGMENT of a number out of range. -/
theorem exec_reads_badArg {n : Nat} (hp : parseByte f.payload = some n) :
    (15 < n → exec (.readGroup f) s = .next (s.answered f .readGroup [] .badArg []))
      ∧ (63 < n → exec (.readIntersection f) s = .next (s.answered f .readIntersection [] .badArg []))
      ∧ (3 < n → exec (.readSegment f) s = .next (s.answered f .readSegment [] .badArg [])) := by
  simp only [exec, execReadGroup, execReadIntersection, execReadSegment, hp]
  refine ⟨fun h => ?_, fun h => ?_, fun h => ?_⟩ <;> refine congrArg Host.Outcome.next (State.request_read hs rfl hn ?_)
  · rw [readGroupBlock, inRange_none (Nat.not_lt.mpr h)]
    rfl
  · rw [readIntersectionBlock, inRange_none (Nat.not_lt.mpr h)]
    rfl
  · rw [readSegmentBlock, inRange_none (Nat.not_lt.mpr h)]
    rfl

theorem exec_readGroup (g : GroupNo) (hp : parseByte f.payload = some g.val) :
    exec (.readGroup f) s = .next (s.answered f .readGroup [] .ok (s.groupItems g)) := by
  simp only [exec, execReadGroup, hp]
  refine congrArg Host.Outcome.next (State.request_read hs rfl hn ?_)
  rw [readGroupBlock, inRange_val]
  rfl

theorem exec_readIntersection (i : Ix) (hp : parseByte f.payload = some i.val) :
    exec (.readIntersection f) s = .next (s.answered f .readIntersection [] .ok (s.intersectionItems i)) := by
  simp only [exec, execReadIntersection, hp]
  refine congrArg Host.Outcome.next (State.request_read hs rfl hn ?_)
  rw [readIntersectionBlock, inRange_val]
  rfl

theorem exec_readSegment (k : SegNo) (hp : parseByte f.payload = some k.val) :
    exec (.readSegment f) s = .next (s.answered f .readSegment [] .ok (s.segmentItems k)) := by
  simp only [exec, execReadSegment, hp]
  refine congrArg Host.Outcome.next (State.request_read hs rfl hn ?_)
  rw [readSegmentBlock, inRange_val]
  rfl

theorem exec_readFaults_summary (hp : parseReadFaults f.payload = some none) :
    exec (.readFaults f) s = .next (s.answered f .readFaults [] .ok s.faultSummary) := by
  simp only [exec, execReadFaults, hp]
  exact congrArg Host.Outcome.next (State.request_read hs rfl hn rfl)

theorem exec_readFaults_badArg {n : Nat} (hp : parseReadFaults f.payload = some (some n)) (h : 63 < n) :
    exec (.readFaults f) s = .next (s.answered f .readFaults [] .badArg []) := by
  simp only [exec, execReadFaults, hp]
  refine congrArg Host.Outcome.next (State.request_read hs rfl hn ?_)
  simp only [readFaultsBlock, inRange_none (Nat.not_lt.mpr h)]
  rfl

theorem exec_readFaults (i : Ix) (hp : parseReadFaults f.payload = some (some i.val)) :
    exec (.readFaults f) s = .next (s.answered f .readFaults [] .ok (s.faultItems i)) := by
  simp only [exec, execReadFaults, hp]
  refine congrArg Host.Outcome.next (State.request_read hs rfl hn ?_)
  simp only [readFaultsBlock, inRange_val]
  rfl

theorem exec_readPorts (hp : f.payload = []) :
    exec (.readPorts f) s = .next (s.answered f .readPorts [] .ok
      (portItems .centre ((s.handedOver f .readPorts).port .centre) ++ portItems .event ((s.handedOver f .readPorts).port .event)
        ++ portItems .cabinet ((s.handedOver f .readPorts).port .cabinet))) := by
  simp only [exec, execReadPorts, hp, parseNothing]
  exact congrArg Host.Outcome.next (State.request_read hs rfl hn rfl)

theorem exec_readStore (hp : f.payload = []) :
    exec (.readStore f) s = .next (s.answered f .readStore [] .ok s.storeItems) := by
  simp only [exec, execReadStore, hp, parseNothing]
  exact congrArg Host.Outcome.next (State.request_read hs rfl hn rfl)

end

end Sys2Proof.Machine

section
open Sys2Proof Sys2Proof.Machine

-- One theorem at a time: a proof that waits for the ones before it holds a thread of its own.
set_option Elab.async false

/-- Settles O52: each read answers with the items of the object it names; the statement's optional fields, counted lists and rows of
classes are those of the model (`optItem`, `listItem`, `allClasses`), which the reply is then read in. -/
theorem readsReportAndChangeNothing : Obligations.ReadsReportAndChangeNothing := by
  unfold Obligations.ReadsReportAndChangeNothing
  intro s f hs hn answers refuses yes may counted endItems placeItems orderItems suspensionItems perClass
  have hyes : yes = fun b => .n1 (boolCode b) := rfl
  have hmay : may = fun w o => optItem w o id := by
    funext w o
    cases o <;> rfl
  have hcounted : counted = fun l => listItem l id := by
    funext l
    show _ :: _ = _ :: _
    rw [List.flatMap_id]
  have hends : endItems = fun ends => optItem 4 ends EpochMinute.items := by
    funext ends
    show may 4 _ = _
    rw [hmay]
    exact optItem_map _ _ _
  have hplace : placeItems = fun i => optItem 2 (s.place i) Place.items := by
    funext i
    show may 2 _ = _
    rw [hmay]
    exact optItem_map _ _ _
  have horder : orderItems = fun i => optItem 8 (s.member i).order StandingOrder.items := by
    funext i
    show may 8 _ = _
    rw [hmay]
    exact optItem_map _ _ _
  have hsuspension : suspensionItems = Suspension.items := rfl
  have hclass : perClass = fun p => allClasses.flatMap p := by
    funext p
    exact (flatMap_allClasses p).symm
  clear_value perClass suspensionItems orderItems placeItems endItems counted may yes
  subst hyes hmay hcounted hends hplace horder hsuspension hclass
  have answers_of {c : Instr} {rq : Request} {items items' : List Item}
      (h : exec c s = .next (s.answered f rq [] .ok items)) (he : items = items') : answers c rq items' := he ▸ h
  refine ⟨?_, ?_, ?_, ?_, ?_⟩
  · intro id hp
    refine ⟨fun hnone => exec_readEntry_notFound hs hn hp (Stored.entry_none.mpr hnone), fun before x after hx => ⟨?_, ?_⟩⟩
    · intro days hrec hbefore hk
      refine answers_of (exec_readEntry hs hn hp (Stored.entry_recurring hrec hbefore hx)) ?_
      rw [Stored.listOf_recurring hk, hrec, positionOf_append hbefore hx, x.items_recurring hk]
      simp only [optItem_map]
      rfl
    · intro day ends hdated hbefore hk active
      have hactive : (x.groups ≠ 0#16 && decide (startInstant day x.startMinute ≤ s.tref.e)
          && endsAfter ends s.tref.e) = active := by
        cases ends <;> rfl
      refine answers_of (exec_readEntry hs hn hp (Stored.entry_dated hdated hbefore hx)) ?_
      rw [Stored.listOf_dated hk, hdated, positionOf_append (List.forall_mem_append.mp hbefore).2 hx, x.items_dated hk, hactive]
      simp only [Entry.commonItems, List.cons_append, List.nil_append]
  · intro a hp page
    refine ⟨fun hsel => answers_of (exec_listEntries hs hn hp _ (.inl ⟨hsel, rfl⟩)) ?_,
      fun hsel => answers_of (exec_listEntries hs hn hp _ (.inr ⟨hsel, rfl⟩)) ?_, exec_listEntries_badArg hs hn hp⟩
    all_goals simp only [page, listItem_map]; rfl
  · intro n hp
    obtain ⟨hgroup, hintersection, hsegment⟩ := exec_reads_badArg hs hn hp
    refine ⟨hgroup, hintersection, hsegment, ?_, ?_, ?_⟩
    · rintro g rfl r members inState
      refine answers_of (exec_readGroup hs hn g hp) ?_
      simp only [State.groupItems, optItem_map, listItem_map, length_filter_not_eligible]
      rfl
    · rintro i rfl m
      refine answers_of (exec_readIntersection hs hn i hp) ?_
      simp only [State.intersectionItems, optItem_map, ← Methods.byte_eq, Member.deglitchItems, Member.transitionItems,
        List.append_assoc, List.cons_append, List.nil_append]
      rfl
    · rintro k rfl r q c pollItems drop
      have hpoll : pollItems = fun p => p.items s.crystal := by
        funext p
        show _ ++ _ = _ ++ _
        cases hc : p.counter <;> simp only [Poll.remaining, hc] <;> rfl
      have hdrop : drop = s.dropItems k := by
        funext d
        show optItem 7 _ id = _
        rw [hpoll]
        exact optItem_map _ _ _
      clear_value drop pollItems
      subst hdrop hpoll
      refine answers_of (exec_readSegment hs hn k hp) ?_
      simp only [State.segmentItems, funext InFlight.items_eq, funext Txn.items_eq, optItem_map, optItem_ite, listItem_map,
        flatMap_allDrops, SegParams.items, SegCounters.items, List.append_assoc, List.cons_append, List.nil_append]
      rfl
  · intro o hp count
    refine ⟨?_, ?_, ?_⟩
    · rintro rfl
      refine answers_of (exec_readFaults_summary hs hn hp) ?_
      rw [State.faultSummary, State.suspensionItems_eq]
      rfl
    · rintro n rfl h
      exact exec_readFaults_badArg hs hn hp h
    · rintro i rfl m entry
      refine answers_of (exec_readFaults hs hn i hp) ?_
      simp only [State.faultItems, flatMap_allClasses, Member.classItems, optItem_map, if_true, reduceCtorEq, if_false,
        List.append_assoc, List.cons_append, List.nil_append, List.append_nil, entry]
      rfl
  · intro hp count portEntry
    refine ⟨answers_of (exec_readPorts hs hn hp) ?_, answers_of (exec_readStore hs hn hp) ?_⟩
    · have hport (p : Port) : portItems p ((s.handedOver f .readPorts).port p) = portEntry p := by
        by_cases hp : p = f.port
        · subst hp
          rw [State.handedOver_port_self, portItems, NoticeMask.code_eq]
          cases hrx : (s.port f.port).rx <;>
            simp only [portEntry, hrx, RxState.gap, count16, Request.code, if_true, decide_true, Bool.true_and, Bool.false_eq_true,
              if_false, decide_eq_true_eq, PortCounters.items, optItem, Option.isSome_some, List.cons_append, List.nil_append]
        · rw [State.handedOver, State.port_modPort_ne _ _ _ _ hp, portItems, NoticeMask.code_eq]
          simp only [portEntry, hp, if_false, decide_false, Bool.false_and, optItem_map, Bool.false_eq_true, PortCounters.items,
            List.append_assoc, List.cons_append, List.nil_append]
      rw [hport, hport, hport]
    · simp only [State.storeItems, optItem_map]
      rfl

end
end

section
/-! SUPPORT. The checks of a placement (Table 5-2), and what the blocks of PLACE_HOLD and RELEASE_HOLD do once they pass (R60, R61, R63). -/

namespace Sys2Proof.Machine

-- One theorem at a time: a proof that waits for the ones before it holds a thread of its own.
set_option Elab.async false

/-! ### The arguments -/

/-- The arguments of a placement are in range (Table 5-2, orders 1 to 3). -/
def PlaceHoldArgs.Fits (a : PlaceHoldArgs) : Prop :=
  a.group ≤ 15 ∧ a.plan ≤ 48 ∧ ∀ m, a.ends = some m → m.day ≤ 65535 ∧ m.minute ≤ 1439

theorem PlaceHoldArgs.fits_iff (a : PlaceHoldArgs) :
    a.Fits ↔ a.group < 16 ∧ a.plan ≤ 48 ∧ (a.ends.all fun m => m.ok) = true := by
  simp only [Fits, Option.all_eq_true, EpochMinute.ok, Bool.and_eq_true, decide_eq_true_eq, Nat.lt_succ_iff]

theorem PlaceHoldArgs.target_fits {a : PlaceHoldArgs} {g : GroupNo} (h : a.Fits) (hg : a.group = g.val) :
    a.target = some g := by
  rw [target, if_pos (a.fits_iff.mp h).2, hg, inRange_val]

theorem PlaceHoldArgs.target_unfit {a : PlaceHoldArgs} (h : ¬ a.Fits) : a.target = none := by
  unfold target
  split
  next hrest => exact inRange_none fun hg => h (a.fits_iff.mpr ⟨hg, hrest⟩)
  next => rfl

theorem Hold.bars_eq (h : Hold) (p : Port) : h.bars p = decide (rank p < rank h.owner) := rfl

/-! ### The checks of a placement (Table 5-2, orders 4 to 8) -/

section
variable (s : State) (p : Port) (g : GroupNo) (a : PlaceHoldArgs)

/-- Order 4: the EVENT port places holds on the event groups alone. -/
def State.MayPlace : Prop := p = .event → s.stored.eventGroups.getLsbD g.val = true

/-- Order 5: the plan is 0 or defined. -/
def State.KnowsPlan (k : Nat) : Prop := k = 0 ∨ ∃ q, s.stored.plan k = some q

/-- Order 6: an end needs a time to be judged by. -/
def State.TimesEnd : Prop := a.ends = none ∨ s.tref.state ≠ .unset

/-- Order 7: the end lies ahead. -/
def State.EndsAhead : Prop := ∀ m, a.ends = some m → s.tref.e < m.day * 864000 + m.minute * 600

theorem State.planKnown_iff (k : Nat) : s.stored.planKnown k = true ↔ s.KnowsPlan k := by
  simp only [Stored.planKnown, KnowsPlan, Bool.or_eq_true, decide_eq_true_eq, Option.isSome_iff_exists]

theorem State.mayPlace_iff : s.MayPlace p g ↔ ¬ (p = .event ∧ s.stored.eventGroups.getLsbD g.val = false) := by
  rw [MayPlace, not_and, Bool.not_eq_false]

theorem State.timesEnd_iff : s.TimesEnd a ↔ ¬ (a.ends.isSome = true ∧ s.tref.state = .unset) := by
  rw [TimesEnd, not_and_or, Bool.not_eq_true, Option.isSome_eq_false_iff, Option.isNone_iff_eq_none]

theorem State.endsAhead_iff : s.EndsAhead a ↔ ¬ (a.ends.any fun m => decide (m.instant ≤ s.tref.e)) = true := by
  rw [EndsAhead, Option.any_eq_true]
  simp only [decide_eq_true_eq, not_exists, not_and, Nat.not_le]
  rfl

variable {p g a s}

theorem placeRefusal_denied (h : ¬ s.MayPlace p g) : placeRefusal p g a s = some (plain .denied) := by
  rw [s.mayPlace_iff, not_not] at h
  exact if_pos h

theorem placeRefusal_notFound (hmay : s.MayPlace p g) (h : ¬ s.KnowsPlan a.plan) :
    placeRefusal p g a s = some (plain .notFound) := by
  rw [← s.planKnown_iff, Bool.not_eq_true] at h
  rw [placeRefusal, if_neg ((s.mayPlace_iff p g).mp hmay), if_pos h]

section
variable (hmay : s.MayPlace p g) (hknown : s.KnowsPlan a.plan)
include hmay hknown

theorem placeRefusal_untimed (h : ¬ s.TimesEnd a) : placeRefusal p g a s = some (plain .untimed) := by
  rw [s.timesEnd_iff, not_not] at h
  rw [placeRefusal, if_neg ((s.mayPlace_iff p g).mp hmay), if_neg (by simp [s.planKnown_iff, hknown]), if_pos h]

theorem placeRefusal_badArg (htimed : s.TimesEnd a) (h : ¬ s.EndsAhead a) :
    placeRefusal p g a s = some (plain .badArg) := by
  rw [s.endsAhead_iff, not_not] at h
  rw [placeRefusal, if_neg ((s.mayPlace_iff p g).mp hmay), if_neg (by simp [s.planKnown_iff, hknown]),
    if_neg ((s.timesEnd_iff a).mp htimed), if_pos h]

variable (htimed : s.TimesEnd a) (hahead : s.EndsAhead a)
include htimed hahead

theorem placeRefusal_holder :
    placeRefusal p g a s = ((s.group g).hold.filter (·.bars p)).map fun h =>
      (.heldByOther, [.n1 (roleCode h.owner), .n1 h.plan] ++ optItem 4 h.ends EpochMinute.items) := by
  rw [placeRefusal, if_neg ((s.mayPlace_iff p g).mp hmay), if_neg (by simp [s.planKnown_iff, hknown]),
    if_neg ((s.timesEnd_iff a).mp htimed), if_neg ((s.endsAhead_iff a).mp hahead)]

theorem placeRefusal_heldByOther {h : Hold} (hh : (s.group g).hold = some h) (hrank : rank p < rank h.owner) :
    placeRefusal p g a s
      = some (.heldByOther, [.n1 (roleCode h.owner), .n1 h.plan] ++ optItem 4 h.ends EpochMinute.items) := by
  rw [placeRefusal_holder hmay hknown htimed hahead, hh, Option.filter_some_pos (h.bars_eq p ▸ decide_eq_true hrank)]
  rfl

theorem placeRefusal_none (hopen : ∀ h, (s.group g).hold = some h → rank h.owner ≤ rank p) :
    placeRefusal p g a s = none := by
  rw [placeRefusal_holder hmay hknown htimed hahead]
  cases hh : (s.group g).hold with
  | none => rfl
  | some h =>
    rw [Option.filter_some_neg (h.bars_eq p ▸ decide_eq_false (Nat.not_lt.mpr (hopen h hh)))]
    rfl

end

/-! ### The block of PLACE_HOLD -/

theorem placeHoldBlock_unfit (h : ¬ a.Fits) : placeHoldBlock p a s = (s, plain .badArg) := by
  rw [placeHoldBlock, a.target_unfit h]

theorem placeHoldBlock_refused (hfits : a.Fits) (hg : a.group = g.val) {r : Answer} (h : placeRefusal p g a s = some r) :
    placeHoldBlock p a s = (s, r) := by
  rw [placeHoldBlock, a.target_fits hfits hg]
  simp only [h]

/-- The state with a hold placed on a group, or its slot emptied, and its evaluation triggered (R60, R63). -/
def State.withHold (s : State) (g : GroupNo) (h : Option Hold) : State :=
  { s with groups := vset s.groups g { s.group g with hold := h }, owed := s.owed ++ [⟨oneGroup g⟩] }

/-- The HOLD_ENDED notice of a hold that a placement from a port displaces (R67). -/
def State.displacedNotice (s : State) (g : GroupNo) (p : Port) (h : Hold) : Notice := ⟨s.tref.e, .holdEnded g h (.replaced p)⟩

theorem State.told_owe (s : State) (ns : List Notice) (scope : GroupSet) : (s.told ns).owe scope = (s.owe scope).told ns := by
  unfold State.told
  rw [State.owe_phase]
  split <;> rfl

theorem placeHoldBlock_placed (hfits : a.Fits) (hg : a.group = g.val) (h : placeRefusal p g a s = none) :
    placeHoldBlock p a s
      = ((s.withHold g (some ⟨p, a.plan, a.ends, a.tag, s.tref.e⟩)).told
            ((s.group g).hold.toList.map (s.displacedNotice g p)),
          (.ok, [.n1 g.val, .n1 a.plan] ++ optItem 4 a.ends EpochMinute.items
            ++ [.n2 a.tag.toNat, .n1 (boolCode (s.group g).hold.isSome)]
            ++ optItem 4 (s.group g).hold (fun h => [.n1 (roleCode h.owner), .n1 h.plan, .n2 h.tag.toNat]))) := by
  rw [placeHoldBlock, a.target_fits hfits hg]
  simp only [h]
  cases (s.group g).hold with
  | none => rw [Option.toList_none, List.map_nil, State.told_nil]; rfl
  | some old => simp only [State.offer_eq_told, State.told_owe]; rfl

/-! ### The block of RELEASE_HOLD -/

variable {b : ReleaseHoldArgs}

theorem releaseHoldBlock_badArg (h : 15 < b.group) : releaseHoldBlock p b s = (s, plain .badArg) := by
  rw [releaseHoldBlock, inRange_none (by omega)]

section
variable (hg : b.group = g.val)
include hg

theorem releaseHoldBlock_empty (h : (s.group g).hold = none) : releaseHoldBlock p b s = (s, plain .notFound) := by
  rw [releaseHoldBlock, hg, inRange_val]
  simp only [h]

section
variable {h : Hold} (hh : (s.group g).hold = some h)
include hh

theorem releaseHoldBlock_held :
    releaseHoldBlock p b s
      = if (b.tag.any fun t => t ≠ h.tag) = true then (s, plain .notFound)
        else if h.bars p then (s, plain .denied)
        else
          (s.withHold g none,
            (.ok, [.n1 (roleCode h.owner), .n1 h.plan] ++ optItem 4 h.ends EpochMinute.items ++ [.n2 h.tag.toNat])) := by
  rw [releaseHoldBlock, hg, inRange_val]
  simp only [hh]
  rfl

theorem releaseHoldBlock_otherTag {t : BitVec 16} (ht : b.tag = some t) (hne : t ≠ h.tag) :
    releaseHoldBlock p b s = (s, plain .notFound) := by
  rw [releaseHoldBlock_held hg hh, ht]
  exact if_pos (decide_eq_true hne)

variable (htag : ∀ t, b.tag = some t → t = h.tag)
include htag

theorem releaseHoldBlock_ownTag :
    releaseHoldBlock p b s
      = if rank p < rank h.owner then (s, plain .denied)
        else
          (s.withHold g none,
            (.ok, [.n1 (roleCode h.owner), .n1 h.plan] ++ optItem 4 h.ends EpochMinute.items ++ [.n2 h.tag.toNat])) := by
  have hno : ¬ (b.tag.any fun t => t ≠ h.tag) = true := fun hany => by
    obtain ⟨t, ht, hne⟩ := (Option.any_eq_true _ _).mp hany
    exact of_decide_eq_true hne (htag t ht)
  rw [releaseHoldBlock_held hg hh, if_neg hno]
  simp only [Hold.bars_eq, decide_eq_true_eq]

end

end

end

end Sys2Proof.Machine
end

section
open Sys2Proof Sys2Proof.Machine

-- One theorem at a time: a proof that waits for the ones before it holds a thread of its own.
set_option Elab.async false

/-- Settles O27: the checks of Table 5-2 one after another (`placeRefusal`), a placement that passes them, and a release by tag and
rank. -/
theorem holdsArePlacedAndReleased : Obligations.HoldsArePlacedAndReleased := by
  unfold Obligations.HoldsArePlacedAndReleased
  refine ⟨fun s f a hs hn ha => ?_, fun s f a hs hn ha => ?_⟩
  · intro fits endItems refused
    have hends : endItems = fun o => optItem 4 o EpochMinute.items := by
      funext o
      cases o <;> rfl
    clear_value endItems
    subst hends
    have hexec : exec (.placeHold f) s
        = .next (s.request f .placeHold (some a) (answering (placeHoldBlock f.port))).settle := by
      simp only [exec, execPlaceHold, ha]
    have answered {st : Status} {items : List Item} (hb : placeHoldBlock f.port a (s.handedOver f .placeHold)
        = (s.handedOver f .placeHold, (st, items))) : exec (.placeHold f) s = .next (s.answered f .placeHold [] st items) :=
      hexec.trans (congrArg Host.Outcome.next (State.request_read hs rfl hn hb))
    refine ⟨fun hbad => answered (placeHoldBlock_unfit hbad), fun g hfits hg => ?_⟩
    intro mayEvent known timed ahead new placed reply
    have denied {r : Answer} (h : placeRefusal f.port g a (s.handedOver f .placeHold) = some r) :
        exec (.placeHold f) s = .next (s.answered f .placeHold [] r.1 r.2) :=
      answered (placeHoldBlock_refused hfits hg h)
    have accepted (h : placeRefusal f.port g a (s.handedOver f .placeHold) = none) :
        exec (.placeHold f) s = .next (placed.answered f .placeHold ((s.group g).hold.toList.map (s.displacedNotice g f.port))
          .ok ([.n1 g.val, .n1 a.plan] ++ optItem 4 a.ends EpochMinute.items
            ++ [.n2 a.tag.toNat, .n1 (boolCode (s.group g).hold.isSome)]
            ++ optItem 4 (s.group g).hold (fun h => [.n1 (roleCode h.owner), .n1 h.plan, .n2 h.tag.toNat]))) := by
      have hq : placed.Quiet := hn.quiet.congr rfl rfl rfl
      exact hexec.trans (congrArg Host.Outcome.next
        (State.request_told hs rfl hq rfl rfl rfl (placeHoldBlock_placed hfits hg h)))
    refine ⟨fun h => denied (placeRefusal_denied h), fun hm h => denied (placeRefusal_notFound hm h),
      fun hm hk h => denied (placeRefusal_untimed hm hk h), fun hm hk ht h => denied (placeRefusal_badArg hm hk ht h),
      fun h hm hk ht ha hh hrank => denied (r := (_, _)) (placeRefusal_heldByOther hm hk ht ha hh hrank),
      fun h hm hk ht ha hh hrank => ?_, fun hm hk ht ha hh => ?_⟩
    · have hopen (h' : Hold) (hh' : (s.group g).hold = some h') : rank h'.owner ≤ rank f.port :=
        Option.some.inj (hh.symm.trans hh') ▸ hrank
      have hplaced := accepted (placeRefusal_none hm hk ht ha hopen)
      rw [hh] at hplaced
      exact hplaced.trans (by simp only [reply, List.append_assoc]; rfl)
    · have hplaced := accepted (placeRefusal_none hm hk ht ha fun h' hh' => nomatch hh.symm.trans hh')
      rw [hh] at hplaced
      exact hplaced.trans (by simp only [reply, List.append_assoc]; rfl)
  · intro refused
    have hexec : exec (.releaseHold f) s
        = .next (s.request f .releaseHold (some a) (answering (releaseHoldBlock f.port))).settle := by
      simp only [exec, execReleaseHold, ha]
    have denied {st : Status} (hb : releaseHoldBlock f.port a (s.handedOver f .releaseHold)
        = (s.handedOver f .releaseHold, plain st)) : refused st :=
      hexec.trans (congrArg Host.Outcome.next (State.request_read hs rfl hn hb))
    refine ⟨fun hbad => denied (releaseHoldBlock_badArg hbad), fun g hg => ⟨fun hh => denied (releaseHoldBlock_empty hg hh),
      fun h t hh ht hne => denied (releaseHoldBlock_otherTag hg hh ht hne),
      fun h hh htag hrank => denied ?_, fun h hh htag hrank => ?_⟩⟩
    · exact (releaseHoldBlock_ownTag (s := s.handedOver f .releaseHold) hg hh htag).trans (if_pos hrank)
    · have hq : (s.withHold g none).Quiet := hn.quiet.congr rfl rfl rfl
      have hb := (releaseHoldBlock_ownTag (p := f.port) (s := s.handedOver f .releaseHold) hg hh htag).trans
        (if_neg (Nat.not_lt.mpr hrank))
      refine hexec.trans (congrArg Host.Outcome.next ((State.request_silent hs rfl hq rfl rfl rfl hb).trans ?_))
      unfold optItem
      cases h.ends <;> rfl

end

section
/-! SUPPORT. What coordination carries over of a member's fault record, its alerts and its no-reply count: a condition may end, CAPABILITY
may be raised, and only a policy LATCHED may set a flag (R160 to R163). -/

namespace Sys2Proof.Machine

-- One theorem at a time: a proof that waits for the ones before it holds a thread of its own.
set_option Elab.async false

/-! ### A member's record -/

/-- A class whose condition has ended (R163). -/
def FaultEntry.ended (x : FaultEntry) : FaultEntry := { x with standing := false, applied := none }

/-- What is carried over of a member's record: of every class but CAPABILITY a condition may end; and where `may` holds a flag may be
set. -/
structure Member.Carried (may : Prop) (m n : Member) : Prop where
  noReplies : n.noReplies = m.noReplies
  alerts : n.alerts = m.alerts
  entry : ∀ c, c ≠ .capability → n.faults.get c = m.faults.get c ∨ n.faults.get c = (m.faults.get c).ended
  latched : ∀ c, (m.faults.get c).latched = true → (n.faults.get c).latched = true
  fresh : ¬ may → ∀ c, (n.faults.get c).latched = (m.faults.get c).latched

namespace Member.Carried

variable {may : Prop} {m n o : Member}

/-- A change of other fields. -/
theorem of_eq (hn : n.noReplies = m.noReplies) (ha : n.alerts = m.alerts) (hf : n.faults = m.faults) : Carried may m n :=
  ⟨hn, ha, fun _ _ => .inl (by rw [hf]), fun _ => by rw [hf]; exact id, fun _ _ => by rw [hf]⟩

theorem refl (may : Prop) (m : Member) : Carried may m m := .of_eq rfl rfl rfl

theorem trans (h1 : Carried may m n) (h2 : Carried may n o) : Carried may m o := by
  refine ⟨h2.noReplies.trans h1.noReplies, h2.alerts.trans h1.alerts, fun c hc => ?_,
    fun c hc => h2.latched c (h1.latched c hc), fun hno c => (h2.fresh hno c).trans (h1.fresh hno c)⟩
  rcases h1.entry c hc with h | h <;> rcases h2.entry c hc with h' | h' <;> rw [h', h]
  · exact .inl rfl
  · exact .inr rfl
  · exact .inr rfl
  · exact .inr rfl

theorem mono {may' : Prop} (h : Carried may m n) (hm : may → may') : Carried may' m n :=
  ⟨h.noReplies, h.alerts, h.entry, h.latched, fun hno => h.fresh (mt hm hno)⟩

/-- One class is given an entry with the flag kept. -/
theorem set (c : FaultClass) {x : FaultEntry} (hf : n.faults = m.faults.set c x) (hn : n.noReplies = m.noReplies)
    (ha : n.alerts = m.alerts) (hx : c ≠ .capability → x = (m.faults.get c).ended)
    (hl : (m.faults.get c).latched = true → x.latched = true) (hfresh : ¬ may → x.latched = (m.faults.get c).latched) :
    Carried may m n := by
  have hget (d : FaultClass) : n.faults.get d = if d = c then x else m.faults.get d := by
    rw [hf]
    split
    next h => rw [h, PerClass.get_set_self]
    next h => exact PerClass.get_set_ne _ _ _ _ h
  refine ⟨hn, ha, fun d hd => ?_, fun d => ?_, fun hno d => ?_⟩
  · rw [hget]
    split
    next h =>
      subst h
      exact .inr (hx hd)
    next => exact .inl rfl
  · rw [hget]
    split
    next h =>
      subst h
      exact hl
    next => exact id
  · rw [hget]
    split
    next h =>
      subst h
      exact hfresh hno
    next => rfl

end Member.Carried

section
variable (may : Prop) (m : Member)

theorem Member.clearCond_carried (c : FaultClass) : Carried may m (m.clearCond c) :=
  .set c rfl rfl rfl (fun _ => rfl) id fun _ => rfl

theorem Member.clearTransitionConds_carried : Carried may m m.clearTransitionConds :=
  (m.clearCond_carried may .transitionLate).trans (Member.clearCond_carried may _ .transitionBlocked)

theorem Member.enter_carried (st : MemberState) : Carried may m (m.enter st) := by
  unfold Member.enter
  extract_lets m1 m2
  have h2 : Carried may m m2 := by
    refine Carried.trans (n := m1) ?_ (.of_eq rfl rfl rfl)
    unfold m1
    split
    · exact .of_eq rfl rfl rfl
    · exact .refl _ _
  split
  · exact h2.trans (Member.clearTransitionConds_carried _ _)
  · exact h2.trans (Member.clearTransitionConds_carried _ _)
  · exact h2.trans (Member.clearTransitionConds_carried _ _)
  · exact h2.trans (Member.clearTransitionConds_carried _ _)
  · exact h2

theorem Member.recordRaise_carried (pol : Policy) : Carried may m (m.recordRaise .capability pol none none) :=
  .set .capability rfl rfl rfl (fun h => absurd rfl h) id fun _ => rfl

end

/-! ### Operations -/

/-- The policy of CAPABILITY is LATCHED. -/
def State.Latches (s : State) : Prop := (s.stored.policies.get .capability).policy = .latched

/-- An operation carries the members' records over, and sets a flag of the members of `P` alone. -/
structure Carries (P : Ix → Prop) (s t : State) : Prop where
  policies : t.stored.policies = s.stored.policies
  members : ∀ i, Member.Carried (s.Latches ∧ P i) (s.member i) (t.member i)

namespace Carries

variable {P : Ix → Prop} {s t u : State}

theorem of_eq (hp : t.stored.policies = s.stored.policies) (hm : t.members = s.members) : Carries P s t :=
  ⟨hp, fun i => .of_eq (by rw [State.member, State.member, hm]) (by rw [State.member, State.member, hm])
    (by rw [State.member, State.member, hm])⟩

theorem refl (P : Ix → Prop) (s : State) : Carries P s s := .of_eq rfl rfl

theorem setGroup (P : Ix → Prop) (s : State) (g : GroupNo) (r : Group) : Carries P s (s.setGroup g r) := .of_eq rfl rfl

theorem latches (h : Carries P s t) : t.Latches ↔ s.Latches := by rw [State.Latches, h.policies]; rfl

theorem trans (h1 : Carries P s t) (h2 : Carries P t u) : Carries P s u :=
  ⟨h2.policies.trans h1.policies, fun i => (h1.members i).trans ((h2.members i).mono fun h => ⟨h1.latches.mp h.1, h.2⟩)⟩

theorem mono {Q : Ix → Prop} (h : Carries P s t) (hPQ : ∀ i, P i → Q i) : Carries Q s t :=
  ⟨h.policies, fun i => (h.members i).mono fun hm => ⟨hm.1, hPQ i hm.2⟩⟩

theorem foldl {α : Type} {f : State → α → State} {l : List α} (h : ∀ s, ∀ a ∈ l, Carries P s (f s a)) (s : State) :
    Carries P s (l.foldl f s) := by
  induction l generalizing s with
  | nil => exact .refl _ _
  | cons a l ih => exact (h s a (.head _)).trans (ih (fun s b hb => h s b (.tail _ hb)) _)

theorem modMember {i : Ix} {f : Member → Member} (h : Member.Carried (s.Latches ∧ P i) (s.member i) (f (s.member i))) :
    Carries P s (s.modMember i f) := by
  refine ⟨rfl, fun j => ?_⟩
  by_cases hj : j = i
  · subst hj
    rwa [State.member_modMember_self]
  · rw [State.member_modMember_ne s i j f hj]
    exact .refl _ _

end Carries

section
variable (P : Ix → Prop) (s : State) (i : Ix)

theorem State.offer_carries (b : NoticeBody) : Carries P s (s.offer b) :=
  .of_eq (by rw [State.offer_stored]) (State.offer_members _ _)

theorem State.told_carries (ns : List Notice) : Carries P s (s.told ns) :=
  .of_eq (by rw [State.told_stored]) (State.told_members _ _)

theorem State.testsOf_carries : Carries P s (s.testsOf i) := by
  refine .of_eq ?_ (State.testsOf_members _ _)
  rw [(s.testsOf_works i).stored_eq]

theorem State.clearCond_carries (c : FaultClass) : Carries P s (s.clearCond i c) := .modMember (Member.clearCond_carried _ _ c)

theorem State.enter_carries (st : MemberState) : Carries P s (s.enter i st) := .modMember (Member.enter_carried _ _ st)

theorem State.clearOrder_carries : Carries P s (s.clearOrder i) :=
  .modMember ((Member.clearCond_carried _ _ .orderMissed).trans (.of_eq rfl rfl rfl))

theorem State.dropOrder_carries : Carries P s (s.dropOrder i) := by
  unfold State.dropOrder
  split
  · exact .of_eq rfl rfl
  · exact .refl _ _

theorem State.placeOrder_carries (kind : OrderKind) (p : OrderPayload) : Carries P s (s.placeOrder i kind p) := by
  unfold State.placeOrder
  extract_lets s1 s2
  have h1 : Carries P s s1 := by
    unfold s1
    split
    · exact .of_eq rfl rfl
    · exact .refl _ _
  have h2 : Carries P s1 s2 := .modMember ((Member.clearCond_carried _ _ .orderMissed).trans (.of_eq rfl rfl rfl))
  exact (h1.trans h2).trans (.of_eq rfl rfl)

theorem State.release_carries (tm : Nat) : Carries P s (s.release i tm) := by
  unfold State.release
  extract_lets s1
  have h1 : Carries P s s1 := by
    unfold s1
    split
    · exact .modMember (Member.clearTransitionConds_carried _ _)
    · exact .refl _ _
  split
  · exact h1.trans (State.clearOrder_carries _ _ _)
  · exact h1.trans (State.placeOrder_carries _ _ _ _ _)

theorem State.releaseTo_carries (tm : Nat) (st : MemberState) : Carries P s ((s.release i tm).enter i st) :=
  (s.release_carries P i tm).trans (State.enter_carries _ _ _ _)

theorem State.suspendMember_carries : Carries P s (s.suspendMember i) := by
  unfold State.suspendMember
  split
  · exact s.releaseTo_carries _ _ _ _
  · exact s.releaseTo_carries _ _ _ _
  · exact s.releaseTo_carries _ _ _ _
  · exact s.releaseTo_carries _ _ _ _
  · extract_lets s1
    have h1 : Carries P s s1 := s.release_carries _ _ _
    split
    · exact h1
    · exact h1.trans (State.enter_carries _ _ _ _)
  · exact .refl _ _

theorem State.suspend_carries (g : GroupNo) (c : FaultClass) : Carries P s (s.suspend g c i) :=
  (Carries.setGroup _ _ _ _).trans (.foldl (fun s i _ => s.suspendMember_carries P i) _)

theorem State.exclude_carries : Carries P s (s.exclude i) := by
  unfold State.exclude
  split
  · exact s.enter_carries _ _ _
  · exact s.enter_carries _ _ _
  · exact s.enter_carries _ _ _
  · exact s.enter_carries _ _ _
  · exact .refl _ _

variable {P s i} (hP : P i)
include hP

/-- A latch sets the flag of its member (R161). -/
theorem State.latch_carries (h : s.Latches) : Carries P s (s.latch i .capability) := by
  unfold State.latch
  extract_lets s1
  have h1 : Carries P s s1 := .modMember (.set .capability rfl rfl rfl (fun hne => absurd rfl hne) (fun _ => rfl)
    fun hno => absurd ⟨h, hP⟩ hno)
  split
  · exact h1.trans (s1.releaseTo_carries _ _ _ _)
  · exact h1.trans (s1.releaseTo_carries _ _ _ _)
  · exact h1.trans (s1.releaseTo_carries _ _ _ _)
  · exact h1.trans (s1.releaseTo_carries _ _ _ _)
  · exact h1.trans (s1.releaseTo_carries _ _ _ _)
  · exact h1

theorem State.raise_capability_carries : Carries P s (s.raise i .capability) := by
  unfold State.raise
  extract_lets pair s1 s2 s3
  have h1 : Carries P s s1 := .modMember (Member.recordRaise_carried _ _ _)
  have h2 : Carries P s s2 := by
    unfold s2
    split
    · exact h1
    · exact h1.trans (State.offer_carries _ _ _)
  split
  next hpol =>
    have h3 : Carries P s s3 := h2.trans (State.latch_carries hP (h2.latches.mpr hpol))
    split
    · split
      · exact h3.trans (State.suspend_carries _ _ _ _ _)
      · exact h3
    · exact h3.trans (State.testsOf_carries _ _ _)
  next => exact (h2.trans (State.exclude_carries _ _ _)).trans (State.testsOf_carries _ _ _)
  next => exact h2
  next => exact h2

theorem State.failCheck_carries : Carries P s (s.failCheck i) := by
  unfold State.failCheck
  extract_lets m s1
  have h1 : Carries P s s1 := by
    unfold s1
    split
    · exact s.releaseTo_carries _ _ _ _
    · exact .refl _ _
  exact (h1.trans (State.raise_capability_carries hP)).trans (State.testsOf_carries _ _ _)

theorem State.orderMember_carries (plan tm : Nat) : Carries P s (s.orderMember i plan tm) := by
  unfold State.orderMember
  split
  · split
    · extract_lets s1
      have h1 : Carries P s s1 := (s.clearCond_carries _ _ _).trans (State.placeOrder_carries _ _ _ _ _)
      have h2 : Carries P s1 (s1.modMember i fun m => (m.enter .ordered).clearTransition) :=
        .modMember ((Member.enter_carried _ _ _).trans (.of_eq rfl rfl rfl))
      exact (h1.trans h2).trans (State.testsOf_carries _ _ _)
    · exact State.failCheck_carries hP
  · exact State.failCheck_carries hP

theorem State.readmit_carries (b : Bool) : Carries P s (s.readmit i b) := by
  unfold State.readmit
  extract_lets s1 stay kept
  have h1 : Carries P s s1 := s.enter_carries _ _ _
  have hstay : Carries P s stay := by
    unfold stay
    split
    · exact h1.trans (State.release_carries _ _ _ _)
    · exact h1
  have hkept : Carries P s ((s1.enter i .ordered).testsOf i) :=
    (h1.trans (State.enter_carries _ _ _ _)).trans (State.testsOf_carries _ _ _)
  have hordered (plan tm : Nat) : Carries P s (s1.orderMember i plan tm) := h1.trans (State.orderMember_carries hP _ _)
  split
  · exact hstay
  · extract_lets r
    split
    · exact hstay
    · exact hstay
    · split
      · exact hstay
      · split
        · exact hkept
        · exact hordered _ _
    · split
      · exact hkept
      · exact hordered _ _
    · split
      · exact hkept
      · exact hordered _ _

end

/-! ### Switch starts and evaluations (R47, R74) -/

/-- Any member. -/
def Anybody (_ : Ix) : Prop := True

theorem State.switchTake_carries (g : GroupNo) (s : State) (i : Ix) : Carries Anybody s (State.switchTake g s i) := by
  unfold State.switchTake
  extract_lets r
  split
  · split
    · exact (s.release_carries _ _ _).trans (.modMember ((Member.enter_carried _ _ _).trans (.of_eq rfl rfl rfl)))
    · exact State.orderMember_carries trivial _ _
  · exact .refl _ _

theorem State.withdraw_carries (g : GroupNo) (s : State) (i : Ix) : Carries Anybody s (State.withdraw g s i) := by
  unfold State.withdraw
  split
  · exact (s.dropOrder_carries _ _).trans (State.clearOrder_carries _ _ _)
  · exact .refl _ _

theorem State.switchEnds_carries (g : GroupNo) (s : State) (i : Ix) : Carries Anybody s (State.switchEnds g s i) := by
  unfold State.switchEnds
  split
  · have h1 : Carries Anybody s (s.modMember i fun m => m.clearTransitionConds.clearCond .capability) :=
      .modMember ((Member.clearTransitionConds_carried _ _).trans (Member.clearCond_carried _ _ _))
    unfold State.tryReadmit
    split
    · exact h1.trans (State.readmit_carries trivial _)
    · exact h1
  · exact .refl _ _

theorem State.startSwitch_carries (s : State) (g : GroupNo) : Carries Anybody s (s.startSwitch g) := by
  unfold State.startSwitch
  extract_lets r ts members found s1 s2 s3 s4
  have h2 : Carries Anybody s s2 := (Carries.setGroup _ _ _ _).trans (State.offer_carries _ _ _)
  have h3 : Carries Anybody s s3 := h2.trans (.foldl (fun s i _ => s.switchTake_carries g i) _)
  have h4 : Carries Anybody s s4 := h3.trans (.foldl (fun s i _ => s.withdraw_carries g i) _)
  exact h4.trans (.foldl (fun s i _ => s.switchEnds_carries g i) _)

theorem State.evaluateGroup_carries (s : State) (g : GroupNo) : Carries Anybody s (s.evaluateGroup g) := by
  unfold State.evaluateGroup
  extract_lets w r s1
  have h1 : Carries Anybody s s1 := .of_eq rfl rfl
  split
  · exact h1.trans (State.startSwitch_carries _ _)
  · exact h1

theorem State.evaluate_carries (s : State) (scope : GroupSet) : Carries Anybody s (s.evaluate scope) := by
  rw [State.evaluate_eq]
  have htidied : Carries Anybody s { s with stored := s.tidiedTables } := .of_eq (by rw [s.tidiedTables_eq]) rfl
  exact (htidied.trans (State.told_carries _ _ _)).trans (.foldl (fun s g _ => s.evaluateGroup_carries g) _)

theorem State.resume_carries (s : State) (g : GroupNo) : Carries Anybody s (s.resume g) :=
  (Carries.setGroup _ _ _ _).trans (State.evaluate_carries _ _)

end Sys2Proof.Machine
end

section
/-! SUPPORT. What a clear makes of one member (R166, R167): the classes whose flag is set, the no-reply count and the alerts; and how much
of that is left at the end, when other members are cleared and groups are resumed before and after it. -/

namespace Sys2Proof.Machine

-- One theorem at a time: a proof that waits for the ones before it holds a thread of its own.
set_option Elab.async false

/-! ### The classes of a member (R167) -/

/-- The entry of a class after a clear: without its flag and its condition, when the flag was set. -/
def FaultEntry.cleared (x : FaultEntry) : FaultEntry := if x.latched then ⟨false, false, x.count, none⟩ else x

/-- MANUAL and FLASH made not standing, with their counters 0 (Table 11-3). -/
def clearedAlerts (a : PerAlert AlertWatch) : PerAlert AlertWatch := { a with manual := ⟨false, 0⟩, flash := ⟨false, 0⟩ }

/-- A member's record after its classes have been cleared. -/
structure Member.Cleared (m n : Member) : Prop where
  state : n.state = m.state
  order : n.order = m.order
  capability : n.capability = m.capability
  entry : ∀ c, n.faults.get c = (m.faults.get c).cleared
  noReplies : n.noReplies = if (m.faults.get .noReply).latched = true then 0 else m.noReplies
  alerts : n.alerts = if (m.faults.get .alert).latched = true then clearedAlerts m.alerts else m.alerts

/-- One class of a member's record is cleared. -/
def Member.clearedOf (m : Member) (c : FaultClass) : Member :=
  if (m.faults.get c).latched then
    { m with
      faults := m.faults.set c (m.faults.get c).cleared
      missCause := if c = .orderMissed then none else m.missCause
      missReason := if c = .orderMissed then none else m.missReason
      noReplies := if c = .noReply then 0 else m.noReplies
      alerts := if c = .alert then clearedAlerts m.alerts else m.alerts }
  else m

section
variable (m : Member) (c : FaultClass)

theorem Member.clearedOf_get (d : FaultClass) :
    (m.clearedOf c).faults.get d = if d = c then (m.faults.get d).cleared else m.faults.get d := by
  unfold clearedOf
  by_cases hl : (m.faults.get c).latched = true
  · rw [if_pos hl]
    by_cases hd : d = c
    · rw [if_pos hd, hd]
      exact PerClass.get_set_self _ _ _
    · rw [if_neg hd]
      exact PerClass.get_set_ne _ _ _ _ hd
  · rw [if_neg hl]
    by_cases hd : d = c
    · rw [if_pos hd, hd, FaultEntry.cleared, if_neg hl]
    · rw [if_neg hd]

theorem Member.clearedOf_state : (m.clearedOf c).state = m.state := by
  unfold clearedOf
  split <;> rfl

theorem Member.clearedOf_order : (m.clearedOf c).order = m.order := by
  unfold clearedOf
  split <;> rfl

theorem Member.clearedOf_capability : (m.clearedOf c).capability = m.capability := by
  unfold clearedOf
  split <;> rfl

theorem Member.clearedOf_noReplies :
    (m.clearedOf c).noReplies = if c = .noReply ∧ (m.faults.get c).latched = true then 0 else m.noReplies := by
  unfold clearedOf
  by_cases hl : (m.faults.get c).latched = true <;> simp [hl]

theorem Member.clearedOf_alerts :
    (m.clearedOf c).alerts = if c = .alert ∧ (m.faults.get c).latched = true then clearedAlerts m.alerts else m.alerts := by
  unfold clearedOf
  by_cases hl : (m.faults.get c).latched = true <;> simp [hl]

/-- The classes are cleared one after another, in the order of Table 11-1. -/
theorem Member.cleared_fold : m.Cleared (allClasses.foldl Member.clearedOf m) := by
  refine ⟨?_, ?_, ?_, fun d => ?_, ?_, ?_⟩
  · simp only [allClasses, List.foldl, clearedOf_state]
  · simp only [allClasses, List.foldl, clearedOf_order]
  · simp only [allClasses, List.foldl, clearedOf_capability]
  · cases d <;> simp [allClasses, clearedOf_get]
  · simp [allClasses, clearedOf_noReplies, clearedOf_get]
  · simp [allClasses, clearedOf_alerts, clearedOf_get]

end

section
variable (G : GroupNo → Prop) (s : State) (i : Ix)

theorem State.endLatched_member (c : FaultClass) (h : ((s.member i).faults.get c).latched = true) :
    (s.endLatched i c).member i = (s.member i).clearedOf c := by
  rw [Member.clearedOf, if_pos h, FaultEntry.cleared, if_pos h]
  unfold State.endLatched
  extract_lets s1 prev s2 new
  have h1 : s1.member i = _ := State.member_modMember_self _ _ _
  split
  next =>
    rw [State.member_modMember_self, h1]
    rfl
  next =>
    have h2 : s2.member i = _ := State.member_modMember_self _ _ _
    have h3 : (if new = prev then s2 else s2.offer (.alertChange i new prev)).member i = s2.member i := by
      split
      · rfl
      · rw [State.member, State.offer_members, State.member]
    rw [h3, h2, h1]
    rfl
  next hn ha =>
    rw [h1]
    cases c with
    | noReply => exact absurd rfl hn
    | alert => exact absurd rfl ha
    | orderMissed => rfl
    | transitionLate => rfl
    | transitionBlocked => rfl
    | capability => rfl

theorem State.endLatched_moves (c : FaultClass) : Moves (· = i) G s (s.endLatched i c) := by
  have hmod (u : State) (f : Member → Member) : Moves (· = i) G u (u.modMember i f) := (Upon.modMember u i f).moves (.modMember _ _ _)
  unfold State.endLatched
  extract_lets s1 prev s2 new
  have h1 : Moves (· = i) G s s1 := hmod _ _
  split
  · exact h1.trans (hmod _ _)
  · have h2 : Moves (· = i) G s s2 := h1.trans (hmod _ _)
    split
    · exact h2
    · exact h2.trans (.offer _ _ _ _)
  · exact h1

/-- The classes of a member whose flag is set are cleared. -/
def State.clearClasses : State := allClasses.foldl (State.clearClass i) s

theorem State.clearClasses_moves : Moves (· = i) G s (s.clearClasses i) := by
  unfold State.clearClasses
  induction allClasses generalizing s with
  | nil => exact .refl _ _ _
  | cons c l ih =>
    refine Moves.trans ?_ (ih (State.clearClass i s c))
    unfold State.clearClass
    split
    · exact s.endLatched_moves G i c
    · exact .refl _ _ _

theorem State.clearClasses_member : (s.member i).Cleared ((s.clearClasses i).member i) := by
  have hfold (l : List FaultClass) (u : State) :
      (l.foldl (State.clearClass i) u).member i = l.foldl Member.clearedOf (u.member i) := by
    induction l generalizing u with
    | nil => rfl
    | cons c l ih =>
      rw [List.foldl_cons, List.foldl_cons, ih]
      congr 1
      unfold State.clearClass
      split
      next h => exact u.endLatched_member i c h
      next h => rw [Member.clearedOf, if_neg h]
  rw [State.clearClasses, hfold]
  exact Member.cleared_fold _

end

/-! ### What is left of a clear at the end -/

/-- What a clear has made of the flags of a member, whatever came before and after it. -/
structure Member.Wiped (latches : Prop) (m n : Member) : Prop where
  entry : ∀ c, (m.faults.get c).latched = true → c ≠ .capability →
    n.faults.get c = ⟨false, false, (m.faults.get c).count, none⟩
  unlatched : ¬ latches → ∀ c, (m.faults.get c).latched = true → (n.faults.get c).latched = false
  noReplies : n.noReplies = if (m.faults.get .noReply).latched = true then 0 else m.noReplies
  alerts : n.alerts = if (m.faults.get .alert).latched = true then clearedAlerts m.alerts else m.alerts

theorem Member.Carried.latched_eq {may : Prop} {m n : Member} (h : Member.Carried may m n) {c : FaultClass}
    (hc : c ≠ .capability) : (n.faults.get c).latched = (m.faults.get c).latched ∧ (n.faults.get c).count = (m.faults.get c).count := by
  rcases h.entry c hc with h | h <;> rw [h]
  · exact ⟨rfl, rfl⟩
  · exact ⟨rfl, rfl⟩

section
variable {latches : Prop} {m n o : Member}

theorem Member.Cleared.wiped (h : m.Cleared n) : m.Wiped latches n := by
  have hentry (c : FaultClass) (hc : (m.faults.get c).latched = true) :
      n.faults.get c = ⟨false, false, (m.faults.get c).count, none⟩ := by
    rw [h.entry, FaultEntry.cleared, if_pos hc]
  exact ⟨fun c hc _ => hentry c hc, fun _ c hc => by rw [hentry c hc], h.noReplies, h.alerts⟩

theorem Member.Wiped.then {may : Prop} (h1 : m.Wiped latches n) (h2 : n.Carried may o) (hmay : may → latches) :
    m.Wiped latches o := by
  refine ⟨fun c hc hne => ?_, fun hno c hc => ?_, h2.noReplies.trans h1.noReplies, h2.alerts.trans h1.alerts⟩
  · rcases h2.entry c hne with h | h <;> rw [h, h1.entry c hc hne]
    rfl
  · rw [h2.fresh (mt hmay hno), h1.unlatched hno c hc]

theorem Member.Carried.wiped {may : Prop} (h1 : m.Carried may n) (h2 : n.Wiped latches o) : m.Wiped latches o := by
  refine ⟨fun c hc hne => ?_, fun hno c hc => h2.unlatched hno c (h1.latched c hc), ?_, ?_⟩
  · rw [h2.entry c (h1.latched c hc) hne, (h1.latched_eq hne).2]
  · rw [h2.noReplies, (h1.latched_eq (by decide)).1, h1.noReplies]
  · rw [h2.alerts, (h1.latched_eq (by decide)).1, h1.alerts]

theorem Member.Carried.anyLatched {may : Prop} (h : m.Carried may n) (hm : m.anyLatched = true) : n.anyLatched = true := by
  obtain ⟨c, hc, hl⟩ := List.any_eq_true.mp hm
  exact List.any_eq_true.mpr ⟨c, hc, h.latched c hl⟩

theorem Member.Carried.anyLatched_eq {may : Prop} (h : m.Carried may n) (hno : ¬ may) : n.anyLatched = m.anyLatched :=
  List.any_congr rfl fun c => h.fresh hno c

end

/-- The members of a list have been cleared once each; where `P` holds, other members may have been latched meanwhile. -/
structure Wipes (P : Ix → Prop) (l : List Ix) (s t : State) : Prop where
  policies : t.stored.policies = s.stored.policies
  wiped : ∀ i ∈ l, (s.member i).Wiped s.Latches (t.member i)
  others : ∀ i, i ∉ l → (s.member i).Carried (s.Latches ∧ P i) (t.member i)

namespace Wipes

variable {P : Ix → Prop} {k l : List Ix} {s t u : State}

theorem latches (h : Wipes P l s t) : t.Latches ↔ s.Latches := by rw [State.Latches, h.policies]; rfl

theorem append (h1 : Wipes P k s t) (h2 : Wipes P l t u) (hd : k.Disjoint l) : Wipes P (k ++ l) s u := by
  refine ⟨h2.policies.trans h1.policies, fun i hi => ?_, fun i hi => ?_⟩
  · rcases List.mem_append.mp hi with hk | hl
    · exact (h1.wiped i hk).then (h2.others i fun hl => hd hk hl) fun h => h1.latches.mp h.1
    · have hw := (h1.others i fun hk => hd hk hl).wiped (h2.wiped i hl)
      rwa [propext h1.latches] at hw
  · rw [List.mem_append, not_or] at hi
    exact (h1.others i hi.1).trans ((h2.others i hi.2).mono fun h => ⟨h1.latches.mp h.1, h.2⟩)

theorem mono {Q : Ix → Prop} (h : Wipes P l s t) (hPQ : ∀ i, P i → Q i) : Wipes Q l s t :=
  ⟨h.policies, h.wiped, fun i hi => (h.others i hi).mono fun hm => ⟨hm.1, hPQ i hm.2⟩⟩

end Wipes

theorem Carries.wipes {P : Ix → Prop} {s t : State} (h : Carries P s t) : Wipes P [] s t :=
  ⟨h.policies, fun _ hi => absurd hi List.not_mem_nil, fun i _ => h.members i⟩

theorem Member.cleared_of_calm {m : Member} (h : m.anyLatched = false) : m.Cleared m := by
  have hno (c : FaultClass) : ¬ (m.faults.get c).latched = true := fun hl => by
    have hany : m.anyLatched = true := List.any_eq_true.mpr ⟨c, by cases c <;> decide, hl⟩
    rw [h] at hany
    cases hany
  refine ⟨rfl, rfl, rfl, fun c => ?_, ?_, ?_⟩
  · rw [FaultEntry.cleared, if_neg (hno c)]
  · rw [if_neg (hno _)]
  · rw [if_neg (hno _)]

theorem State.clearMember_calm {s : State} {i : Ix} (h : (s.member i).anyLatched = false) : s.clearMember i = s := by
  rw [State.clearMember, h]
  rfl

theorem State.clearMember_latched {s : State} {i : Ix} (h : (s.member i).anyLatched = true) :
    s.clearMember i
      = if (s.member i).state = .latched then
          if ((s.clearClasses i).member i).anyRecovering then (s.clearClasses i).enter i .excluded
          else (s.clearClasses i).readmit i false
        else s.clearClasses i := by
  rw [← (s.clearClasses_member i).state]
  unfold State.clearMember
  rw [if_pos h]
  rfl

theorem State.clearMember_wipes (s : State) (i : Ix) : Wipes Nobody [i] s (s.clearMember i) := by
  cases hl : (s.member i).anyLatched with
  | false =>
    rw [State.clearMember_calm hl]
    refine ⟨rfl, fun j hj => ?_, fun j _ => .refl _ _⟩
    rw [List.mem_singleton.mp hj]
    exact (Member.cleared_of_calm hl).wiped
  | true =>
    have hclear := s.clearClasses_moves (fun _ => False) i
    have hcarry : Carries (· = i) (s.clearClasses i) (s.clearMember i) := by
      rw [State.clearMember_latched hl]
      split
      · split
        · exact State.enter_carries _ _ _ _
        · exact State.readmit_carries (P := (· = i)) rfl _
      · exact .refl _ _
    have hst := hclear.works.stored_eq
    have hlatches : (s.clearClasses i).Latches = s.Latches := by rw [State.Latches, hst]; rfl
    refine ⟨by rw [hcarry.policies, hst], fun j hj => ?_, fun j hj => ?_⟩
    · rw [List.mem_singleton.mp hj]
      exact (s.clearClasses_member i).wiped.then (hcarry.members i) fun h => hlatches ▸ h.1
    · have hj : j ≠ i := fun h => hj (List.mem_singleton.mpr h)
      have hm := hcarry.members j
      rw [hclear.members j hj] at hm
      exact hm.mono fun h => absurd h.2 hj

/-! ### The members that are counted (R166) -/

/-- The members of a list that have a latched flag. -/
def State.latchedOf (s : State) (l : List Ix) : List Ix := l.filter fun i => (s.member i).anyLatched

/-- The members of a list have been cleared and counted, with any that were latched meanwhile. -/
structure Clears (P : Ix → Prop) (l : List Ix) (c d : Clearing) : Prop extends Wipes P l c.s d.s where
  counted : c.members + (c.s.latchedOf l).length ≤ d.members
  exact : (∀ i, ¬ (c.s.Latches ∧ P i)) → d.members = c.members + (c.s.latchedOf l).length

namespace Clears

variable {P : Ix → Prop} {k l : List Ix} {c d e : Clearing}

theorem append (h1 : Clears P k c d) (h2 : Clears P l d e) (hd : k.Disjoint l) : Clears P (k ++ l) c e := by
  have hlen : (c.s.latchedOf (k ++ l)).length = (c.s.latchedOf k).length + (c.s.latchedOf l).length := by
    rw [State.latchedOf, List.filter_append, List.length_append]
    rfl
  have hcarried (i : Ix) (hi : i ∈ l) := h1.others i fun hk => hd hk hi
  refine ⟨h1.toWipes.append h2.toWipes hd, ?_, fun hno => ?_⟩
  · have hmono : (c.s.latchedOf l).length ≤ (d.s.latchedOf l).length := by
      simp only [State.latchedOf, ← List.countP_eq_length_filter]
      exact List.countP_mono_left fun i hi => (hcarried i hi).anyLatched
    have := h1.counted
    have := h2.counted
    omega
  · have heq : d.s.latchedOf l = c.s.latchedOf l := List.filter_congr fun i hi => (hcarried i hi).anyLatched_eq (hno i)
    rw [h2.exact fun i h => hno i ⟨h1.latches.mp h.1, h.2⟩, h1.exact hno, heq, hlen]
    omega

theorem mono {Q : Ix → Prop} (h : Clears P l c d) (hPQ : ∀ i, P i → Q i) : Clears Q l c d :=
  ⟨h.toWipes.mono hPQ, h.counted, fun hno => h.exact fun i hi => hno i ⟨hi.1, hPQ i hi.2⟩⟩

theorem refl (P : Ix → Prop) (c : Clearing) : Clears P [] c c := ⟨(Carries.refl P c.s).wipes, Nat.le_refl _, fun _ => rfl⟩

end Clears

theorem Clearing.member_clears (c : Clearing) (i : Ix) : Clears Nobody [i] c (c.member i) := by
  have hcount : (c.member i).members = c.members + (c.s.latchedOf [i]).length := by
    unfold Clearing.member State.latchedOf
    cases hl : (c.s.member i).anyLatched <;> simp [hl]
  exact ⟨c.s.clearMember_wipes i, hcount.ge, fun _ => hcount⟩

theorem Clearing.members_clears {l : List Ix} (hl : l.Nodup) (c : Clearing) : Clears Nobody l c (l.foldl Clearing.member c) := by
  induction l generalizing c with
  | nil => exact .refl _ _
  | cons i l ih =>
    obtain ⟨hi, hl⟩ := List.nodup_cons.mp hl
    exact (c.member_clears i).append (ih hl _) (List.singleton_disjoint.mpr hi)

end Sys2Proof.Machine
end

section
/-! SUPPORT. Where a clear leaves a member: EXCLUDED while something of policy RECOVERING stands, else FREE, and from there ordered for
the target of a group that calls its members (R87, R167). -/

namespace Sys2Proof.Machine

-- One theorem at a time: a proof that waits for the ones before it holds a thread of its own.
set_option Elab.async false

/-! ### Members (R167) -/

/-- A condition of policy RECOVERING stands of a class without a latched flag: it outlasts a clear. -/
def Member.HeldUnlatched (m : Member) : Prop :=
  ∃ c, (m.faults.get c).standing = true ∧ (m.faults.get c).latched = false ∧ (m.faults.get c).applied = some .recovering

/-- A clear takes the member out of LATCHED. -/
def Member.Unlatches (m : Member) : Prop := m.anyLatched = true ∧ m.state = .latched

/-- A clear returns the member to FREE. -/
def Member.Freed (m : Member) : Prop := m.Unlatches ∧ ¬ m.HeldUnlatched

/-- The standing ORDER of a plan. -/
def Member.Holds (m : Member) (plan : Nat) (o : StandingOrder) : Prop := m.order = some o ∧ o.kind = .order ∧ o.payload.plan = plan

/-- What a member that returns to FREE comes to in a group that calls its members (R72, R87). -/
structure Stored.Readmitted (t : Stored) (i : Ix) (q : Group) (soon : Nat) (m n : Member) : Prop where
  kept : ∀ o, m.Holds q.target o → n.state = .ordered ∧ n.order = some o
  ordered : (∀ o, ¬ m.Holds q.target o) → t.activation m q.target = true → t.Ordered i n q.target (q.joinTm soon)
  failed : (∀ o, ¬ m.Holds q.target o) → t.activation m q.target = false →
    m.FailedFrom (t.policies.get .capability).policy n

namespace Stored.Readmitted

variable {t : Stored} {i : Ix} {q q' : Group} {soon : Nat} {m m' n : Member}

theorem congr (h : t.Readmitted i q' soon m n) (hq : q.Retested q') : t.Readmitted i q soon m n := by
  obtain ⟨hk, ho, hf⟩ := h
  rw [hq.target_eq] at hk ho hf
  rw [hq.joinTm_eq] at ho
  exact ⟨hk, ho, hf⟩

/-- Of the member's record the order, the capability record and the count of CAPABILITY are read. -/
theorem of_record (h : t.Readmitted i q soon m' n) (ho : m'.order = m.order) (hc : m'.capability = m.capability)
    (hcount : (m'.faults.get .capability).count = (m.faults.get .capability).count) : t.Readmitted i q soon m n := by
  obtain ⟨hkept, hord, hfail⟩ := h
  have hholds (o : StandingOrder) : m'.Holds q.target o ↔ m.Holds q.target o := by rw [Member.Holds, ho]; rfl
  simp only [hholds, t.activation_congr q.target hc, Member.FailedFrom, hcount] at hkept hord hfail
  exact ⟨hkept, hord, hfail⟩

end Stored.Readmitted

/-- What a clear makes of a member, from the record it had and that of its group. -/
structure Stored.ClearedAs (t : Stored) (i : Ix) (r : Option Group) (soon : Nat) (m n : Member) : Prop where
  calm : m.anyLatched = false → n = m
  stays : m.state ≠ .latched → n.state = m.state ∧ n.capability = m.capability
  held : m.Unlatches → m.HeldUnlatched → n.state = .excluded
  freed : m.Freed → (∀ q, r = some q → ¬ q.Calls) → n.state = .free ∧ n.order = m.order ∧ n.capability = m.capability
  called : m.Freed → ∀ q, r = some q → q.Calls → t.Readmitted i q soon m n

theorem Stored.ClearedAs.congr {t : Stored} {i : Ix} {r r' : Option Group} {soon : Nat} {m n : Member}
    (h : t.ClearedAs i r' soon m n) (hr : Option.Rel Group.Retested r r') : t.ClearedAs i r soon m n := by
  cases hr with
  | none => exact h
  | some hq =>
    refine ⟨h.calm, h.stays, h.held, fun hf hno => h.freed hf ?_, fun hf q he hc => ?_⟩
    · rintro _ ⟨⟩
      exact mt hq.calls_iff.mp (hno _ rfl)
    · cases he
      exact (h.called hf _ rfl (hq.calls_iff.mpr hc)).congr hq

theorem Member.Cleared.anyRecovering_iff {m n : Member} (h : m.Cleared n) : n.anyRecovering = true ↔ m.HeldUnlatched := by
  have hall (c : FaultClass) : c ∈ allClasses := by cases c <;> decide
  unfold Member.anyRecovering Member.HeldUnlatched
  rw [List.any_eq_true]
  refine exists_congr fun c => ?_
  rw [h.entry, FaultEntry.cleared]
  cases hl : (m.faults.get c).latched <;> simp [hall]

/-- The ORDER of a plan that a member holds. -/
theorem Member.holds_iff (m : Member) (plan : Nat) :
    m.standingOrder.map (fun o => o.payload.plan) = some plan ↔ ∃ o, m.Holds plan o := by
  simp only [Member.standingOrder, Option.map_eq_some_iff, Option.filter_eq_some_iff, decide_eq_true_eq, Member.Holds, and_assoc]

/-! ### Readmission of a member that was not EXCLUDED (R87) -/

section
variable {s : State} {i : Ix}

theorem State.readmit_uncalled (h : ∀ g, s.groupOf i = some g → ¬ (s.group g).Calls) :
    s.readmit i false = s.enter i .free := by
  unfold State.readmit
  cases hg : s.groupOf i with
  | none => rfl
  | some g =>
    have hno := h g hg
    cases hst : (s.group g).state with
    | free => simp only [hst]; rfl
    | suspended => simp only [hst]; rfl
    | pending =>
      have ht : (s.group g).target = 0 := by
        by_contra ht
        exact hno (.inl ⟨hst, ht⟩)
      simp only [hst, ht, if_true]
      rfl
    | transition => exact absurd (.inr (.inl hst)) hno
    | steady => exact absurd (.inr (.inr hst)) hno

theorem State.readmit_called {g : GroupNo} (hi : s.groupOf i = some g) (h : (s.group g).Calls) :
    s.readmit i false
      = if ((s.enter i .free).member i).standingOrder.map (fun o => o.payload.plan) = some (s.group g).target then
          ((s.enter i .free).enter i .ordered).testsOf i
        else (s.enter i .free).orderMember i (s.group g).target ((s.group g).joinTm (s.tref.e + s.leadDs)) := by
  unfold State.readmit
  simp only [hi, decide_eq_true_eq]
  rcases h with ⟨hst, ht⟩ | hst | hst
  · simp only [hst, if_neg ht, Group.joinTm, if_true]
    rfl
  · simp [hst, Group.joinTm]
  · simp [hst, Group.joinTm]

end

/-! ### A clear of one member -/

section
variable {s : State} {i : Ix}

theorem State.readmit_readmitted {g : GroupNo} (hi : s.groupOf i = some g) (hcalls : (s.group g).Calls) :
    Halts g s (s.readmit i false)
      ∨ Moves (· = i) (· = g) s (s.readmit i false)
        ∧ s.stored.Readmitted i (s.group g) (s.tref.e + s.leadDs) (s.member i) ((s.readmit i false).member i) := by
  have h1 : Moves (· = i) (· = g) s (s.enter i .free) := (s.enter_upon i .free).moves (s.enter_works i .free)
  have hm1 := s.enter_member i .free
  have record {n : Member} (h : s.stored.Readmitted i (s.group g) (s.tref.e + s.leadDs) ((s.enter i .free).member i) n) :
      s.stored.Readmitted i (s.group g) (s.tref.e + s.leadDs) (s.member i) n := by
    rw [hm1] at h
    exact h.of_record (Member.enter_order _ _) (Member.enter_record _ _) (by rw [Member.enter_capability])
  by_cases hkept : ∃ o, ((s.enter i .free).member i).Holds (s.group g).target o
  · have h2 : Moves (· = i) (· = g) s ((s.enter i .free).enter i .ordered) :=
      h1.trans ((State.enter_upon _ i _).moves (State.enter_works _ i _))
    rw [State.readmit_called hi hcalls, if_pos ((Member.holds_iff _ _).mpr hkept)]
    refine .inr ⟨h2.trans (State.testsOf_moves _ ((h2.groupOf i).trans hi)), record ⟨fun o ho => ?_,
      fun hno => absurd hkept (not_exists.mpr hno), fun hno => absurd hkept (not_exists.mpr hno)⟩⟩
    rw [State.testsOf_member, State.enter_member, Member.enter_order]
    exact ⟨Member.enter_state _ _, ho.1⟩
  · have hnot (o : StandingOrder) (ho : ((s.enter i .free).member i).Holds (s.group g).target o) : False := hkept ⟨o, ho⟩
    rw [State.readmit_called hi hcalls, if_neg (mt (Member.holds_iff _ _).mp hkept)]
    cases ha : s.stored.activation ((s.enter i .free).member i) (s.group g).target with
    | true =>
      obtain ⟨hmoves, hord⟩ := State.orderMember_called (s := s.enter i .free) (g := g) hi
        ((s.group g).joinTm (s.tref.e + s.leadDs)) ha
      exact .inr ⟨h1.trans hmoves, record ⟨fun o ho => (hnot o ho).elim, fun _ _ => hord,
        fun _ hf => absurd (ha.symm.trans hf) (by decide)⟩⟩
    | false =>
      have hfree : ((s.enter i .free).member i).state = .free := by rw [hm1, Member.enter_state]
      rw [State.orderMember_failing (s := s.enter i .free) _ _ ha]
      exact (State.failCheck_failing (s := s.enter i .free) hi hcalls hfree).imp (h1.halts fun j hj => hj ▸ hi)
        fun ⟨hmoves, hfail⟩ => ⟨h1.trans hmoves, record ⟨fun o ho => (hnot o ho).elim,
          fun _ hp => absurd (ha.symm.trans hp) (by decide), fun _ _ => hfail⟩⟩

end

/-- The record of the group that an intersection belongs to. -/
def State.groupAt (s : State) (i : Ix) : Option Group := (s.groupOf i).map s.group

/-- A clear of one member: a failing check may suspend its group, else the member is put where its record and its group's ask for. -/
theorem State.clearMember_outcome (s : State) (i : Ix) :
    (∃ g, s.groupOf i = some g ∧ Halts g s (s.clearMember i))
      ∨ Moves (· = i) (fun g => s.groupOf i = some g) s (s.clearMember i)
        ∧ s.stored.ClearedAs i (s.groupAt i) (s.tref.e + s.leadDs) (s.member i) ((s.clearMember i).member i) := by
  cases hl : (s.member i).anyLatched with
  | false =>
    rw [State.clearMember_calm hl]
    have hno : ¬ (s.member i).Unlatches := fun h => by
      rw [h.1] at hl
      cases hl
    exact .inr ⟨.refl _ _ _, fun _ => rfl, fun _ => ⟨rfl, rfl⟩, fun h => absurd h hno, fun h => absurd h.1 hno,
      fun h => absurd h.1 hno⟩
  | true =>
    have hclear := s.clearClasses_moves (fun _ => False) i
    have hmoves : Moves (· = i) (fun g => s.groupOf i = some g) s _ := hclear.mono (fun _ h => h) fun _ h => h.elim
    have hcleared := s.clearClasses_member i
    have hlatched (n : Member) (h : (s.member i).anyLatched = false) : n = s.member i := absurd (hl.symm.trans h) (by decide)
    rw [State.clearMember_latched hl]
    generalize s.clearClasses i = u at hclear hmoves hcleared
    have hgroup (g : GroupNo) : u.group g = s.group g := hclear.others g id
    by_cases hst : (s.member i).state = .latched
    · have hout (n : Member) (h : (s.member i).state ≠ .latched) : n.state = (s.member i).state ∧ n.capability = (s.member i).capability :=
        absurd hst h
      rw [if_pos hst]
      by_cases hheld : (s.member i).HeldUnlatched
      · rw [if_pos (hcleared.anyRecovering_iff.mpr hheld)]
        refine .inr ⟨hmoves.trans ((u.enter_upon i _).moves (u.enter_works i _)), hlatched _, hout _, fun _ _ => ?_,
          fun h => absurd hheld h.2, fun h => absurd hheld h.2⟩
        rw [State.enter_member, Member.enter_state]
      · rw [if_neg (mt hcleared.anyRecovering_iff.mp hheld)]
        by_cases hcalls : ∃ g, s.groupOf i = some g ∧ (s.group g).Calls
        · obtain ⟨g, hi, hcalls⟩ := hcalls
          have hrecord : s.groupAt i = some (s.group g) := by rw [State.groupAt, hi]; rfl
          have hcount : ((u.member i).faults.get .capability).count = ((s.member i).faults.get .capability).count := by
            rw [hcleared.entry, FaultEntry.cleared]
            split <;> rfl
          refine (State.readmit_readmitted ((hmoves.groupOf i).trans hi) (by rwa [hgroup])).imp
            (fun h => ⟨g, hi, (hclear.mono (fun _ h => h) fun _ h => h.elim).halts (fun j hj => hj ▸ hi) h⟩)
            fun ⟨hre, hreadmitted⟩ => ⟨hmoves.trans (hre.mono (fun _ h => h) fun h hh => hh ▸ hi), hlatched _, hout _,
              fun _ h => absurd h hheld, fun _ hno => absurd hcalls (hno _ hrecord), fun _ q hq _ => ?_⟩
          obtain rfl : s.group g = q := Option.some.inj (hrecord.symm.trans hq)
          rw [hgroup, State.leadDs, hmoves.works.stored_eq, hmoves.works.tref_eq] at hreadmitted
          exact hreadmitted.of_record hcleared.order hcleared.capability hcount
        · have hidle (g : GroupNo) (hi : u.groupOf i = some g) : ¬ (u.group g).Calls := by
            rw [hmoves.groupOf] at hi
            rw [hgroup]
            exact fun h => hcalls ⟨g, hi, h⟩
          rw [State.readmit_uncalled hidle]
          refine .inr ⟨hmoves.trans ((u.enter_upon i _).moves (u.enter_works i _)), hlatched _, hout _,
            fun _ h => absurd h hheld, fun _ _ => ?_, fun _ q hq hc => ?_⟩
          · rw [State.enter_member, Member.enter_state, Member.enter_order, Member.enter_record]
            exact ⟨rfl, hcleared.order, hcleared.capability⟩
          · obtain ⟨g, hi, rfl⟩ := Option.map_eq_some_iff.mp hq
            exact absurd ⟨g, hi, hc⟩ hcalls
    · rw [if_neg hst]
      exact .inr ⟨hmoves, hlatched _, fun _ => ⟨hcleared.state, hcleared.capability⟩, fun h => absurd h.2 hst,
        fun h => absurd h.1.2 hst, fun h => absurd h.1.2 hst⟩

/-! ### A clear of several members -/

theorem Moves.groupAt {P : Ix → Prop} {G : GroupNo → Prop} {s t : State} (h : Moves P G s t) (i : Ix) :
    Option.Rel Group.Retested (s.groupAt i) (t.groupAt i) := by
  rw [State.groupAt, State.groupAt, h.groupOf]
  cases s.groupOf i with
  | none => exact .none
  | some g => exact .some (h.groups g)

/-- The members of a list are cleared one after another, and no group is suspended meanwhile. -/
def State.ClearedMembers (l : List Ix) (s t : State) : Prop :=
  Moves (· ∈ l) (fun g => ∃ i ∈ l, s.groupOf i = some g) s t
    ∧ ∀ i ∈ l, s.stored.ClearedAs i (s.groupAt i) (s.tref.e + s.leadDs) (s.member i) (t.member i)

theorem State.clearMembers_cleared {l : List Ix} (hnd : l.Nodup) {s : State}
    (h : ∀ i ∈ l, ∀ g, s.groupOf i = some g → ¬ ((s.group g).Calls ∧ s.stored.policies.get .capability = ⟨.latched, .group⟩)) :
    State.ClearedMembers l s (l.foldl State.clearMember s) := by
  induction l generalizing s with
  | nil => exact ⟨.refl _ _ _, fun _ hi => absurd hi List.not_mem_nil⟩
  | cons i l ih =>
    obtain ⟨hi, hnd⟩ := List.nodup_cons.mp hnd
    have hhead := h i (.head _)
    obtain ⟨h1, hcleared⟩ := s.clearMember_outcome i |>.resolve_left fun ⟨g, hg, hh⟩ => hhead g hg ⟨hh.calls, hh.policy⟩
    obtain ⟨h2, hrest⟩ := ih hnd (s := s.clearMember i) fun j hj g hg => by
      rw [(h1.groups g).calls_iff, h1.works.stored_eq]
      exact h j (.tail _ hj) g ((h1.groupOf j).symm.trans hg)
    rw [List.foldl_cons]
    refine ⟨(h1.mono ?_ ?_).trans (h2.mono (fun _ => .tail _) ?_), fun j hj => ?_⟩
    · exact fun j hj => hj ▸ .head _
    · exact fun g hg => ⟨i, .head _, hg⟩
    · exact fun g ⟨j, hj, hg⟩ => ⟨j, .tail _ hj, (h1.groupOf j).symm.trans hg⟩
    rcases List.mem_cons.mp hj with rfl | hj
    · rwa [h2.members j hi]
    · have hj' := hrest j hj
      rw [State.leadDs, h1.works.stored_eq, h1.works.tref_eq, h1.members j fun e => hi (e ▸ hj)] at hj'
      exact hj'.congr (h1.groupAt j)

end Sys2Proof.Machine
end

section
/-! SUPPORT. A group that a clear resumes is evaluated (R89): what the evaluation leaves alone, and that the timetable it has tidied stays
tidy, so that the evaluations of the groups after it take no group beside their own. -/

namespace Sys2Proof.Machine

-- One theorem at a time: a proof that waits for the ones before it holds a thread of its own.
set_option Elab.async false

/-! ### What a clear leaves alone -/

/-- What a clear leaves alone of the whole state: the dated list may be tidied, and ports take notices. -/
structure Runs (s t : State) : Prop where
  phase : t.phase = s.phase
  tref : t.tref = s.tref
  cfs : t.cfs = s.cfs
  polls : t.polls = s.polls
  owed : t.owed = s.owed
  stored : t.stored = { s.stored with dated := t.stored.dated }
  ports : ∃ ns : List Notice, t.ports = (s.told ns).ports

namespace Runs

variable {s t u : State}

theorem refl (s : State) : Runs s s := ⟨rfl, rfl, rfl, rfl, rfl, rfl, [], by rw [State.told_nil]⟩

theorem trans (h1 : Runs s t) (h2 : Runs t u) : Runs s u := by
  obtain ⟨a, ha⟩ := h1.ports
  obtain ⟨b, hb⟩ := h2.ports
  refine ⟨h2.phase.trans h1.phase, h2.tref.trans h1.tref, h2.cfs.trans h1.cfs, h2.polls.trans h1.polls, h2.owed.trans h1.owed,
    ?_, a ++ b, State.told_ports_trans h1.phase ha hb⟩
  rw [h2.stored, h1.stored]

theorem groupOf (h : Runs s t) (i : Ix) : t.groupOf i = s.groupOf i := by
  rw [State.groupOf, h.stored]
  rfl

theorem membersOf (h : Runs s t) (g : GroupNo) : t.membersOf g = s.membersOf g := by
  unfold State.membersOf
  simp only [h.groupOf]

theorem policies (h : Runs s t) : t.stored.policies = s.stored.policies := by rw [h.stored]

theorem foldl {α : Type} {f : State → α → State} (h : ∀ s a, Runs s (f s a)) (l : List α) (s : State) : Runs s (l.foldl f s) := by
  induction l generalizing s with
  | nil => exact .refl _
  | cons a l ih => exact (h s a).trans (ih _)

end Runs

theorem Coordinated.runs {s t : State} (h : Coordinated s t) : Runs s t :=
  ⟨h.works.phase_eq, h.works.tref_eq, h.works.cfs_eq, h.polls, h.works.owed_eq, by rw [h.works.stored_eq], h.ports⟩

theorem State.clearMember_coordinated (s : State) (i : Ix) : Coordinated s (s.clearMember i) := by
  rcases s.clearMember_outcome i with ⟨g, -, h⟩ | h
  · exact h.toCoordinated
  · exact h.1.toCoordinated

/-! ### A tidy timetable (R48, R49) -/

/-- An evaluation at this instant would tidy nothing. -/
def State.Tidy (s : State) : Prop :=
  s.tref.state.consults = true → ∀ x ∈ s.stored.dated, x.leaves s.stored.recurring s.tref.e = false
    ∧ ∀ g, x.loses s.stored.recurring s.tref.e g = false

theorem State.Tidy.congr {s t : State} (h : s.Tidy) (htref : t.tref = s.tref) (hst : t.stored = s.stored) : t.Tidy := by
  unfold State.Tidy
  rw [htref, hst]
  exact h

theorem State.Tidy.inScope {s : State} (h : s.Tidy) (scope : GroupSet) (g : GroupNo) :
    s.inScope scope g = scope.getLsbD g.val := by
  unfold State.inScope
  cases hc : s.tref.state.consults with
  | false => simp
  | true =>
    have hany : (s.stored.dated.any fun x => x.loses s.stored.recurring s.tref.e g) = false :=
      List.any_eq_false.mpr fun x hx => by simp [(h hc x hx).2 g]
    rw [hany, Bool.and_false, Bool.or_false]

theorem State.Tidy.tidiedTables {s : State} (h : s.Tidy) : s.tidiedTables = s.stored := by
  unfold State.tidiedTables
  split
  next hc =>
    have hkeep (x : Entry) (hx : x ∈ s.stored.dated) :
        { x with groups := x.groups &&& ~~~(tidyEntry s.stored.recurring s.tref.e x).2 } = x := by
      have hnone : (tidyEntry s.stored.recurring s.tref.e x).2 = 0#16 :=
        (groupSet_eq_zero_iff _).mpr fun g => by rw [getLsbD_tidyEntry, (h hc x hx).2 g]
      rw [hnone, BitVec.not_zero, BitVec.and_allOnes]
    rw [tidyList_eq, List.filter_eq_self.mpr fun x hx => by rw [(h hc x hx).1]; rfl, List.map_congr_left hkeep, List.map_id']
  next => rfl

/-- What tidying leaves of an entry that stays: it neither leaves nor loses a group. -/
theorem tidyEntry_tidy {recurring : List Entry} {e : Nat} {x : Entry} (h : x.leaves recurring e = false) {y : Entry}
    (hy : y = { x with groups := x.groups &&& ~~~(tidyEntry recurring e x).2 }) :
    y.leaves recurring e = false ∧ ∀ g, y.loses recurring e g = false := by
  have hcovers (g : GroupNo) : y.covers g = (x.covers g && !x.loses recurring e g) := by
    rw [hy, Entry.covers, BitVec.getLsbD_and, BitVec.getLsbD_not, getLsbD_tidyEntry, decide_eq_true g.isLt, Bool.true_and]
    rfl
  have hended : y.ended e = x.ended e := by rw [hy]; rfl
  have hsup (g : GroupNo) : y.superseded recurring e g = x.superseded recurring e g := by rw [hy]; rfl
  refine ⟨?_, fun g => ?_⟩
  · have hkind : y.kind = x.kind := by rw [hy]
    unfold Entry.leaves at h ⊢
    rw [hkind]
    split at h
    next day hx =>
      obtain ⟨g, hg, hstays⟩ := List.all_eq_false.mp h
      refine List.all_eq_false.mpr ⟨g, hg, ?_⟩
      have hno : x.ended e = false := by simp only [Entry.ended, hx]
      rw [hcovers, hsup, Entry.loses, hno]
      revert hstays
      cases x.covers g <;> cases x.superseded recurring e g <;> decide
    next hx => exact hended.trans h
  · rw [Entry.loses, hcovers, hended, hsup, Entry.loses]
    cases x.covers g <;> cases x.ended e <;> cases x.superseded recurring e g <;> rfl

theorem State.tidied_tidy (s : State) : s.tidied.Tidy := by
  intro hc x hx
  have hrec : s.tidied.stored.recurring = s.stored.recurring := by
    show s.tidiedTables.recurring = _
    rw [s.tidiedTables_eq]
  have hc : s.tref.state.consults = true := hc
  have hx : x ∈ s.tidiedTables.dated := hx
  rw [State.tidiedTables, if_pos hc, tidyList_eq] at hx
  obtain ⟨y, hy, rfl⟩ := List.mem_map.mp hx
  have htref : s.tidied.tref = s.tref := rfl
  rw [hrec, htref]
  exact tidyEntry_tidy (by simpa using (List.mem_filter.mp hy).2) rfl

/-! ### The evaluation of a resumed group (R89) -/

/-- A SUSPENDED group back in FREE. -/
def State.reopened (s : State) (g : GroupNo) : State := s.setGroup g { s.group g with state := .free, suspension := none }

/-- The groups that the evaluation of a resumed group takes. -/
def State.resumeScope (s : State) (g : GroupNo) : List GroupNo := allGroups.filter (s.inScope (oneGroup g))

section
variable (s : State) (g : GroupNo)

theorem State.mem_resumeScope (h : GroupNo) : h ∈ s.resumeScope g ↔ s.inScope (oneGroup g) h = true := by
  rw [State.resumeScope, List.mem_filter]
  exact and_iff_right (List.mem_finRange h)

theorem State.mem_resumeScope_self : g ∈ s.resumeScope g := by
  rw [State.mem_resumeScope, State.inScope, getLsbD_oneGroup, decide_eq_true rfl, Bool.true_or]

theorem State.resume_eq :
    s.resume g = (s.resumeScope g).foldl State.evaluateGroup ((s.reopened g).tidied.told s.expiries) :=
  (s.reopened g).evaluate_eq (oneGroup g)

theorem State.resume_evaluated : Evaluated (s.resumeScope g) ((s.reopened g).tidied.told s.expiries) (s.resume g) := by
  rw [State.resume_eq]
  exact State.evaluateGroups_evaluated _ ((List.nodup_finRange 16).filter _) _

/-- The evaluation of a resumed group reads the group reopened and the timetable tidied. -/
theorem State.resume_alike (h : GroupNo) : Alike h (s.reopened g).tidied ((s.reopened g).tidied.told s.expiries) := by
  refine ⟨State.told_tref _ _, State.told_stored _ _, ?_, fun i _ => ?_⟩
  · rw [State.group, State.told_groups]
    rfl
  · rw [State.member, State.told_members]
    rfl

theorem State.reopened_group_ne {h : GroupNo} (hne : h ≠ g) : (s.reopened g).tidied.group h = s.group h :=
  State.group_setGroup_ne s g h _ hne

theorem State.reopened_group : (s.reopened g).tidied.group g = { s.group g with state := .free, suspension := none } :=
  State.group_setGroup_self s g _

theorem State.resume_stored : (s.resume g).stored = s.tidiedTables :=
  (s.resume_evaluated g).stored.trans (State.told_stored _ _)

theorem State.resume_tref : (s.resume g).tref = s.tref := (s.resume_evaluated g).tref.trans (State.told_tref _ _)

theorem State.resume_tidy : (s.resume g).Tidy := s.tidied_tidy.congr (s.resume_tref g) (s.resume_stored g)

theorem State.resume_runs : Runs s (s.resume g) := by
  have hev := s.resume_evaluated g
  have hw : Works ((s.reopened g).tidied.told s.expiries) (s.resume g) := by
    rw [State.resume_eq]
    exact .foldl _ State.evaluateGroup_works _ _
  obtain ⟨ns, hports, -⟩ := hev.notices
  have hbegin : (s.reopened g).tidied.told s.expiries = { (s.reopened g).tidied with ports := (s.told s.expiries).ports } := by
    unfold State.told
    show (if s.phase = .running then _ else _) = _
    split <;> rfl
  rw [hbegin] at hev hw hports
  refine ⟨hev.phase, hev.tref, hw.cfs_eq, hev.polls, hw.owed_eq, ?_, s.expiries ++ ns, ?_⟩
  · rw [s.resume_stored g]
    exact s.tidiedTables_eq
  · exact State.told_ports_trans (s := s) (t := { (s.reopened g).tidied with ports := (s.told s.expiries).ports }) rfl rfl hports

/-- A group that the evaluation takes, its own group or one that the tidying adds. -/
theorem State.resume_each {h : GroupNo} (hh : h ∈ s.resumeScope g) : GroupEvaluated h (s.reopened g).tidied (s.resume g) :=
  (s.resume_alike g h).evaluated ((s.resume_evaluated g).each h hh)

/-- A group that the evaluation does not take. -/
theorem State.resume_outside {h : GroupNo} (hne : h ≠ g) (hh : h ∉ s.resumeScope g) :
    (s.resume g).group h = s.group h ∧ ∀ i, s.groupOf i = some h → (s.resume g).member i = s.member i := by
  have ha := (s.resume_alike g h)
  have he := (s.resume_evaluated g).alike hh
  refine ⟨(he.group.trans ha.group).trans (s.reopened_group_ne g hne), fun i hi => ?_⟩
  have hi' : (s.reopened g).tidied.groupOf i = some h := ((s.reopened g).groupOf_tidied i).trans hi
  rw [he.members i ((ha.groupOf i).trans hi'), ha.members i hi']
  rfl

/-- With a tidy timetable the evaluation takes the resumed group alone. -/
theorem State.Tidy.resume_alike {s : State} (ht : s.Tidy) {g h : GroupNo} (hne : h ≠ g) : Alike h s (s.resume g) := by
  have hno : h ∉ s.resumeScope g := by
    rw [State.mem_resumeScope, ht.inScope, getLsbD_oneGroup, decide_eq_true_eq]
    exact hne.symm
  obtain ⟨hgroup, hmembers⟩ := s.resume_outside g hne hno
  exact ⟨s.resume_tref g, (s.resume_stored g).trans ht.tidiedTables, hgroup, hmembers⟩

end

end Sys2Proof.Machine
end

section
/-! SUPPORT. A clear of several groups and then of several members (R166): what it resumes and counts, and where it leaves the members
when it resumes no group. -/

namespace Sys2Proof.Machine

-- One theorem at a time: a proof that waits for the ones before it holds a thread of its own.
set_option Elab.async false

/-! ### Members and groups in their order -/

/-- The members of a list are cleared one after another. -/
def State.clearMembers (s : State) (l : List Ix) : State := l.foldl State.clearMember s

theorem Clearing.members_eq (c : Clearing) (l : List Ix) :
    (l.foldl Clearing.member c).s = c.s.clearMembers l ∧ (l.foldl Clearing.member c).groups = c.groups := by
  unfold State.clearMembers
  induction l generalizing c with
  | nil => exact ⟨rfl, rfl⟩
  | cons i l ih => exact ih (c.member i)

theorem State.clearMembers_coordinated (s : State) (l : List Ix) : Coordinated s (s.clearMembers l) := by
  unfold State.clearMembers
  induction l generalizing s with
  | nil => exact .refl _
  | cons i l ih => exact (s.clearMember_coordinated i).trans (ih _)

/-- The state with the members of a group cleared. -/
def State.groupCleared (s : State) (g : GroupNo) : State := s.clearMembers (s.membersOf g)

/-- The group's turn finds it SUSPENDED, its members cleared. -/
def State.resumes (s : State) (g : GroupNo) : Prop := ((s.groupCleared g).group g).state = .suspended

section
variable (c : Clearing) (g : GroupNo)

theorem Clearing.group_resumed (h : c.s.resumes g) :
    (c.group g).s = (c.s.groupCleared g).resume g ∧ (c.group g).groups = g :: c.groups := by
  obtain ⟨hs, hg⟩ := c.members_eq (c.s.membersOf g)
  have h : ((c.s.clearMembers (c.s.membersOf g)).group g).state = .suspended := h
  unfold Clearing.group
  simp only [hs, hg, if_pos h]
  exact ⟨rfl, trivial⟩

theorem Clearing.group_calm (h : ¬ c.s.resumes g) :
    (c.group g).s = c.s.groupCleared g ∧ (c.group g).groups = c.groups := by
  obtain ⟨hs, hg⟩ := c.members_eq (c.s.membersOf g)
  have h : ¬ ((c.s.clearMembers (c.s.membersOf g)).group g).state = .suspended := h
  unfold Clearing.group
  simp only [hs, if_neg h]
  exact ⟨rfl, hg⟩

theorem Clearing.group_runs : Runs c.s (c.group g).s := by
  have h1 : Runs c.s (c.s.groupCleared g) := (c.s.clearMembers_coordinated _).runs
  by_cases h : c.s.resumes g
  · rw [(c.group_resumed g h).1]
    exact h1.trans (State.resume_runs _ _)
  · rw [(c.group_calm g h).1]
    exact h1

/-- The members of a group are cleared and counted once each; its resumption counts none. -/
theorem Clearing.group_counted : (c.group g).members = c.members + (c.s.latchedOf (c.s.membersOf g)).length := by
  refine Eq.trans ?_ ((c.members_clears (c.s.membersOf_nodup g)).exact fun i hi => hi.2)
  unfold Clearing.group
  extract_lets c1
  split <;> rfl

theorem Clearing.group_clears : Clears Anybody (c.s.membersOf g) c (c.group g) := by
  have h1 : Clears Anybody (c.s.membersOf g) c ((c.s.membersOf g).foldl Clearing.member c) :=
    (c.members_clears (c.s.membersOf_nodup g)).mono fun _ h => h.elim
  unfold Clearing.group
  extract_lets c1
  split
  · rw [← List.append_nil (c.s.membersOf g)]
    exact h1.append ⟨(State.resume_carries _ _).wipes, Nat.le_refl _, fun _ => rfl⟩ (List.disjoint_nil_right _)
  · exact h1

end

/-! ### The whole clear -/

/-- A clear of a list of groups and then of a list of members. -/
def State.clearing (s : State) (l : List GroupNo) (k : List Ix) : Clearing :=
  k.foldl Clearing.member (l.foldl Clearing.group ⟨s, 0, []⟩)

/-- The members that a clear takes, in its order. -/
def State.clearList (s : State) (l : List GroupNo) (k : List Ix) : List Ix := l.flatMap s.membersOf ++ k

section
variable (l : List GroupNo) (c : Clearing)

theorem Clearing.groups_runs : Runs c.s (l.foldl Clearing.group c).s := by
  induction l generalizing c with
  | nil => exact .refl _
  | cons g l ih => exact (c.group_runs g).trans (ih _)

/-- The groups resumed are among those of the list, in its order, newest first. -/
theorem Clearing.groups_sublist : ∃ r : List GroupNo, r.Sublist l ∧ (l.foldl Clearing.group c).groups = r.reverse ++ c.groups := by
  induction l generalizing c with
  | nil => exact ⟨[], .refl _, rfl⟩
  | cons g l ih =>
    obtain ⟨r, hr, heq⟩ := ih (c.group g)
    rw [List.foldl_cons, heq]
    by_cases h : c.s.resumes g
    · exact ⟨g :: r, hr.cons_cons g, by rw [(c.group_resumed g h).2]; simp⟩
    · exact ⟨r, hr.cons g, by rw [(c.group_calm g h).2]⟩

theorem Clearing.groups_clears (hnd : l.Nodup) : Clears Anybody (l.flatMap c.s.membersOf) c (l.foldl Clearing.group c) := by
  induction l generalizing c with
  | nil => exact .refl _ _
  | cons g l ih =>
    obtain ⟨hg, hnd⟩ := List.nodup_cons.mp hnd
    have hmembers : (c.group g).s.membersOf = c.s.membersOf := funext (c.group_runs g).membersOf
    have hrest := ih (c.group g) hnd
    rw [hmembers] at hrest
    refine (c.group_clears g).append hrest fun i hi hil => ?_
    obtain ⟨h, hh, hih⟩ := List.mem_flatMap.mp hil
    rw [State.mem_membersOf] at hi hih
    exact hg (Option.some.inj (hi.symm.trans hih) ▸ hh)

/-- When no group is resumed, the members are cleared and nothing else is done. -/
theorem Clearing.groups_calm (h : (l.foldl Clearing.group c).groups = []) :
    (l.foldl Clearing.group c).s = c.s.clearMembers (l.flatMap c.s.membersOf) := by
  induction l generalizing c with
  | nil => rfl
  | cons g l ih =>
    have hrest := ih (c.group g) h
    have hmembers : (c.group g).s.membersOf = c.s.membersOf := funext (c.group_runs g).membersOf
    have hno : ¬ c.s.resumes g := fun hr => by
      obtain ⟨r, -, heq⟩ := (c.group g).groups_sublist l
      rw [List.foldl_cons, heq, (c.group_resumed g hr).2] at h
      simp at h
    rw [List.foldl_cons, hrest, hmembers, (c.group_calm g hno).1, List.flatMap_cons]
    exact (List.foldl_append ..).symm

end

/-! ### No group is suspended while the policy of CAPABILITY does not ask for it (R88) -/

/-- The policy of CAPABILITY suspends groups. -/
def State.Suspending (s : State) : Prop := s.stored.policies.get .capability = ⟨.latched, .group⟩

/-- No group becomes SUSPENDED. -/
def State.Unsuspending (s t : State) : Prop := ∀ g, (t.group g).state = .suspended → (s.group g).state = .suspended

theorem Group.Retested.suspended {r r' : Group} (h : r.Retested r') (hs : r'.state = .suspended) : r = r' := by
  rcases h with rfl | ⟨-, h, -⟩
  · rfl
  · simp [hs] at h

theorem Group.Retested.stays_suspended {r r' : Group} (h : r.Retested r') (hs : r.state = .suspended) : r' = r := by
  rcases h with rfl | ⟨h, -, -⟩
  · rfl
  · simp [hs] at h

theorem State.clearMembers_unsuspending {s : State} {l : List Ix} (hl : l.Nodup) (hno : ¬ s.Suspending) :
    State.Unsuspending s (s.clearMembers l) := fun g hg =>
  ((State.clearMembers_cleared hl fun _ _ _ _ h => hno h.2).1.groups g).suspended hg ▸ hg

theorem State.resume_unsuspending {s : State} (hno : ¬ s.Suspending) (g : GroupNo) : State.Unsuspending s (s.resume g) := by
  intro h hs
  by_cases hh : h ∈ s.resumeScope g
  · have he := s.resume_each g hh
    have hnot : ¬ (s.reopened g).tidied.stored.policies.get .capability = ⟨.latched, .group⟩ := by
      have hpol : (s.reopened g).tidied.stored.policies = s.stored.policies := by
        show (s.reopened g).tidiedTables.policies = _
        rw [State.tidiedTables_eq]
        rfl
      rw [hpol]
      exact hno
    have hwas : ((s.reopened g).tidied.group h).state = .suspended := by
      cases hsw : (s.reopened g).tidied.switches h with
      | false =>
        rw [(he.calm hsw).1] at hs
        exact hs
      | true =>
        rcases he.begun hsw with hb | hb
        · exact absurd hb.1 hnot
        · rw [hb.1] at hs
          cases hs
    by_cases hne : h = g
    · rw [hne, State.reopened_group] at hwas
      cases hwas
    · rwa [State.reopened_group_ne _ _ hne] at hwas
  · by_cases hne : h = g
    · exact absurd (hne ▸ s.mem_resumeScope_self g) hh
    · rwa [(s.resume_outside g hne hh).1] at hs

theorem Clearing.group_unsuspending {c : Clearing} (hno : ¬ c.s.Suspending) (g : GroupNo) :
    State.Unsuspending c.s (c.group g).s := by
  have h1 : State.Unsuspending c.s (c.s.groupCleared g) := State.clearMembers_unsuspending (c.s.membersOf_nodup g) hno
  by_cases h : c.s.resumes g
  · have hno' : ¬ (c.s.groupCleared g).Suspending := by
      rw [State.Suspending, State.groupCleared, (c.s.clearMembers_coordinated _).works.stored_eq]
      exact hno
    rw [(c.group_resumed g h).1]
    exact fun k hk => h1 k (State.resume_unsuspending hno' g k hk)
  · rw [(c.group_calm g h).1]
    exact h1

/-- Unless the policy of CAPABILITY suspends groups, only those found SUSPENDED are resumed. -/
theorem Clearing.groups_found {c : Clearing} (hno : ¬ c.s.Suspending) (l : List GroupNo) {g : GroupNo}
    (hg : g ∈ (l.foldl Clearing.group c).groups) : g ∈ c.groups ∨ (c.s.group g).state = .suspended := by
  induction l generalizing c with
  | nil => exact .inl hg
  | cons h l ih =>
    have hno' : ¬ (c.group h).s.Suspending := by
      rw [State.Suspending, (c.group_runs h).policies]
      exact hno
    rcases ih hno' hg with hin | hs
    · by_cases hr : c.s.resumes h
      · rw [(c.group_resumed h hr).2, List.mem_cons] at hin
        rcases hin with rfl | hin
        · exact .inr (State.clearMembers_unsuspending (c.s.membersOf_nodup g) hno g hr)
        · exact .inl hin
      · rw [(c.group_calm h hr).2] at hin
        exact .inl hin
    · exact .inr (Clearing.group_unsuspending hno h g hs)

end Sys2Proof.Machine
end

section
/-! SUPPORT. A SUSPENDED group that a clear resumes (R89): it waits for its turn, its members are cleared, it is evaluated, and nothing after
its turn touches it. -/

namespace Sys2Proof.Machine

-- One theorem at a time: a proof that waits for the ones before it holds a thread of its own.
set_option Elab.async false

section
variable {g h : GroupNo} {s t u : State}

theorem Alike.trans (h1 : Alike g s t) (h2 : Alike g t u) : Alike g s u :=
  ⟨h2.tref.trans h1.tref, h2.stored.trans h1.stored, h2.group.trans h1.group,
    fun i hi => (h2.members i ((h1.groupOf i).trans hi)).trans (h1.members i hi)⟩

theorem Alike.tidy (h : Alike g s t) (hs : s.Tidy) : t.Tidy := hs.congr h.tref h.stored

/-! ### Clears of other members and groups -/

theorem State.clearMember_alike {i : Ix} (hi : s.groupOf i ≠ some g) : Alike g s (s.clearMember i) := by
  have hw := (s.clearMember_coordinated i).works
  have hne {j : Ix} (hj : s.groupOf j = some g) : j ≠ i := fun e => hi (e ▸ hj)
  rcases s.clearMember_outcome i with ⟨k, hk, hout⟩ | ⟨hout, -⟩
  · have hkg : g ≠ k := fun e => hi (e ▸ hk)
    refine ⟨hw.tref_eq, hw.stored_eq, hout.others g hkg, fun j hj => hout.members j ?_⟩
    rw [hj, ne_eq, Option.some.injEq]
    exact hkg
  · exact ⟨hw.tref_eq, hw.stored_eq, hout.others g hi, fun j hj => hout.members j (hne hj)⟩

theorem State.clearMembers_alike {l : List Ix} (hl : ∀ i ∈ l, s.groupOf i ≠ some g) : Alike g s (s.clearMembers l) := by
  unfold State.clearMembers
  induction l generalizing s with
  | nil => exact ⟨rfl, rfl, rfl, fun _ _ => rfl⟩
  | cons i l ih =>
    have h1 := State.clearMember_alike (hl i (.head _))
    exact h1.trans (ih fun j hj => (h1.groupOf j).symm ▸ hl j (.tail _ hj))

theorem State.groupCleared_alike (hne : h ≠ g) : Alike g s (s.groupCleared h) :=
  State.clearMembers_alike fun _ hi hg => hne (Option.some.inj ((State.mem_membersOf.mp hi).symm.trans hg))

/-! ### Before its turn -/

/-- A SUSPENDED group waits for its turn: an evaluation may record its wanted plan. -/
structure Awaits (g : GroupNo) (s t : State) : Prop where
  tref : t.tref = s.tref
  tables : t.stored = { s.stored with dated := t.stored.dated }
  group : t.group g = (s.group g).recorded ((t.group g).wanted, (t.group g).source)
  unconsulted : s.tref.state.consults = false → t.group g = s.group g
  members : ∀ i, s.groupOf i = some g → t.member i = s.member i

theorem Alike.awaits (h : Alike g s t) : Awaits g s t :=
  ⟨h.tref, by rw [h.stored], by rw [h.group]; rfl, fun _ => h.group, h.members⟩

theorem Awaits.groupOf (h : Awaits g s t) (i : Ix) : t.groupOf i = s.groupOf i := by
  rw [State.groupOf, h.tables]
  rfl

theorem Awaits.state (h : Awaits g s t) : (t.group g).state = (s.group g).state := by rw [h.group]; rfl

theorem Awaits.trans (h1 : Awaits g s t) (h2 : Awaits g t u) : Awaits g s u := by
  refine ⟨h2.tref.trans h1.tref, by rw [h2.tables, h1.tables], ?_, fun hc => ?_, fun i hi => ?_⟩
  · rw [h2.group, h1.group]
    rfl
  · rw [h2.unconsulted (by rw [h1.tref]; exact hc), h1.unconsulted hc]
  · rw [h2.members i ((h1.groupOf i).trans hi), h1.members i hi]

theorem State.resume_awaits (hne : h ≠ g) (hs : (s.group g).state = .suspended) : Awaits g s (s.resume h) := by
  have htables : (s.resume h).stored = { s.stored with dated := (s.resume h).stored.dated } := (s.resume_runs h).stored
  by_cases hin : g ∈ s.resumeScope h
  · have he := s.resume_each h hin
    have hgroup := s.reopened_group_ne h hne.symm
    have hcalm : (s.reopened h).tidied.switches g = false := by
      rw [State.switches, hgroup, hs]
      exact decide_eq_false fun hc => hc.2 rfl
    obtain ⟨hg, hm⟩ := he.calm hcalm
    rw [hgroup] at hg
    refine ⟨s.resume_tref h, htables, by rw [hg]; rfl, fun hc => ?_, fun i hi => ?_⟩
    · rw [State.mem_resumeScope, State.inScope, getLsbD_oneGroup, hc] at hin
      simp [hne] at hin
    · exact hm i (((s.reopened h).groupOf_tidied i).trans hi)
  · obtain ⟨hg, hm⟩ := s.resume_outside h hne.symm hin
    exact ⟨s.resume_tref h, htables, by rw [hg]; rfl, fun _ => hg, hm⟩

theorem Clearing.group_awaits {c : Clearing} (hne : h ≠ g) (hs : (c.s.group g).state = .suspended) :
    Awaits g c.s (c.group h).s := by
  have h1 : Awaits g c.s (c.s.groupCleared h) := (State.groupCleared_alike hne).awaits
  by_cases hr : c.s.resumes h
  · rw [(c.group_resumed h hr).1]
    exact h1.trans (State.resume_awaits hne (h1.state.trans hs))
  · rw [(c.group_calm h hr).1]
    exact h1

theorem Clearing.groups_await {c : Clearing} {l : List GroupNo} (hl : g ∉ l) (hs : (c.s.group g).state = .suspended) :
    Awaits g c.s (l.foldl Clearing.group c).s := by
  induction l generalizing c with
  | nil => exact ⟨rfl, rfl, rfl, fun _ => rfl, fun _ _ => rfl⟩
  | cons k l ih =>
    have h1 := Clearing.group_awaits (c := c) (List.ne_of_not_mem_cons hl).symm hs
    exact h1.trans (ih (List.not_mem_of_not_mem_cons hl) (h1.state.trans hs))

/-! ### After its turn -/

theorem Clearing.group_alike {c : Clearing} (hne : h ≠ g) (ht : c.s.Tidy) : Alike g c.s (c.group h).s := by
  have h1 : Alike g c.s (c.s.groupCleared h) := State.groupCleared_alike hne
  by_cases hr : c.s.resumes h
  · rw [(c.group_resumed h hr).1]
    exact h1.trans ((h1.tidy ht).resume_alike hne.symm)
  · rw [(c.group_calm h hr).1]
    exact h1

theorem Clearing.groups_alike {c : Clearing} {l : List GroupNo} (hl : g ∉ l) (ht : c.s.Tidy) :
    Alike g c.s (l.foldl Clearing.group c).s := by
  induction l generalizing c with
  | nil => exact ⟨rfl, rfl, rfl, fun _ _ => rfl⟩
  | cons k l ih =>
    have h1 := Clearing.group_alike (c := c) (List.ne_of_not_mem_cons hl).symm ht
    exact h1.trans (ih (List.not_mem_of_not_mem_cons hl) (h1.tidy ht))

end

/-! ### Its turn -/

/-- What a clear makes of a SUSPENDED group that it resumes (R59, R74, R89). -/
structure Resumed (g : GroupNo) (s t : State) : Prop where
  hold : (t.group g).hold = (s.group g).hold
  wants : s.Wants t g (t.group g).wanted (t.group g).source
  calm : (t.group g).wanted = (s.group g).target →
    t.group g = { s.group g with
      state := .free, suspension := none, wanted := (t.group g).wanted, source := (t.group g).source }
    ∧ ∀ i, s.groupOf i = some g → (s.member i).Freed → (t.member i).state = .free
  begun : (t.group g).wanted ≠ (s.group g).target →
    (s.Suspending ∧ (t.group g).state = .suspended)
    ∨ (t.group g = { s.group g with
          state := .pending, suspension := none, wanted := (t.group g).wanted, source := (t.group g).source
          target := (t.group g).wanted, ts := some s.startTs }
      ∧ ∀ i, s.groupOf i = some g → (s.member i).Taken ∨ (s.member i).Freed →
          ((t.group g).wanted = 0 → (t.member i).state = .ordered ∧ t.Released i s.startTs)
          ∧ ((t.group g).wanted ≠ 0 → s.stored.activation (s.member i) (t.group g).wanted = true →
              t.Ordered i (t.group g).wanted s.startTs))

theorem Resumed.then {g : GroupNo} {s t u : State} (h : Resumed g s t) (hof : ∀ i, t.groupOf i = s.groupOf i)
    (ha : Alike g t u) : Resumed g s u := by
  obtain ⟨hhold, hwants, hcalm, hbegun⟩ := h
  have hplace (i : Ix) : u.place i = t.place i := by rw [State.place, ha.stored]; rfl
  have hmember (i : Ix) (hi : s.groupOf i = some g) : u.member i = t.member i := ha.members i ((hof i).trans hi)
  simp only [State.Wants, ← ha.group, ← ha.stored] at hhold hwants hcalm hbegun
  refine ⟨hhold, hwants, fun hw => ⟨(hcalm hw).1, fun i hi hf => ?_⟩, fun hw => (hbegun hw).imp_right fun hb =>
    ⟨hb.1, fun i hi hf => ?_⟩⟩
  · rw [hmember i hi]
    exact (hcalm hw).2 i hi hf
  · obtain ⟨h0, h1⟩ := hb.2 i hi hf
    rw [State.released_iff, ← ha.stored, ← hmember i hi] at h0
    rw [State.ordered_iff, ← ha.stored, ← hmember i hi] at h1
    exact ⟨h0, h1⟩

/-- The wanted plan of a group that an evaluation reads with its hold and, where the timetable is not consulted, with its wanted
plan. -/
theorem State.wants_wantedOf_hold {s x t : State} {g : GroupNo} (htref : x.tref = s.tref) (hst : x.stored = t.stored)
    (hhold : (x.group g).hold = (s.group g).hold) (hkept : s.tref.state.consults = false → (x.group g).wanted = (s.group g).wanted) :
    s.Wants t g (x.wantedOf g).1 (x.wantedOf g).2 := by
  unfold State.Wants State.wantedOf
  simp only [s.consults_iff, htref, hst, hhold]
  refine ⟨fun h hh => ?_, fun hh => ⟨fun hc => ?_, fun hc => ⟨fun y hy => ?_, fun hy => ?_⟩⟩⟩
  · simp only [hh, and_self]
  · simp only [hh, if_neg hc, and_true]
    exact hkept (by simpa using hc)
  · simp only [hh, if_pos hc, hy, and_self]
  · simp only [hh, if_pos hc, hy, and_self]

/-- The members of a SUSPENDED group are cleared, and it stays SUSPENDED. -/
theorem State.groupCleared_suspended {s : State} {g : GroupNo} (hs : (s.group g).state = .suspended) :
    State.ClearedMembers (s.membersOf g) s (s.groupCleared g) ∧ (s.groupCleared g).group g = s.group g := by
  have hcleared : State.ClearedMembers (s.membersOf g) s (s.groupCleared g) :=
    State.clearMembers_cleared (s.membersOf_nodup g) fun i hi k hk hc => by
      obtain rfl : g = k := Option.some.inj ((State.mem_membersOf.mp hi).symm.trans hk)
      exact hc.1.not_suspended hs
  exact ⟨hcleared, (hcleared.1.groups g).stays_suspended hs⟩

/-- What a switch start finds of a member that has been cleared in a SUSPENDED group. -/
theorem Stored.ClearedAs.found {t : Stored} {i : Ix} {r : Option Group} {soon : Nat} {m n : Member}
    (h : t.ClearedAs i r soon m n) (hr : ∀ q, r = some q → ¬ q.Calls) (hm : m.Taken ∨ m.Freed) :
    n.Taken ∧ n.capability = m.capability := by
  rcases hm with ht | hf
  · have hne : m.state ≠ .latched := fun hl => by simp [Member.Taken, hl] at ht
    obtain ⟨hst, hcap⟩ := h.stays hne
    exact ⟨by rwa [Member.Taken, hst], hcap⟩
  · obtain ⟨hst, -, hcap⟩ := h.freed hf hr
    exact ⟨.inl hst, hcap⟩

section
variable {g : GroupNo} {s u v : State} (hw : Awaits g s u) (hs : (s.group g).state = .suspended)
  (hcleared : State.ClearedMembers (u.membersOf g) u v) (hgroup : v.group g = u.group g)
include hw hs hcleared hgroup

theorem State.resume_resumed : Resumed g s (v.resume g) := by
  obtain ⟨hmoves, hmembers⟩ := hcleared
  have he := v.resume_each g (v.mem_resumeScope_self g)
  have hxgroup := v.reopened_group g
  have hxstored : (v.reopened g).tidied.stored = (v.resume g).stored := (v.resume_stored g).symm
  have hxtref : (v.reopened g).tidied.tref = s.tref := hmoves.works.tref_eq.trans hw.tref
  have htables : (v.resume g).stored = { s.stored with dated := (v.resume g).stored.dated } := by
    rw [(v.resume_runs g).stored, hmoves.works.stored_eq, hw.tables]
  have hts : (v.reopened g).tidied.startTs = s.startTs := by
    rw [State.startTs, hxtref, hxstored, htables]
    rfl
  have hpolicies : (v.reopened g).tidied.stored.policies = s.stored.policies := by rw [hxstored, htables]
  have hrecord := hw.group
  rw [hgroup] at hxgroup
  have htarget : ((v.reopened g).tidied.group g).target = (s.group g).target := by
    rw [hxgroup, hrecord]
    rfl
  have hfree : ((v.reopened g).tidied.group g).state ≠ .suspended := by
    rw [hxgroup]
    nofun
  have hof (i : Ix) : (v.reopened g).tidied.groupOf i = s.groupOf i :=
    ((v.reopened g).groupOf_tidied i).trans ((hmoves.groupOf i).trans (hw.groupOf i))
  have hmember (i : Ix) (hi : s.groupOf i = some g) :
      u.stored.ClearedAs i (u.groupAt i) (u.tref.e + u.leadDs) (s.member i) (v.member i) := by
    rw [← hw.members i hi]
    exact hmembers i (State.mem_membersOf.mpr ((hw.groupOf i).trans hi))
  have hidle (i : Ix) (hi : s.groupOf i = some g) (q : Group) (hq : u.groupAt i = some q) : ¬ q.Calls := by
    rw [State.groupAt, hw.groupOf, hi] at hq
    obtain rfl := Option.some.inj hq
    exact fun hc => hc.not_suspended (hw.state.trans hs)
  refine ⟨?_, ?_, fun hwt => ?_, fun hwt => ?_⟩
  · rw [he.hold, hxgroup, hrecord]
    rfl
  · rw [he.wanted, he.source]
    refine State.wants_wantedOf_hold hxtref hxstored ?_ fun hc => ?_
    · rw [hxgroup, hrecord]
      rfl
    · rw [hxgroup, ← hw.unconsulted hc]
  · have hcalm : (v.reopened g).tidied.switches g = false :=
      decide_eq_false fun hc => hc.1 ((he.wanted.symm.trans hwt).trans htarget.symm)
    obtain ⟨hg, hm⟩ := he.calm hcalm
    refine ⟨?_, fun i hi hf => ?_⟩
    · rw [he.wanted, he.source, hg, hxgroup, hrecord]
      rfl
    · rw [hm i ((hof i).trans hi)]
      exact ((hmember i hi).freed hf (hidle i hi)).1
  · have hsw : (v.reopened g).tidied.switches g = true :=
      decide_eq_true ⟨fun heq => hwt ((he.wanted.trans heq).trans htarget), hfree⟩
    refine (he.begun hsw).imp (fun hb => ⟨?_, hb.2⟩) fun hb => ⟨?_, fun i hi hm => ?_⟩
    · rw [State.Suspending, ← hpolicies]
      exact hb.1
    · rw [he.wanted, he.source, hb.1, hxgroup, hrecord, hts]
      rfl
    · obtain ⟨htaken, hcap⟩ := (hmember i hi).found (hidle i hi) hm
      have hto := (hb.2 i ((hof i).trans hi)).taken htaken
      rw [hts, ← he.wanted, hxstored] at hto
      have hact : (v.resume g).stored.activation (v.member i) ((v.resume g).group g).wanted
          = s.stored.activation (s.member i) ((v.resume g).group g).wanted := by
        rw [Stored.activation_congr _ _ hcap, htables]
        rfl
      exact ⟨hto.released, fun hne ha => hto.ordered hne (hact.trans ha)⟩

end

theorem Clearing.group_resumes {g : GroupNo} {s : State} {c : Clearing} (hw : Awaits g s c.s)
    (hs : (s.group g).state = .suspended) :
    Resumed g s (c.group g).s ∧ (c.group g).s.Tidy ∧ g ∈ (c.group g).groups := by
  obtain ⟨hcleared, hgroup⟩ := State.groupCleared_suspended (hw.state.trans hs)
  have hr : c.s.resumes g := by rw [State.resumes, hgroup, hw.state, hs]
  obtain ⟨hstate, hgroups⟩ := c.group_resumed g hr
  rw [hstate, hgroups]
  exact ⟨State.resume_resumed hw hs hcleared hgroup, State.resume_tidy _ _, .head _⟩

/-- A clear of several groups and then of members of none of them resumes each group that it finds SUSPENDED. -/
theorem State.clearing_resumed {s : State} {l : List GroupNo} {k : List Ix} {g : GroupNo} (hnd : l.Nodup) (hg : g ∈ l)
    (hk : ∀ i ∈ k, s.groupOf i ≠ some g) (hs : (s.group g).state = .suspended) :
    Resumed g s (s.clearing l k).s ∧ g ∈ (s.clearing l k).groups := by
  obtain ⟨before, after, rfl⟩ := List.append_of_mem hg
  obtain ⟨-, hafter, hdisj⟩ := List.nodup_append.mp hnd
  have hbefore : g ∉ before := fun h => hdisj g h g (.head _) rfl
  unfold State.clearing
  rw [List.foldl_append, List.foldl_cons]
  have hw : Awaits g s (before.foldl Clearing.group ⟨s, 0, []⟩).s := Clearing.groups_await (c := ⟨s, 0, []⟩) hbefore hs
  generalize before.foldl Clearing.group ⟨s, 0, []⟩ = c at hw
  obtain ⟨hres, htidy, hin⟩ := Clearing.group_resumes hw hs
  have hof (i : Ix) : (c.group g).s.groupOf i = s.groupOf i := ((c.group_runs g).groupOf i).trans (hw.groupOf i)
  generalize c.group g = d at hres htidy hin hof
  have h1 : Alike g d.s (after.foldl Clearing.group d).s := Clearing.groups_alike (List.nodup_cons.mp hafter).1 htidy
  obtain ⟨hstate, hgroups⟩ := (after.foldl Clearing.group d).members_eq k
  rw [hstate, hgroups]
  refine ⟨hres.then hof (h1.trans (State.clearMembers_alike fun i hi => ?_)), ?_⟩
  · rw [h1.groupOf, hof]
    exact hk i hi
  · obtain ⟨r, -, heq⟩ := d.groups_sublist after
    rw [heq]
    exact List.mem_append_right _ hin

end Sys2Proof.Machine
end

section
/-! SUPPORT. The targets of CLEAR_FAULTS (R166): the groups and the members that each of them takes, and what comes of the whole clear. -/

namespace Sys2Proof.Machine

-- One theorem at a time: a proof that waits for the ones before it holds a thread of its own.
set_option Elab.async false

/-! ### The whole clear -/

section
variable {s : State} {l : List GroupNo} {k : List Ix}

theorem State.mem_clearList {i : Ix} : i ∈ s.clearList l k ↔ (∃ g ∈ l, s.groupOf i = some g) ∨ i ∈ k := by
  simp only [State.clearList, List.mem_append, List.mem_flatMap, State.mem_membersOf]

theorem State.clearList_nodup (hl : l.Nodup) (hk : k.Nodup) (hout : ∀ g ∈ l, ∀ i ∈ k, s.groupOf i ≠ some g) :
    (s.clearList l k).Nodup := by
  refine List.Nodup.append (List.nodup_flatMap.mpr ⟨fun g _ => s.membersOf_nodup g, ?_⟩) hk fun i hi hik => ?_
  · refine List.Pairwise.imp (fun {g h} hne i hg hh => ?_) hl
    rw [State.mem_membersOf] at hg hh
    exact hne (Option.some.inj (hg.symm.trans hh))
  · obtain ⟨g, hg, hgi⟩ := List.mem_flatMap.mp hi
    exact hout g hg i hik (State.mem_membersOf.mp hgi)

variable (s l k)

theorem State.clearing_runs : Runs s (s.clearing l k).s := by
  rw [State.clearing, (Clearing.members_eq _ k).1]
  exact (Clearing.groups_runs l ⟨s, 0, []⟩).trans (State.clearMembers_coordinated _ k).runs

theorem State.clearing_groups : (s.clearing l k).groups.reverse.Sublist l := by
  rw [State.clearing, (Clearing.members_eq _ k).2]
  obtain ⟨r, hr, heq⟩ := Clearing.groups_sublist l ⟨s, 0, []⟩
  rw [heq, List.append_nil, List.reverse_reverse]
  exact hr

variable {s l k}

theorem State.clearing_clears (hnd : (s.clearList l k).Nodup) (hl : l.Nodup) :
    Clears Anybody (s.clearList l k) ⟨s, 0, []⟩ (s.clearing l k) := by
  obtain ⟨-, hk, hdisj⟩ := List.nodup_append.mp hnd
  exact (Clearing.groups_clears l ⟨s, 0, []⟩ hl).append ((Clearing.members_clears hk _).mono fun _ h => h.elim)
    fun i hi hik => hdisj i hi i hik rfl

/-- When no group is resumed the members are cleared and nothing else is done. -/
theorem State.clearing_calm (h : (s.clearing l k).groups = []) : (s.clearing l k).s = s.clearMembers (s.clearList l k) := by
  rw [State.clearing, (Clearing.members_eq _ k).2] at h
  rw [State.clearing, (Clearing.members_eq _ k).1, Clearing.groups_calm l ⟨s, 0, []⟩ h]
  exact (List.foldl_append ..).symm

theorem State.clearing_cleared (hnd : (s.clearList l k).Nodup) (hno : ¬ s.Suspending) (h : (s.clearing l k).groups = []) :
    State.ClearedMembers (s.clearList l k) s (s.clearing l k).s := by
  rw [State.clearing_calm h]
  exact State.clearMembers_cleared hnd fun _ _ _ _ hc => hno hc.2

theorem State.clearing_found (hno : ¬ s.Suspending) {g : GroupNo} (hg : g ∈ (s.clearing l k).groups) :
    (s.group g).state = .suspended := by
  rw [State.clearing, (Clearing.members_eq _ k).2] at hg
  exact (Clearing.groups_found (c := ⟨s, 0, []⟩) hno l hg).resolve_left List.not_mem_nil

end

/-! ### The targets -/

namespace ClearFaultsArgs

variable (a : ClearFaultsArgs) (s : State)

/-- A target that there is: an intersection, a group, or ALL. -/
def Known : Prop := (a.kind = 0 ∧ a.number ≤ 63) ∨ (a.kind = 1 ∧ a.number ≤ 15) ∨ a.kind = 2

/-- The intersections of a target. -/
def Covers (i : Ix) : Prop := (a.kind = 0 ∧ a.number = i.val) ∨ (a.kind = 1 ∧ (s.groupOf i).map (·.val) = some a.number) ∨ a.kind = 2

/-- The groups of a target. -/
def Resumes (g : GroupNo) : Prop := (a.kind = 1 ∧ a.number = g.val) ∨ a.kind = 2

/-- The clear of a target as a clear of groups and then of members of none of them. -/
structure Takes (l : List GroupNo) (k : List Ix) : Prop where
  run : clearTarget a s = some (s.clearing l k)
  ordered : l.Pairwise fun g h => g.val < h.val
  groups : ∀ g, g ∈ l ↔ a.Resumes g
  nodup : k.Nodup
  covers : ∀ i, i ∈ s.clearList l k ↔ a.Covers s i
  outside : ∀ g ∈ l, ∀ i ∈ k, s.groupOf i ≠ some g
  counted : a.kind ≠ 2 → (s.clearing l k).members = (s.latchedOf (s.clearList l k)).length

theorem clearTarget_unknown (h : ¬ a.Known) : clearTarget a s = none := by
  unfold clearTarget
  split
  next hk => rw [inRange_none fun hn => h (.inl ⟨hk, by omega⟩)]; rfl
  next hk => rw [inRange_none fun hn => h (.inr (.inl ⟨hk, by omega⟩))]; rfl
  next hk => exact absurd (.inr (.inr hk)) h
  next => rfl

variable {a s}

theorem takes_intersection {i : Ix} (hk : a.kind = 0) (hn : a.number = i.val) : a.Takes s [] [i] := by
  refine ⟨?_, .nil, fun g => ?_, List.nodup_singleton i, fun j => ?_, nofun, fun _ => ?_⟩
  · simp only [clearTarget, hk, hn, inRange_val]
    rfl
  · simp [Resumes, hk]
  · simp [State.mem_clearList, Covers, hk, hn, Fin.ext_iff, eq_comm]
  · exact ((Clearing.member_clears ⟨s, 0, []⟩ i).exact fun _ h => h.2).trans (Nat.zero_add _)

theorem takes_group {g : GroupNo} (hk : a.kind = 1) (hn : a.number = g.val) : a.Takes s [g] [] := by
  refine ⟨?_, List.pairwise_singleton _ _, fun h => ?_, .nil, fun i => ?_, nofun, fun _ => ?_⟩
  · simp only [clearTarget, hk, hn, inRange_val]
    rfl
  · simp [Resumes, hk, hn, Fin.ext_iff, eq_comm]
  · simp only [State.mem_clearList, Covers, hk, hn, List.mem_singleton, exists_eq_left]
    cases s.groupOf i <;> simp [Fin.ext_iff]
  · refine ((Clearing.group_counted ⟨s, 0, []⟩ g).trans (Nat.zero_add _)).trans ?_
    rw [State.clearList, List.flatMap_singleton, List.append_nil]

theorem takes_all (hk : a.kind = 2) : a.Takes s allGroups (allIx.filter fun i => s.groupOf i = none) := by
  refine ⟨?_, List.pairwise_lt_finRange 16, fun g => ?_, (List.nodup_finRange 64).filter _, fun i => ?_, fun g _ i hi => ?_,
    fun h => absurd hk h⟩
  · simp only [clearTarget, hk]
    rfl
  · simp [Resumes, hk, allGroups]
  · simp only [State.mem_clearList, Covers, hk]
    cases h : s.groupOf i <;> simp [allGroups, allIx, h]
  · rw [of_decide_eq_true (List.mem_filter.mp hi).2]
    nofun

theorem exists_takes (h : a.Known) : ∃ l k, a.Takes s l k := by
  rcases h with ⟨hk, hn⟩ | ⟨hk, hn⟩ | hk
  · exact ⟨_, _, takes_intersection (i := ⟨a.number, by omega⟩) hk rfl⟩
  · exact ⟨_, _, takes_group (g := ⟨a.number, by omega⟩) hk rfl⟩
  · exact ⟨_, _, takes_all hk⟩

end ClearFaultsArgs

/-- Of the intersections in their order, those of a list without repetitions are as many as it holds. -/
theorem latchedOf_length {s : State} {l : List Ix} (hl : l.Nodup) {p : Ix → Bool} (hp : ∀ i, p i = true ↔ i ∈ l) :
    (allIx.filter fun i => p i && (s.member i).anyLatched).length = (s.latchedOf l).length := by
  refine List.Perm.length_eq ((List.perm_ext_iff_of_nodup ((List.nodup_finRange 64).filter _) (hl.filter _)).mpr fun i => ?_)
  simp [hp]

/-! ### What a clear of a target comes to -/

/-- What a clear of a target comes to; `c` holds the state it leaves, the members counted and the groups resumed, newest first. -/
structure ClearFaultsArgs.Outcome (a : ClearFaultsArgs) (s : State) (c : Clearing) : Prop where
  runs : Runs s c.s
  ordered : c.groups.reverse.Pairwise fun g h => g.val < h.val
  targets : ∀ g ∈ c.groups, a.Resumes g
  found : ¬ s.Suspending → ∀ g ∈ c.groups, (s.group g).state = .suspended
  counted : ∀ p : Ix → Bool, (∀ i, p i = true ↔ a.Covers s i) →
    (allIx.filter fun i => p i && (s.member i).anyLatched).length ≤ c.members
      ∧ (a.kind ≠ 2 ∨ ¬ s.Latches → c.members = (allIx.filter fun i => p i && (s.member i).anyLatched).length)
  wiped : ∀ i, a.Covers s i → (s.member i).Wiped s.Latches (c.s.member i)
  stored : c.groups = [] → c.s.stored = s.stored
  cleared : c.groups = [] → ¬ s.Suspending → ∀ i, a.Covers s i →
    s.stored.ClearedAs i (s.groupAt i) (s.tref.e + s.leadDs) (s.member i) (c.s.member i)
  others : c.groups = [] → ¬ s.Suspending → ∀ i, ¬ a.Covers s i → c.s.member i = s.member i
  resumed : ∀ g, a.Resumes g → (s.group g).state = .suspended → g ∈ c.groups ∧ Resumed g s c.s

theorem ClearFaultsArgs.Takes.outcome {a : ClearFaultsArgs} {s : State} {l : List GroupNo} {k : List Ix} (h : a.Takes s l k) :
    a.Outcome s (s.clearing l k) := by
  have hl : l.Nodup := h.ordered.imp fun hlt => Fin.ne_of_lt hlt
  have hnd := State.clearList_nodup hl h.nodup h.outside
  have hclears := State.clearing_clears hnd hl
  have hsub := s.clearing_groups l k
  have htarget {g : GroupNo} (hg : g ∈ (s.clearing l k).groups) : g ∈ l := hsub.subset (List.mem_reverse.mpr hg)
  have hcleared := State.clearing_cleared (s := s) hnd
  refine ⟨s.clearing_runs l k, h.ordered.sublist hsub, fun g hg => (h.groups g).mp (htarget hg),
    fun hno g => State.clearing_found hno, fun p hp => ?_, fun i hi => hclears.wiped i ((h.covers i).mpr hi), fun hnil => ?_,
    fun hnil hno i hi => (hcleared hno hnil).2 i ((h.covers i).mpr hi),
    fun hnil hno i hi => (hcleared hno hnil).1.members i (mt (h.covers i).mp hi), fun g hg hs => ?_⟩
  · rw [latchedOf_length hnd fun i => (hp i).trans (h.covers i).symm]
    refine ⟨(Nat.zero_add _).ge.trans hclears.counted, fun hone => hone.elim h.counted fun hno => ?_⟩
    exact (hclears.exact fun _ hi => hno hi.1).trans (Nat.zero_add _)
  · rw [State.clearing_calm hnil]
    exact (s.clearMembers_coordinated _).works.stored_eq
  · have hg := (h.groups g).mpr hg
    exact (State.clearing_resumed hl hg (h.outside g hg) hs).symm

theorem ClearFaultsArgs.exists_outcome {a : ClearFaultsArgs} (s : State) (h : a.Known) :
    ∃ c, clearTarget a s = some c ∧ a.Outcome s c := by
  obtain ⟨l, k, htakes⟩ := exists_takes (s := s) h
  exact ⟨_, htakes.run, htakes.outcome⟩

theorem clearFaultsBlock_of_none {a : ClearFaultsArgs} {s : State} (h : clearTarget a s = none) :
    clearFaultsBlock a s = (s, plain .badArg) := by rw [clearFaultsBlock, h]

theorem clearFaultsBlock_of_some {a : ClearFaultsArgs} {s : State} {c : Clearing} (h : clearTarget a s = some c) :
    clearFaultsBlock a s
      = (c.s, (.ok, .n1 c.members :: .n1 c.groups.reverse.length :: c.groups.reverse.map fun g => .n1 g.val)) := by
  rw [clearFaultsBlock, h]
  simp only [listItem, flatMap_single]

/-- Giving a reply and closing the command change segments and ports alone. -/
theorem State.replied_alike (u : State) (p : Port) (ans : Answer) (g : GroupNo) :
    Alike g u (u.modPort p (·.giveReply ans)).settle := by
  refine ⟨State.settle_tref _, State.settle_stored _, ?_, fun i _ => ?_⟩
  · rw [State.group, State.settle_groups]
    rfl
  · rw [State.member, State.settle_members]
    rfl

end Sys2Proof.Machine

section
open Sys2Proof Sys2Proof.Machine

-- One theorem at a time: a proof that waits for the ones before it holds a thread of its own.
set_option Elab.async false

/-- Settles O50: a target is a clear of groups and of members (`ClearFaultsArgs.Takes`). What it makes of flags, alerts and counts holds
whatever else is cleared and evaluated (`Clears`); where it leaves the members when no group is resumed is `State.ClearedMembers`; and a
group that it finds SUSPENDED is resumed at its turn, before and after which nothing touches it (`State.clearing_resumed`). -/
theorem clearFaultsEndsLatchedConditions : Obligations.ClearFaultsEndsLatchedConditions := by
  unfold Obligations.ClearFaultsEndsLatchedConditions
  intro s f a hs hn hport ha soon pair latched held covers resumable known
  have hr : Request.clearFaults.allowed f.port = true := decide_eq_true hport
  have hexec : exec (.clearFaults f) s = .next (s.request f .clearFaults (some a) (answering clearFaultsBlock)).settle := by
    simp only [exec, execClearFaults, ha]
  refine ⟨fun hbad => ?_, fun hknown => ?_⟩
  · exact hexec.trans (congrArg Host.Outcome.next
      (State.request_read hs hr hn (clearFaultsBlock_of_none (a.clearTarget_unknown _ hbad))))
  obtain ⟨c, hrun, h⟩ := ClearFaultsArgs.exists_outcome (s.handedOver f .clearFaults) hknown
  rw [State.request_served s f .clearFaults a clearFaultsBlock hs hr, clearFaultsBlock_of_some hrun] at hexec
  obtain ⟨ns, hports⟩ := h.runs.ports
  have hreply := State.hasReply hs hports .ok
    (.n1 c.members :: .n1 c.groups.reverse.length :: c.groups.reverse.map fun g => .n1 g.val)
  have halike := c.s.replied_alike f.port
    (.ok, .n1 c.members :: .n1 c.groups.reverse.length :: c.groups.reverse.map fun g => .n1 g.val)
  generalize ht : (c.s.modPort f.port _).settle = t at hexec hreply halike
  have hmember (i : Ix) : t.member i = c.s.member i := by
    rw [← ht, State.member, State.settle_members]
    rfl
  have hstored : t.stored = c.s.stored := (halike 0).stored
  have hnil (hnone : c.groups.reverse = []) : c.groups = [] := List.reverse_eq_nil_iff.mp hnone
  have hcovers (i : Ix) : covers i = true ↔ a.Covers (s.handedOver f .clearFaults) i := decide_eq_true_iff
  obtain ⟨hlower, hexact⟩ := h.counted covers hcovers
  have hwiped (i : Ix) (hi : covers i = true) : (s.member i).Wiped s.Latches (t.member i) := by
    rw [hmember]
    exact h.wiped i ((hcovers i).mp hi)
  have hsame (hnone : c.groups.reverse = []) : t.stored = s.stored := hstored.trans (h.stored (hnil hnone))
  have hothers (hnone : c.groups.reverse = []) (hno : pair ≠ ⟨.latched, .group⟩) (i : Ix) (hi : ¬ covers i = true) :
      t.member i = s.member i := (hmember i).trans (h.others (hnil hnone) hno i (mt (hcovers i).mpr hi))
  have hcleared (hnone : c.groups.reverse = []) (hno : pair ≠ ⟨.latched, .group⟩) (i : Ix) (hi : covers i = true) :
      s.stored.ClearedAs i (s.groupAt i) soon (s.member i) (t.member i) := by
    rw [hmember]
    exact h.cleared (hnil hnone) hno i ((hcovers i).mp hi)
  refine ⟨t, c.groups.reverse, c.members, hexec, hreply, hexact, hlower, (halike 0).tref.trans h.runs.tref, ?_, ?_, ?_,
    by rw [hstored]; exact h.runs.stored, h.ordered, fun g hg => h.targets g (List.mem_reverse.mp hg),
    fun g hg hsus => List.mem_reverse.mpr (h.resumed g hg hsus).1,
    fun g hg => or_iff_not_imp_right.mpr fun hno => h.found hno g (List.mem_reverse.mp hg),
    fun i c hi hc hne => (hwiped i hi).entry c hc hne, fun i c hi hc hno => (hwiped i hi).unlatched hno c hc,
    fun i hi _ => ⟨(hwiped i hi).noReplies, (hwiped i hi).alerts⟩, fun hnone => ⟨hsame hnone, fun i hout hno => ?_⟩,
    fun i hi hl hst hh _ hno hnone => (hcleared hnone hno i hi).held ⟨hl, hst⟩ hh,
    fun i hi hl hst hno hnone => ((hcleared hnone hno i hi).stays hst).1, fun i hi hl hst hh hidle hno hnone => ?_,
    fun i g tm hi hl hst hh hg htm hno hnone => ?_, fun g hg hsus => ?_⟩
  · rw [← ht, State.settle_cfs]
    exact h.runs.cfs
  · rw [← ht, State.settle_polls]
    exact h.runs.polls
  · rw [← ht, State.settle_owed]
    exact h.runs.owed
  · by_cases hi : covers i = true
    · exact (hcleared hnone hno i hi).calm (hout.resolve_left (by rw [hi]; decide))
    · exact hothers hnone hno i hi
  · have hcalls (q : Group) (hq : s.groupAt i = some q) : ¬ q.Calls := by
      obtain ⟨g, hg, rfl⟩ := Option.map_eq_some_iff.mp hq
      exact Group.not_calls ((hidle g hg).imp_right (.imp_left And.left))
    obtain ⟨hstate, horder, -⟩ := (hcleared hnone hno i hi).freed ⟨⟨hl, hst⟩, hh⟩ hcalls
    exact ⟨hstate, horder⟩
  · obtain ⟨hcalls, htm⟩ := Group.calls_at htm
    have hat : s.groupAt i = some (s.group g) := by
      rw [State.groupAt, hg]
      rfl
    obtain ⟨hkept, hord, hfail⟩ := (hcleared hnone hno i hi).called ⟨⟨hl, hst⟩, hh⟩ _ hat hcalls
    rw [htm, ← hsame hnone] at hord
    exact ⟨hkept, fun hnot => hsame hnone ▸ hord hnot, hfail⟩
  · have hres : Resumed g (s.handedOver f .clearFaults) t := (h.resumed g hg hsus).2.then h.runs.groupOf (halike g)
    refine ⟨hres.hold, hres.wants, fun hw => ⟨(hres.calm hw).1, fun i hi hl hst hh => (hres.calm hw).2 i hi ⟨⟨hl, hst⟩, hh⟩⟩,
      fun hw => (hres.begun hw).imp_right fun ⟨hgroup, hmembers⟩ => ⟨hgroup, fun i hi hm => hmembers i hi ?_⟩⟩
    exact hm.imp_right fun ⟨hl, hst, hh⟩ => ⟨⟨hl, hst⟩, hh⟩

end
end

section
/-! SUPPORT. GroupRecordsStaySound does not hold: its premises allow a member in service on a segment in OFF, whom ENABLE_SEGMENT takes
to UNKNOWN without the tests of R70. -/

namespace Sys2Proof.Machine

/-- Group 0 is in TRANSITION, and its one member that keeps it there, intersection 0, is ORDERED although its segment 0 is OFF; an
ENABLE_SEGMENT of that segment waits. No premise of the statement says that the members of a segment in OFF are OFFLINE (R119). -/
def State.orderedOnOff : State :=
  { State.reset with
    pending := [.enableSegment ⟨.centre, 0, [0]⟩]
    phase := .running
    stored := { Stored.empty with
      groupOf := vset Stored.empty.groupOf 0 (some 0), maps := vset Stored.empty.maps 0 (some ⟨0, 0⟩) }
    groups := vset State.reset.groups 0 { Group.initial with current := 1, target := 1, ts := some 0, state := .transition }
    members := vset State.reset.members 0 { Member.initial with state := .ordered } }

namespace State.orderedOnOff

theorem group_zero :
    orderedOnOff.group 0 = { Group.initial with current := 1, target := 1, ts := some 0, state := .transition } :=
  vget_vset_self _ _ _

theorem group_ne {g : GroupNo} (h : g ≠ 0) : orderedOnOff.group g = Group.initial :=
  (vget_vset_ne _ _ _ _ h).trans (State.group_reset g)

theorem member_zero : orderedOnOff.member 0 = { Member.initial with state := .ordered } := vget_vset_self _ _ _

theorem member_ne {i : Ix} (h : i ≠ 0) : orderedOnOff.member i = Member.initial :=
  (vget_vset_ne _ _ _ _ h).trans (State.member_reset i)

theorem groupOf_zero : orderedOnOff.groupOf 0 = some 0 := vget_vset_self _ _ _

theorem groupsSound : orderedOnOff.GroupsSound := fun g => by
  by_cases h : g = 0
  · rw [h, group_zero]
    simp [Group.Sound, Group.initial]
  · rw [group_ne h]
    exact Group.sound_initial

theorem membersFollow : orderedOnOff.MembersFollow := fun i => by
  by_cases h : i = 0
  · rw [h, member_zero]
    exact ⟨fun _ => ⟨0, groupOf_zero, .inr (by rw [group_zero])⟩, nofun, nofun⟩
  · rw [member_ne h]
    exact ⟨nofun, nofun, nofun⟩

theorem transitionsWork : orderedOnOff.TransitionsWork := fun g hg => by
  by_cases h : g = 0
  · exact ⟨0, h ▸ groupOf_zero, by rw [member_zero]; rfl⟩
  · rw [group_ne h] at hg
    cases hg

/-- The step leaves group 0 in TRANSITION and its member in UNKNOWN. -/
theorem step_eq : ∃ t, step orderedOnOff = .next t ∧ (t.group 0).state = .transition
    ∧ ∀ i, t.groupOf i = some 0 → (t.member i).state.working = false := by
  have h : (match step orderedOnOff with
      | .next t => decide ((t.group 0).state = .transition)
          && allIx.all fun i => decide (t.groupOf i = some 0 → (t.member i).state.working = false)
      | _ => false) = true := by decide +kernel
  split at h
  next t ht =>
    simp only [Bool.and_eq_true, decide_eq_true_eq, List.all_eq_true] at h
    exact ⟨t, ht, h.1, fun i => h.2 i (mem_allIx i)⟩
  next => cases h

end State.orderedOnOff

end Sys2Proof.Machine
end

section

open Sys2Proof Sys2Proof.Machine

/-- Refutes O59: in `State.orderedOnOff` every premise holds, and the step that enables segment 0 takes the one working member of a
TRANSITION group to UNKNOWN, so that the group is left with none. -/
theorem not_groupRecordsStaySound : ¬ Obligations.GroupRecordsStaySound := by
  unfold Obligations.GroupRecordsStaySound
  intro h
  obtain ⟨t, hstep, hgroup, hnone⟩ := State.orderedOnOff.step_eq
  obtain ⟨-, -, hfollow⟩ := h State.orderedOnOff t hstep
  obtain ⟨-, hworks⟩ := hfollow State.orderedOnOff.groupsSound (fun hp => absurd rfl hp) State.orderedOnOff.membersFollow
  obtain ⟨i, hi, hwork⟩ := hworks State.orderedOnOff.transitionsWork 0 hgroup
  rw [hnone i hi] at hwork
  cases hwork

end

section
/-! SUPPORT. The instants of a switch (R79, R80): Ts, at which the target becomes the current plan, and Tm, at which an order still owed
is missed. -/

namespace Sys2Proof.Machine

/-! ### Reaching Ts (R79) -/

section
variable {s : State} {g : GroupNo}

theorem State.tsDue_iff : s.tsDue g = true ↔ (s.group g).state = .pending ∧ ∃ x, (s.group g).ts = some x ∧ x ≤ s.tref.e := by
  simp [State.tsDue, Option.any_eq_true]

theorem exec_tsReached (g : GroupNo) (s : State) :
    exec (.tsReached g) s = .next (if s.tsDue g then (s.reachTs g).settle else s) := rfl

theorem State.anyOrdered_iff :
    ((s.membersOf g).any fun i => (s.member i).state = .ordered) = true
      ↔ ∃ i, s.groupOf i = some g ∧ (s.member i).state = .ordered := by
  simp [State.mem_membersOf]

theorem State.freeOrdered_member (s : State) (i j : Ix) :
    (s.freeOrdered j).member i = if i = j ∧ (s.member i).state = .ordered then (s.member i).enter .free else s.member i := by
  unfold State.freeOrdered State.enter
  by_cases hi : i = j
  · subst hi
    by_cases hst : (s.member i).state = .ordered <;> simp [hst]
  · split <;> simp [hi, State.member_modMember_ne]

theorem State.freeOrdered_foldl_eq (l : List Ix) (s : State) :
    l.foldl State.freeOrdered s = { s with members := (l.foldl State.freeOrdered s).members } := by
  induction l generalizing s with
  | nil => rfl
  | cons j l ih =>
    have hfree : s.freeOrdered j = { s with members := (s.freeOrdered j).members } := by
      unfold State.freeOrdered
      split <;> rfl
    rw [List.foldl_cons, ih, hfree]

theorem State.freeOrdered_foldl_member (i : Ix) (l : List Ix) (s : State) :
    (l.foldl State.freeOrdered s).member i
      = if i ∈ l ∧ (s.member i).state = .ordered then (s.member i).enter .free else s.member i := by
  induction l generalizing s with
  | nil => simp
  | cons j l ih =>
    rw [List.foldl_cons, ih, State.freeOrdered_member]
    by_cases hij : i = j
    · subst hij
      by_cases hst : (s.member i).state = .ordered <;> simp [hst]
    · simp [hij]

theorem State.reachTs_free (h : (s.group g).target = 0) :
    s.reachTs g = { s with
      groups := vset s.groups g { s.group g with state := .free, current := 0, ts := none }
      members := Vector.ofFn fun i =>
        if s.groupOf i = some g ∧ (s.member i).state = .ordered then (s.member i).enter .free else s.member i } := by
  unfold State.reachTs
  have hmembers (u : State) : ((s.membersOf g).foldl State.freeOrdered u).members = Vector.ofFn fun i =>
      if s.groupOf i = some g ∧ (u.member i).state = .ordered then (u.member i).enter .free else u.member i :=
    vget_ext fun i => (State.freeOrdered_foldl_member i _ u).trans (by simp only [vget_ofFn, State.mem_membersOf])
  rw [if_pos h, State.freeOrdered_foldl_eq, hmembers]
  rfl

theorem State.reachTs_transition (h : (s.group g).target ≠ 0) (ho : ∃ i, s.groupOf i = some g ∧ (s.member i).state = .ordered) :
    s.reachTs g = s.setGroup g { s.group g with state := .transition, current := (s.group g).target } := by
  unfold State.reachTs
  rw [if_neg h, if_pos (State.anyOrdered_iff.mpr ho)]

/-- The GROUP_STEADY notice of a group, with the counts of its members as they stand in `t` (R91). -/
def State.steadyNotice (s t : State) (g : GroupNo) : Notice :=
  ⟨s.tref.e, .groupSteady g (s.group g).current
    (allIx.filter fun i => decide (s.groupOf i = some g ∧ (t.member i).state = .inStep)).length
    (allIx.filter fun i => decide (s.groupOf i = some g ∧ (t.member i).state.eligible = false)).length⟩

theorem State.offerSteady_eq (s : State) (g : GroupNo) : s.offerSteady g = s.told [s.steadyNotice s g] := by
  simp only [State.offerSteady, State.offer_eq_told, State.steadyNotice, State.membersOf, List.filter_filter]
  congr 6 <;> funext i <;> simp [Bool.and_comm]

theorem MemberState.eligible_false_iff (st : MemberState) :
    st.eligible = false ↔ st ≠ .ordered ∧ st ≠ .correcting ∧ st ≠ .inStep := by cases st <;> simp [eligible]

theorem State.reachTs_steady (h : (s.group g).target ≠ 0) (ho : ∀ i, ¬ (s.groupOf i = some g ∧ (s.member i).state = .ordered)) :
    s.reachTs g
      = (s.setGroup g { s.group g with state := .steady, current := (s.group g).target, ts := none }).told
          [(s.setGroup g { s.group g with state := .steady, current := (s.group g).target, ts := none }).steadyNotice s g] := by
  unfold State.reachTs
  rw [if_neg h, if_neg (mt State.anyOrdered_iff.mp fun ⟨i, hi⟩ => ho i hi), State.offerSteady_eq]
  rfl

end

end Sys2Proof.Machine
end

section

open Sys2Proof Sys2Proof.Machine

/-- Settles O29: a Ts that is due takes one of the three ways of R79, and none of them gives a segment something to send. -/
theorem reachingTsChangesTheCurrentPlan : Obligations.ReachingTsChangesTheCurrentPlan := by
  unfold Obligations.ReachingTsChangesTheCurrentPlan
  intro s g hidle r reached ordered
  rw [exec_tsReached]
  refine ⟨fun h => by rw [if_neg (mt State.tsDue_iff.mp h)], fun h ht => ?_, fun h ht ho => ?_, fun h ht ho => ?_⟩
  · rw [if_pos (State.tsDue_iff.mpr h), State.reachTs_free ht]
    exact congrArg _ (hidle.settle_congr (by rfl) (by rfl) (by rfl) (by rfl))
  · rw [if_pos (State.tsDue_iff.mpr h), State.reachTs_transition ht ho]
    exact congrArg _ (hidle.settle_congr (by rfl) (by rfl) (by rfl) (by rfl))
  · rw [if_pos (State.tsDue_iff.mpr h), State.reachTs_steady ht ho]
    refine congrArg _ ((hidle.settle_told_congr (by rfl) (by rfl) (by rfl) (by rfl) _).trans ?_)
    simp only [State.steadyNotice, State.group_setGroup_self, MemberState.eligible_false_iff]
    rfl

end

section
/-! SUPPORT. The end of the turnaround (R141, R142): what the arbiter names is a poll that is owed or a transaction that is queued, so it can
be sent, and a segment that sends is not free. -/

namespace Sys2Proof.Machine

/-! ### What the arbiter names (R155) -/

theorem bestPoll_mem {u : Urgency} {l : List (Ix × Poll)} {x : Ix × Poll} (h : bestPoll u l = some x) : x ∈ l := by
  induction l generalizing x with
  | nil => cases h
  | cons a l ih =>
    obtain ⟨i, p⟩ := a
    rw [bestPoll] at h
    split at h
    · split at h
      next hbest =>
        split at h
        · cases h
          exact .tail _ (ih hbest)
        · cases h
          exact .head _
      next =>
        cases h
        exact .head _
    · exact .tail _ (ih h)

theorem State.place_of_owed {s : State} {k : SegNo} {x : Ix × Poll} (h : x ∈ s.owedPolls k) :
    ∃ d, s.place x.1 = some ⟨k, d⟩ := by
  obtain ⟨i, hi, hx⟩ := List.mem_filterMap.mp h
  have hxi : x.1 = i := by
    split at hx
    · split at hx
      · cases hx
        rfl
      · cases hx
    · cases hx
  obtain ⟨d, -, hd⟩ := List.mem_filterMap.mp hi
  exact ⟨d, by simpa [hxi] using List.find?_some hd⟩

/-- What the arbiter names is an owed poll or a queued transaction. -/
theorem State.arbiter_names {s : State} {k : SegNo} {n : Named} (h : s.arbiter k = some n) :
    (∃ x ∈ s.owedPolls k, n = namePoll x) ∨ ∃ y ∈ (s.segment k).queue, n = nameTxn y := by
  have poll {u : Urgency} (hu : (bestPoll u (s.owedPolls k)).map namePoll = some n) : ∃ x ∈ s.owedPolls k, n = namePoll x := by
    obtain ⟨x, hx, rfl⟩ := Option.map_eq_some_iff.mp hu
    exact ⟨x, bestPoll_mem hx, rfl⟩
  have queued {p : Txn → Bool} (hq : ((s.segment k).queue.find? p).map nameTxn = some n) :
      ∃ y ∈ (s.segment k).queue, n = nameTxn y := by
    obtain ⟨y, hy, rfl⟩ := Option.map_eq_some_iff.mp hq
    exact ⟨y, List.mem_of_find?_eq_some hy, rfl⟩
  simp only [State.arbiter, Option.orElse_eq_orElse, Option.orElse_eq_or, Option.or_eq_some_iff] at h
  obtain h | ⟨-, h | ⟨-, h | ⟨-, h | ⟨-, h | ⟨-, h | ⟨-, h⟩⟩⟩⟩⟩⟩ := h
  · exact .inl (poll h)
  · exact .inr (queued h)
  · exact .inl (poll h)
  · exact .inr (queued h)
  · exact .inl (poll h)
  · exact .inr (queued h)
  · exact .inl (poll h)

/-! ### Sending (R142) -/

/-- What is sent for a queued transaction. -/
def TxnBody.sent : TxnBody → SentBody
  | .order oid p => .order oid p
  | .query => .query

theorem TxnBody.sent_kind (b : TxnBody) : b.sent.kind = b.kind := by cases b <;> rfl

/-- A segment that sends what is named: the transaction leaves the queue and is in flight. -/
def Segment.sentWith (r : Segment) (n : Named) (x : InFlight) (now : Nat) : Segment :=
  { r with
    queue := r.queue.filter fun t => !(t.seq = n.seq && t.target = n.target && t.body.kind = n.kind)
    candidate := none
    inFlight := some x
    line := .mark
    lineSince := now
    counters := r.counters.sent n.kind }

section
variable {s : State} {k : SegNo} {n : Named}

theorem State.sentBody_poll (h : n.kind = .poll) :
    s.sentBody k n = some (.poll (s.member n.target).correction (s.member n.target).correctionCount, s.tref.e) := by
  rw [State.sentBody, h]

theorem State.sentBody_queued {y : Txn} (hk : n.kind ≠ .poll) (hy : y ∈ (s.segment k).queue) (hn : n = nameTxn y) :
    ∃ z ∈ (s.segment k).queue, z.target = n.target ∧ z.seq = n.seq ∧ z.body.kind = n.kind
      ∧ s.sentBody k n = some (z.body.sent, z.enqueued) := by
  have hfind : ((s.segment k).queue.find? fun t => t.seq = n.seq && t.target = n.target && t.body.kind = n.kind).isSome := by
    rw [List.find?_isSome]
    exact ⟨y, hy, by simp [hn, nameTxn]⟩
  obtain ⟨z, hz⟩ := Option.isSome_iff_exists.mp hfind
  have hp := List.find?_some hz
  simp only [Bool.and_eq_true, decide_eq_true_eq] at hp
  obtain ⟨⟨hseq, htarget⟩, hkind⟩ := hp
  refine ⟨z, List.mem_of_find?_eq_some hz, htarget, hseq, hkind, ?_⟩
  unfold State.sentBody
  rw [hz]
  split
  next h => exact absurd h hk
  next => cases hb : z.body <;> simp [hb, TxnBody.sent]

theorem State.send_eq {b : SentBody} {enq : Nat} {pl : Place} (hb : s.sentBody k n = some (b, enq))
    (hp : s.place n.target = some pl) :
    s.send k n = s.setSegment k
      ((s.segment k).sentWith n ⟨b, n.target, pl.drop, s.tref.e, enq, n.seq, .request⟩ s.crystal) := by
  rw [State.send, hb, hp]
  rfl

/-- What is sent, and where to: the drop of the target on the segment. -/
theorem State.sends (hn : s.arbiter k = some n) (hq : ∀ x ∈ (s.segment k).queue, s.On x.target k) :
    ∃ b enq d, s.sentBody k n = some (b, enq) ∧ s.place n.target = some ⟨k, d⟩ ∧ b.kind = n.kind
      ∧ (n.kind = .poll → b = .poll (s.member n.target).correction (s.member n.target).correctionCount)
      ∧ (n.kind ≠ .poll → ∃ y ∈ (s.segment k).queue, y.target = n.target ∧ y.seq = n.seq ∧ y.body.kind = n.kind
          ∧ b = y.body.sent ∧ enq = y.enqueued) := by
  obtain ⟨x, hx, rfl⟩ | ⟨y, hy, hny⟩ := State.arbiter_names hn
  · obtain ⟨d, hd⟩ := State.place_of_owed hx
    exact ⟨_, _, d, State.sentBody_poll rfl, hd, rfl, fun _ => rfl, fun h => absurd rfl h⟩
  · have hk : n.kind ≠ .poll := by
      rw [hny, nameTxn]
      cases y.body <;> simp [TxnBody.kind]
    obtain ⟨d, hd⟩ := hq y hy
    obtain ⟨z, hz, ht, hs, hkz, hb⟩ := State.sentBody_queued hk hy hny
    exact ⟨_, _, d, hb, by rw [hny]; exact hd, (TxnBody.sent_kind _).trans hkz, fun h => absurd h hk,
      fun _ => ⟨z, hz, ht, hs, hkz, rfl, rfl⟩⟩

/-! ### The end of the turnaround (R141, R146) -/

/-- Whether what is sent displaces a candidate that still stands (R146). -/
def State.displaces (s : State) (k : SegNo) (c : Candidate) (n : Named) : Bool :=
  s.candidateStands k c && !(n.kind = c.kind && n.target = c.target && n.seq = c.seq)

theorem State.displaces_iff {c : Candidate} :
    s.displaces k c n = true
      ↔ s.candidateStands k c = true ∧ ¬ (n.kind = c.kind ∧ n.target = c.target ∧ n.seq = c.seq) := by
  simp only [State.displaces, Bool.and_eq_true, Bool.not_eq_true', ← Bool.not_eq_true, decide_eq_true_eq, and_assoc]

/-- The segment at the end of its turnaround, before it sends. -/
def Segment.turned (r : Segment) (displaced : Bool) : Segment :=
  { r with
    candidate := none
    counters := { r.counters with
      displaced := if displaced then count16 r.counters.displaced else r.counters.displaced } }

theorem State.setSegment_setSegment (s : State) (k : SegNo) (a b : Segment) :
    (s.setSegment k a).setSegment k b = s.setSegment k b := by
  simp only [State.setSegment, vset_vset]

theorem State.recheck_none {c : Candidate} (h : s.arbiter k = none) :
    s.recheck k c = s.setSegment k { s.segment k with candidate := none } := by
  rw [State.recheck, h]
  rfl

theorem State.recheck_some {c : Candidate} (h : s.arbiter k = some n) :
    s.recheck k c = (s.setSegment k ((s.segment k).turned (s.displaces k c n))).send k n := by
  rw [State.recheck, h]
  show State.send _ k n = _
  congr 1
  unfold State.modSegment
  rw [State.segment_setSegment_self, State.setSegment_setSegment]
  congr 1
  show (if s.displaces k c n = true then _ else _) = _
  unfold Segment.turned
  split <;> simp [*]

/-- A segment that is not free, or has nothing to send, starts nothing. -/
theorem State.Quiet.setSegment (h : s.Quiet) {r : Segment}
    (hr : r.isFree = true → r.queue = (s.segment k).queue ∧ s.arbiter k = none) : (s.setSegment k r).Quiet := by
  intro l hl
  have howed : (s.setSegment k r).owedPolls l = s.owedPolls l := State.owedPolls_congr rfl rfl l
  rw [State.arbiter_none, howed]
  by_cases hk : l = k
  · subst hk
    rw [State.segment_setSegment_self] at hl ⊢
    obtain ⟨hqueue, harb⟩ := hr hl
    rw [hqueue]
    exact (s.arbiter_none l).mp harb
  · rw [State.segment_setSegment_ne s k l r hk] at hl ⊢
    exact (s.arbiter_none l).mp (h l hl)

theorem State.NoneIdle.settle_setSegment (h : s.NoneIdle) {r : Segment}
    (hr : r.isFree = true → r.queue = (s.segment k).queue ∧ s.arbiter k = none) :
    (s.setSegment k r).settle = s.setSegment k r := by
  rw [State.settle_quiet (h.quiet.setSegment hr), h.pump_congr (by rfl)]

theorem exec_turnaroundEnd {c : Candidate} (hactive : (s.segment k).state = .active) (hin : (s.segment k).inFlight = none)
    (hc : (s.segment k).candidate = some c) (hends : c.endsAt ≤ s.crystal) :
    exec (.turnaroundEnd k) s = .next (s.recheck k c).settle := by
  show execTurnaroundEnd k s = _
  rw [execTurnaroundEnd, hc]
  simp [State.turnaroundDue, hactive, hin, hc, hends]

end

end Sys2Proof.Machine
end

section

open Sys2Proof Sys2Proof.Machine

/-- Settles O42: what the arbiter names stands queued or owed and is mapped to the segment, so that it is sent; the segment is then no
longer free, and the others have nothing new. -/
theorem recheckSendsWhatTheArbiterNames : Obligations.RecheckSendsWhatTheArbiterNames := by
  unfold Obligations.RecheckSendsWhatTheArbiterNames
  intro s k c hidle hactive hin hc hends hq
  rw [exec_turnaroundEnd hactive hin hc hends]
  refine ⟨fun hnone => ?_, fun n hn => ?_⟩
  · rw [State.recheck_none hnone]
    exact congrArg _ (hidle.settle_setSegment fun _ => ⟨by rfl, hnone⟩)
  · obtain ⟨b, enq, d, hb, hp, hkind, hpoll, hqueued⟩ := State.sends hn hq
    have hb' : (s.setSegment k ((s.segment k).turned (s.displaces k c n))).sentBody k n = some (b, enq) := by
      rw [← hb]
      simp only [State.sentBody, State.segment_setSegment_self]
      rfl
    rw [State.recheck_some hn, State.send_eq hb' hp, State.setSegment_setSegment, State.segment_setSegment_self,
      hidle.settle_setSegment fun hfree => by simp [Segment.sentWith, Segment.isFree] at hfree]
    refine ⟨_, ⟨b, n.target, d, s.tref.e, enq, n.seq, .request⟩, rfl, ?_⟩
    rw [State.segment_setSegment_self]
    refine ⟨rfl, rfl, hkind, rfl, hp, rfl, rfl, hpoll, fun hk => ?_, rfl, hactive, rfl, ?_, ?_, ?_, ?_⟩
    · obtain ⟨y, hy, ht, hs, hky, hby, henq⟩ := hqueued hk
      refine ⟨y, hy, ht, hs, hky, hby.trans ?_, henq, hs.symm⟩
      cases y.body <;> rfl
    · have hsent (counters : SegCounters) (kind : TxnKind) : (counters.sent kind).displaced = counters.displaced := by
        cases kind <;> rfl
      simp only [Segment.sentWith, hsent, Segment.turned, State.displaces_iff, count16]
    · intro hk
      simp only [Segment.sentWith, hk]
      rfl
    · intro hk
      simp only [Segment.sentWith, hk]
      rfl
    · intro hk
      simp only [Segment.sentWith, hk]
      rfl

end

section
/-! SUPPORT. The raise of a fault (R160 to R162): what it makes of its member, of the group that it suspends or that the tests of R70 move,
and of the ports. -/

namespace Sys2Proof.Machine

/-! ### The tests of R70 -/

section
variable {s : State} {g : GroupNo}

/-- A group that becomes STEADY at the tests, its notice offered (R70, R91). -/
def State.steadied (s : State) (g : GroupNo) : State :=
  (s.setGroup g { s.group g with state := .steady, ts := none }).told [s.steadyNotice s g]

theorem State.testSteady_eq (h : (s.group g).state = .transition) (hw : s.anyWorking g = false) : s.testSteady g = s.steadied g := by
  rw [State.testSteady, if_pos ⟨h, hw⟩, State.offerSteady_eq, State.steadied]
  simp only [State.steadyNotice, State.group_setGroup_self]
  rfl

theorem State.anyWorking_setGroup (r : Group) : (s.setGroup g r).anyWorking g = s.anyWorking g := rfl

/-- What the tests of a group come to (R70). -/
theorem State.groupTests_cases (s : State) (g : GroupNo) :
    ((s.group g).state = .transition ∧ s.anyWorking g = false ∧ s.groupTests g = s.steadied g)
      ∨ ((s.group g).state = .steady ∧ s.anyWorking g = true
          ∧ s.groupTests g = s.setGroup g { s.group g with state := .transition, ts := some s.tref.e })
      ∨ (¬ ((s.group g).state = .transition ∧ s.anyWorking g = false)
          ∧ ¬ ((s.group g).state = .steady ∧ s.anyWorking g = true) ∧ s.groupTests g = s) := by
  unfold State.groupTests
  by_cases h1 : (s.group g).state = .steady ∧ s.anyWorking g = true
  · refine .inr (.inl ⟨h1.1, h1.2, ?_⟩)
    rw [State.testWorking, if_pos h1, State.testSteady, if_neg]
    rw [State.anyWorking_setGroup, h1.2]
    simp
  · rw [State.testWorking, if_neg h1]
    by_cases h2 : (s.group g).state = .transition ∧ s.anyWorking g = false
    · exact .inl ⟨h2.1, h2.2, State.testSteady_eq h2.1 h2.2⟩
    · exact .inr (.inr ⟨h2, h1, if_neg h2⟩)

/-- The notices of a member's group between two states: GROUP_STEADY when it has become STEADY (R91). -/
def State.steadyNotices (s t : State) (i : Ix) : List Notice :=
  (s.groupOf i).toList.filterMap fun g =>
    if (s.group g).state = .transition ∧ (t.group g).state = .steady then some (s.steadyNotice t g) else none

theorem State.steadyNotice_congr {u : State} {t v : State} (htref : u.tref = s.tref) (hst : u.stored = s.stored)
    (hg : u.group g = s.group g) (hm : ∀ i, (v.member i).state = (t.member i).state) : u.steadyNotice v g = s.steadyNotice t g := by
  simp only [State.steadyNotice, State.groupOf, htref, hst, hg, hm]
  rfl

theorem State.testsOf_ports (s : State) (i : Ix) : (s.testsOf i).ports = (s.told (s.steadyNotices (s.testsOf i) i)).ports := by
  cases hi : s.groupOf i with
  | none => simp [State.testsOf, State.steadyNotices, hi]
  | some g =>
    simp only [State.testsOf, State.steadyNotices, hi, Option.toList_some, List.filterMap_cons, List.filterMap_nil]
    obtain ⟨ht, -, heq⟩ | ⟨hst, -, heq⟩ | ⟨-, -, heq⟩ := s.groupTests_cases g
    · have hg : ((s.steadied g).group g).state = .steady := by
        rw [State.steadied, State.group, State.told_groups, ← State.group, State.group_setGroup_self]
      have hm (j : Ix) : (s.steadied g).member j = s.member j := by
        rw [State.steadied, State.member, State.told_members]
        rfl
      rw [heq, if_pos ⟨ht, hg⟩, State.steadyNotice_congr rfl rfl rfl fun j => congrArg Member.state (hm j), State.steadied,
        State.told_ports_setGroup]
    · rw [heq, if_neg (by simp [hst]), State.told_nil]
      rfl
    · rw [heq, if_neg (by rintro ⟨h1, h2⟩; rw [h1] at h2; cases h2), State.told_nil]

theorem State.testsOf_polls (s : State) (i : Ix) : (s.testsOf i).polls = s.polls := by
  unfold State.testsOf
  cases s.groupOf i with
  | none => rfl
  | some g =>
    show (s.groupTests g).polls = s.polls
    obtain ⟨-, -, h⟩ | ⟨-, -, h⟩ | ⟨-, -, h⟩ := s.groupTests_cases g
    · rw [h]
      exact State.told_polls _ _
    · rw [h]
      rfl
    · rw [h]

end

/-! ### Releases (R73) -/

/-- A released member with the order that it is given: the conditions that stood for its order and, when it is EXCLUDED, for its
transition end. -/
def Member.released (m : Member) (o : Option StandingOrder) : Member :=
  { (if m.state = .excluded then m.clearTransitionConds else m).clearCond .orderMissed with order := o }

theorem Member.released_state (m : Member) (o : Option StandingOrder) : (m.released o).state = m.state := by
  unfold Member.released
  split <;> rfl

theorem State.release_member_eq {s : State} {i : Ix} (tm : Nat) (h : (s.member i).state ≠ .offline) :
    (s.release i tm).member i = (s.member i).released (s.releaseOrder i tm) := by
  unfold State.release State.releaseOrder Member.released
  by_cases hp : (s.place i).isNone = true
  · rw [if_pos (.inl hp), if_pos hp, State.clearOrder, State.member_modMember_self]
    split <;> simp
  · rw [if_neg (not_or.mpr ⟨hp, h⟩), if_neg hp, State.placeOrder_member]
    split <;> simp

theorem State.placeOrder_ports (s : State) (i : Ix) (kind : OrderKind) (p : OrderPayload) : (s.placeOrder i kind p).ports = s.ports := by
  unfold State.placeOrder
  split <;> rfl

theorem State.release_ports (s : State) (i : Ix) (tm : Nat) : (s.release i tm).ports = s.ports := by
  unfold State.release
  extract_lets s1
  have h1 : s1.ports = s.ports := by
    unfold s1
    split <;> rfl
  split
  · exact h1
  · rw [State.placeOrder_ports, h1]

theorem State.releaseTo_ports (s : State) (i : Ix) (tm : Nat) (st : MemberState) : ((s.release i tm).enter i st).ports = s.ports :=
  s.release_ports i tm

/-! ### What ends conditions and counts nothing (R163) -/

/-- Conditions end between the two records: each class keeps its entry, or loses the condition alone. -/
def Member.Ends (m n : Member) : Prop := ∀ c, n.faults.get c = m.faults.get c ∨ n.faults.get c = (m.faults.get c).ended

namespace Member.Ends
variable {m n o : Member}

theorem of_faults (h : n.faults = m.faults) : Ends m n := fun c => .inl (congrArg (·.get c) h)

theorem trans (h1 : Ends m n) (h2 : Ends n o) : Ends m o := fun c => by
  rcases h1 c with h | h <;> rcases h2 c with h' | h' <;> rw [h', h]
  · exact .inl rfl
  · exact .inr rfl
  · exact .inr rfl
  · exact .inr rfl

theorem latched (h : Ends m n) (c : FaultClass) : (n.faults.get c).latched = (m.faults.get c).latched := by
  rcases h c with h | h <;> rw [h]
  rfl

theorem count (h : Ends m n) (c : FaultClass) : (n.faults.get c).count = (m.faults.get c).count := by
  rcases h c with h | h <;> rw [h]
  rfl

theorem standing (h : Ends m n) {c : FaultClass} (hc : (m.faults.get c).standing = false) : (n.faults.get c).standing = false := by
  rcases h c with h | h <;> rw [h]
  · exact hc
  · rfl

end Member.Ends

theorem Member.clearCond_ends (m : Member) (c : FaultClass) : Ends m (m.clearCond c) := fun d => by
  by_cases h : d = c
  · exact .inr (by rw [h]; exact PerClass.get_set_self _ _ _)
  · exact .inl (PerClass.get_set_ne _ _ _ _ h)

theorem Member.clearTransitionConds_ends (m : Member) : Ends m m.clearTransitionConds :=
  (m.clearCond_ends .transitionLate).trans (Member.clearCond_ends _ .transitionBlocked)

theorem Member.enter_ends (m : Member) (st : MemberState) : Ends m (m.enter st) := by
  unfold Member.enter
  extract_lets m1 m2
  have h2 : Ends m m2 := by
    refine Ends.trans (n := m1) ?_ (.of_faults rfl)
    unfold m1
    split <;> exact .of_faults rfl
  split
  · exact h2.trans (Member.clearTransitionConds_ends _)
  · exact h2.trans (Member.clearTransitionConds_ends _)
  · exact h2.trans (Member.clearTransitionConds_ends _)
  · exact h2.trans (Member.clearTransitionConds_ends _)
  · exact h2

theorem Member.released_ends (m : Member) (o : Option StandingOrder) : Ends m (m.released o) := by
  unfold Member.released
  split
  · exact (m.clearTransitionConds_ends.trans (Member.clearCond_ends _ .orderMissed)).trans (.of_faults rfl)
  · exact (m.clearCond_ends .orderMissed).trans (.of_faults rfl)

theorem Member.released_orderMissed (m : Member) (o : Option StandingOrder) :
    ((m.released o).faults.get .orderMissed).standing = false := by
  unfold Member.released
  split <;> rfl

/-! ### Suspension (R88) -/

theorem MemberState.taken_iff (st : MemberState) :
    st.taken = true ↔ st = .free ∨ st = .ordered ∨ st = .correcting ∨ st = .inStep := by cases st <;> simp [taken]

/-- A member whom a latch takes out of service: one in service, or EXCLUDED (R161). -/
def MemberState.serving (st : MemberState) : Bool := st.taken || decide (st = .excluded)

theorem MemberState.not_serving_iff (st : MemberState) :
    st.serving = false ↔ st = .unknown ∨ st = .latched ∨ st = .offline := by cases st <;> simp [serving, taken]

theorem MemberState.serving_iff (st : MemberState) :
    st.serving = true ↔ (st = .free ∨ st = .ordered ∨ st = .correcting ∨ st = .inStep) ∨ st = .excluded := by
  rw [← taken_iff]
  simp [serving]

theorem State.suspendMember_ports (s : State) (i : Ix) : (s.suspendMember i).ports = s.ports := by
  unfold State.suspendMember
  split
  · exact s.releaseTo_ports _ _ _
  · exact s.releaseTo_ports _ _ _
  · exact s.releaseTo_ports _ _ _
  · exact s.releaseTo_ports _ _ _
  · extract_lets s1
    split
    · exact s.release_ports _ _
    · exact s.releaseTo_ports _ _ _
  · rfl

theorem State.suspendMember_taken {s : State} {i : Ix} (h : (s.member i).state.taken = true) :
    s.suspendMember i = (s.release i s.tref.e).enter i .free := by
  rcases (MemberState.taken_iff _).mp h with h | h | h | h <;> simp only [State.suspendMember, h]

theorem State.suspendMember_out {s : State} {i : Ix} (h : (s.member i).state.serving = false) : s.suspendMember i = s := by
  rcases (MemberState.not_serving_iff _).mp h with h | h | h <;> simp only [State.suspendMember, h]

section
variable (l : List Ix)

theorem State.suspendMembers_ports (s : State) : (l.foldl State.suspendMember s).ports = s.ports := by
  induction l generalizing s with
  | nil => rfl
  | cons j l ih => rw [List.foldl_cons, ih, State.suspendMember_ports]

/-- A suspension leaves a member that is out of service as it is. -/
theorem State.suspendMembers_out {s : State} {i : Ix} (h : (s.member i).state.serving = false) :
    (l.foldl State.suspendMember s).member i = s.member i := by
  induction l generalizing s with
  | nil => rfl
  | cons j l ih =>
    have hj : (s.suspendMember j).member i = s.member i := by
      by_cases hij : i = j
      · rw [← hij, State.suspendMember_out h]
      · exact (s.suspendMember_upon j).members i hij
    rw [List.foldl_cons, ih (by rwa [hj]), hj]

/-- A suspension frees the members in service. -/
theorem State.suspendMembers_taken {s : State} {i : Ix} (h : (s.member i).state.taken = true) (hi : i ∈ l) :
    ((l.foldl State.suspendMember s).member i).state = .free := by
  induction l generalizing s with
  | nil => cases hi
  | cons j l ih =>
    rw [List.foldl_cons]
    by_cases hij : i = j
    · subst hij
      have hfree : ((s.suspendMember i).member i).state = .free := by
        rw [State.suspendMember_taken h, State.enter_member, Member.enter_state]
      by_cases hil : i ∈ l
      · exact ih (by rw [hfree]; rfl) hil
      · have hrest : Upon (· ∈ l) (s.suspendMember i) (l.foldl State.suspendMember (s.suspendMember i)) :=
          .foldl (fun u k hk => (u.suspendMember_upon k).mono fun _ hx => hx ▸ hk) _
        rw [hrest.members i hil, hfree]
    · have hj : (s.suspendMember j).member i = s.member i := (s.suspendMember_upon j).members i hij
      exact ih (by rwa [hj]) ((List.mem_cons.mp hi).resolve_left hij)

end

/-- The record of a suspended group (R88). -/
def State.suspendedGroup (s : State) (g : GroupNo) (c : FaultClass) (i : Ix) : Group :=
  { s.group g with state := .suspended, suspension := some ⟨c, i, s.tref.e⟩, ts := none, current := 0, target := 0 }

/-- What a suspension does: the group record, then its members one by one. -/
theorem State.suspend_eq (s : State) (g : GroupNo) (c : FaultClass) (i : Ix) :
    s.suspend g c i = (s.membersOf g).foldl State.suspendMember (s.setGroup g (s.suspendedGroup g c i)) := rfl

theorem State.suspend_upon (s : State) (g : GroupNo) (c : FaultClass) (i : Ix) :
    Upon (fun j => s.groupOf j = some g) (s.setGroup g (s.suspendedGroup g c i)) (s.suspend g c i) := by
  rw [State.suspend_eq]
  exact .foldl (fun t j hj => (t.suspendMember_upon j).mono fun _ hk => hk ▸ State.mem_membersOf.mp hj) _

theorem State.suspend_group (s : State) (g : GroupNo) (c : FaultClass) (i : Ix) :
    (s.suspend g c i).group g = s.suspendedGroup g c i := by
  rw [(s.suspend_upon g c i).group, State.group_setGroup_self]

theorem State.suspend_ports (s : State) (g : GroupNo) (c : FaultClass) (i : Ix) : (s.suspend g c i).ports = s.ports :=
  State.suspendMembers_ports _ _

/-! ### Latching and excluding (R161, R162) -/

/-- A member whose latched flag of a class is set. -/
def Member.flagged (m : Member) (c : FaultClass) : Member :=
  { m with faults := m.faults.set c { m.faults.get c with latched := true } }

/-- A latched member with the order of its release (R161). -/
def Member.latchedBy (m : Member) (c : FaultClass) (o : Option StandingOrder) : Member :=
  if m.state.serving then ((m.flagged c).released o).enter .latched else m.flagged c

/-- A member that RECOVERING excludes (R162). -/
def Member.excludedBy (m : Member) : Member := if m.state.taken then m.enter .excluded else m

theorem Member.enter_excluded_faults (m : Member) : (m.enter .excluded).faults = m.faults := by
  show (if m.state.inTransition && !MemberState.excluded.inTransition then m.clearTransition else m).faults = m.faults
  split <;> rfl

section
variable (s : State) (i : Ix) (c : FaultClass)

theorem State.exclude_eq : s.exclude i = if (s.member i).state.taken then s.enter i .excluded else s := by
  unfold State.exclude
  cases (s.member i).state <;> rfl

theorem State.exclude_member : (s.exclude i).member i = (s.member i).excludedBy := by
  rw [State.exclude_eq, Member.excludedBy]
  split
  · exact s.enter_member i _
  · rfl

theorem State.exclude_ports : (s.exclude i).ports = s.ports := by
  rw [State.exclude_eq]
  split <;> rfl

theorem State.latch_eq :
    s.latch i c = if (s.member i).state.serving
      then ((s.modMember i (·.flagged c)).release i s.tref.e).enter i .latched else s.modMember i (·.flagged c) := by
  unfold State.latch
  cases (s.member i).state <;> rfl

theorem State.latch_member : (s.latch i c).member i = (s.member i).latchedBy c (s.releaseOrder i s.tref.e) := by
  rw [State.latch_eq, Member.latchedBy]
  split
  next h =>
    have hon : ((s.modMember i (·.flagged c)).member i).state ≠ .offline := by
      rw [State.member_modMember_self]
      intro hoff
      rw [show (s.member i).state = .offline from hoff] at h
      cases h
    rw [State.enter_member, State.release_member_eq _ hon, State.member_modMember_self]
    rfl
  · exact State.member_modMember_self _ _ _

theorem State.latch_ports : (s.latch i c).ports = s.ports := by
  rw [State.latch_eq]
  split
  · exact State.releaseTo_ports _ _ _ _
  · rfl

end

theorem Member.latchedBy_out (m : Member) (c : FaultClass) (o : Option StandingOrder) :
    (m.latchedBy c o).state.serving = false := by
  unfold Member.latchedBy
  split
  · rw [Member.enter_state]
    rfl
  next h => exact Bool.eq_false_iff.mpr h

theorem Member.latchedBy_ends (m : Member) (c : FaultClass) (o : Option StandingOrder) :
    Ends (m.flagged c) (m.latchedBy c o) := by
  unfold Member.latchedBy
  split
  · exact (Member.released_ends _ _).trans (Member.enter_ends _ _)
  · exact .of_faults rfl

theorem Member.latchedBy_latched (m : Member) (c : FaultClass) (o : Option StandingOrder) :
    ((m.latchedBy c o).faults.get c).latched = true := by
  rw [(m.latchedBy_ends c o).latched, Member.flagged, PerClass.get_set_self]

theorem Member.latchedBy_count (m : Member) (c : FaultClass) (o : Option StandingOrder) :
    ((m.latchedBy c o).faults.get c).count = (m.faults.get c).count := by
  rw [(m.latchedBy_ends c o).count, Member.flagged, PerClass.get_set_self]

theorem Member.latchedBy_serving {m : Member} (c : FaultClass) (o : Option StandingOrder) (h : m.state.serving = true) :
    m.latchedBy c o = ((m.flagged c).released o).enter .latched := if_pos h

theorem Member.latchedBy_state_out {m : Member} (c : FaultClass) (o : Option StandingOrder) (h : m.state.serving = false) :
    (m.latchedBy c o).state = m.state := by
  unfold Member.latchedBy
  rw [if_neg (by rw [h]; exact Bool.false_ne_true)]
  rfl

/-! ### The raise (R160) -/

/-- A member for whom a class has been raised, with the order of its release (R160 to R162). -/
def Member.raised (m : Member) (c : FaultClass) (p : Policy) (cause : Option MissCause) (reason : Option Nat)
    (o : Option StandingOrder) : Member :=
  match p with
  | .latched => (m.recordRaise c p cause reason).latchedBy c o
  | .recovering => (m.recordRaise c p cause reason).excludedBy
  | .reportOnly => m.recordRaise c p cause reason
  | .off => m.recordRaise c p cause reason

section
variable (s : State) (i : Ix) (c : FaultClass) (cause : Option MissCause) (reason : Option Nat)

/-- The group that a raise suspends (R161). -/
def State.suspendedBy : Option GroupNo :=
  (s.groupOf i).filter fun g => decide (s.stored.policies.get c = ⟨.latched, .group⟩) && decide ((s.group g).state ≠ .suspended)

/-- The FAULT notice of a raise (R160). -/
def State.faultNotice : Notice :=
  ⟨s.tref.e, .fault i (s.groupOf i) c (s.stored.policies.get c).policy (s.stored.policies.get c).scope
    (count8 ((s.member i).faults.get c).count) (if c = .orderMissed then cause else none)
    (if c = .orderMissed then reason else none) (s.suspendedBy i c).isSome⟩

/-- The notices of a raise before its consequences: none under OFF (R160). -/
def State.faultNotices : List Notice :=
  if (s.stored.policies.get c).policy = .off then [] else [s.faultNotice i c cause reason]

/-- A raise before its consequences: the record and the notice (R160). -/
def State.reported : State :=
  (s.modMember i (·.recordRaise c (s.stored.policies.get c).policy cause reason)).told (s.faultNotices i c cause reason)

theorem State.wouldSuspend_eq : s.wouldSuspend i (s.stored.policies.get c) = (s.suspendedBy i c).isSome := by
  unfold State.wouldSuspend State.suspendedBy
  obtain ⟨policy, scope⟩ := s.stored.policies.get c
  cases s.groupOf i with
  | none => simp
  | some g => cases policy <;> cases scope <;> simp [Option.filter, apply_ite Option.isSome]

/-- A raise: the record and the notice, then what the policy asks for. -/
theorem State.raise_eq :
    s.raise i c cause reason = match (s.stored.policies.get c).policy with
      | .latched => match s.suspendedBy i c with
        | some g => ((s.reported i c cause reason).latch i c).suspend g c i
        | none => ((s.reported i c cause reason).latch i c).testsOf i
      | .recovering => ((s.reported i c cause reason).exclude i).testsOf i
      | .reportOnly => s.reported i c cause reason
      | .off => s.reported i c cause reason := by
  unfold State.raise
  extract_lets pair s1 s2 s3
  have h2 : s2 = s.reported i c cause reason := by
    unfold s2 State.reported State.faultNotices
    split
    · rw [State.told_nil]
    · rw [State.offer_eq_told]
      congr 1
      unfold State.faultNotice
      rw [← State.wouldSuspend_eq]
      congr 3
      rw [State.member_modMember_self]
      simp only [Member.recordRaise, PerClass.get_set_self]
  rw [State.wouldSuspend_eq, h2.symm]
  cases hs : s.suspendedBy i c with
  | none => rfl
  | some g =>
    have hg : s.groupOf i = some g := (Option.filter_eq_some_iff.mp hs).1
    rw [hg]
    rfl

theorem State.reported_member :
    (s.reported i c cause reason).member i
      = (s.member i).recordRaise c (s.stored.policies.get c).policy cause reason := by
  rw [State.reported, State.member, State.told_members, ← State.member, State.member_modMember_self]

theorem State.faultNotices_kind : ∀ a ∈ s.faultNotices i c cause reason, a.body.kind = 6 := by
  unfold State.faultNotices
  split
  · simp
  · simp [State.faultNotice, NoticeBody.kind]

theorem State.reported_upon : Upon (· = i) s (s.reported i c cause reason) := by
  have h : Upon (· = i) (s.modMember i (·.recordRaise c (s.stored.policies.get c).policy cause reason))
      (s.reported i c cause reason) :=
    ⟨⟨State.told_phase _ _, State.told_tref _ _, State.told_stored _ _, State.told_polls _ _, _,
      s.faultNotices_kind i c cause reason, rfl⟩, State.told_groups _ _, fun j _ => by
        rw [State.reported, State.member, State.told_members]
        rfl⟩
  exact .trans (.modMember _ _ _) h

theorem State.reported_releaseOrder (tm : Nat) : (s.reported i c cause reason).releaseOrder i tm = s.releaseOrder i tm := by
  unfold State.reported
  rw [State.told_eq]
  rfl

theorem State.latched_upon : Upon (· = i) s ((s.reported i c cause reason).latch i c) :=
  (s.reported_upon i c cause reason).trans (State.latch_upon _ _ _)

theorem State.excluded_upon : Upon (· = i) s ((s.reported i c cause reason).exclude i) :=
  (s.reported_upon i c cause reason).trans (State.exclude_upon _ _)

theorem State.latched_member : ((s.reported i c cause reason).latch i c).member i
    = ((s.member i).recordRaise c (s.stored.policies.get c).policy cause reason).latchedBy c (s.releaseOrder i s.tref.e) := by
  rw [State.latch_member, State.reported_member, State.reported_releaseOrder, (s.reported_upon i c cause reason).tref]

/-- What a raise makes of its member. -/
theorem State.raise_member :
    (s.raise i c cause reason).member i
      = (s.member i).raised c (s.stored.policies.get c).policy cause reason (s.releaseOrder i s.tref.e) := by
  rw [State.raise_eq]
  unfold Member.raised
  cases hp : (s.stored.policies.get c).policy with
  | off => rw [State.reported_member, hp]
  | reportOnly => rw [State.reported_member, hp]
  | recovering => rw [State.testsOf_member, State.exclude_member, State.reported_member, hp]
  | latched =>
    have hm := s.latched_member i c cause reason
    rw [hp] at hm
    cases s.suspendedBy i c with
    | none => rw [State.testsOf_member, hm]
    | some g =>
      simp only
      rw [State.suspend_eq, State.suspendMembers_out, ← hm]
      · rfl
      · show (((s.reported i c cause reason).latch i c).member i).state.serving = false
        rw [hm, Member.latchedBy_out]

theorem State.raise_member_recovering (h : (s.stored.policies.get c).policy = .recovering) :
    (s.raise i c cause reason).member i
      = ((s.member i).recordRaise c (s.stored.policies.get c).policy cause reason).excludedBy := by
  rw [State.raise_member, h]
  rfl

theorem State.raise_member_latched (h : (s.stored.policies.get c).policy = .latched) :
    (s.raise i c cause reason).member i
      = ((s.member i).recordRaise c (s.stored.policies.get c).policy cause reason).latchedBy c (s.releaseOrder i s.tref.e) := by
  rw [State.raise_member, h]
  rfl

theorem State.suspendedBy_isSome : (s.suspendedBy i c).isSome
    = (decide (s.stored.policies.get c = ⟨.latched, .group⟩) && (s.groupOf i).any fun g => decide ((s.group g).state ≠ .suspended)) := by
  unfold State.suspendedBy
  cases s.groupOf i with
  | none => simp
  | some g => simp [Option.filter, apply_ite Option.isSome]

theorem State.suspendedBy_iff (g : GroupNo) :
    s.suspendedBy i c = some g
      ↔ s.stored.policies.get c = ⟨.latched, .group⟩ ∧ s.groupOf i = some g ∧ (s.group g).state ≠ .suspended := by
  unfold State.suspendedBy
  rw [Option.filter_eq_some_iff]
  simp only [Bool.and_eq_true, decide_eq_true_eq]
  tauto

/-- A raise that suspends no group moves its member, and the tests of R70 its group. -/
theorem State.raise_unsuspending (h : s.suspendedBy i c = none) :
    ∃ u, Upon (· = i) s u ∧ u.ports = (s.reported i c cause reason).ports
      ∧ (s.raise i c cause reason = u.testsOf i
          ∨ (s.raise i c cause reason = u
              ∧ ((s.stored.policies.get c).policy = .off ∨ (s.stored.policies.get c).policy = .reportOnly))) := by
  rw [State.raise_eq, h]
  cases (s.stored.policies.get c).policy with
  | off => exact ⟨_, s.reported_upon i c cause reason, rfl, .inr ⟨rfl, .inl rfl⟩⟩
  | reportOnly => exact ⟨_, s.reported_upon i c cause reason, rfl, .inr ⟨rfl, .inr rfl⟩⟩
  | recovering => exact ⟨_, s.excluded_upon i c cause reason, State.exclude_ports _ _, .inl rfl⟩
  | latched => exact ⟨_, s.latched_upon i c cause reason, State.latch_ports _ _ _, .inl rfl⟩

/-- A raise that suspends a group (R88, R161). -/
theorem State.raise_suspending {g : GroupNo} (h : s.suspendedBy i c = some g) :
    s.raise i c cause reason = ((s.reported i c cause reason).latch i c).suspend g c i := by
  rw [State.raise_eq, ((s.suspendedBy_iff i c g).mp h).1, h]

/-- The members outside a suspended group are left alone. -/
theorem State.raise_others {j : Ix} (hj : j ≠ i) (h : ∀ g, s.suspendedBy i c = some g → s.groupOf j ≠ some g) :
    (s.raise i c cause reason).member j = s.member j := by
  cases hs : s.suspendedBy i c with
  | none =>
    obtain ⟨u, hu, -, hr | ⟨hr, -⟩⟩ := s.raise_unsuspending i c cause reason hs
    · rw [hr, State.testsOf_member, hu.members j hj]
    · rw [hr, hu.members j hj]
  | some g =>
    have hl := s.latched_upon i c cause reason
    rw [s.raise_suspending i c cause reason hs, (State.suspend_upon _ g c i).members j (by rw [hl.groupOf]; exact h g hs)]
    exact hl.members j hj

/-- What a raise offers: its FAULT notice, and GROUP_STEADY when the group has become STEADY (R91, R160). -/
theorem State.raise_ports :
    (s.raise i c cause reason).ports
      = (s.told (s.faultNotices i c cause reason ++ s.steadyNotices (s.raise i c cause reason) i)).ports := by
  have hreported : (s.reported i c cause reason).ports = (s.told (s.faultNotices i c cause reason)).ports := by
    unfold State.reported State.told
    split
    next h => rw [if_pos (show s.phase = .running from h)]; rfl
    next h => rw [if_neg (show ¬ s.phase = .running from h)]; rfl
  have hcalm {t : State} (ht : ∀ g, s.groupOf i = some g → (s.group g).state = .transition → (t.group g).state ≠ .steady) :
      s.steadyNotices t i = [] := by
    unfold State.steadyNotices
    cases hi : s.groupOf i with
    | none => rfl
    | some g =>
      rw [Option.toList_some, List.filterMap_cons, if_neg fun hg => ht g hi hg.1 hg.2]
      rfl
  cases hs : s.suspendedBy i c with
  | none =>
    obtain ⟨u, hu, hports, hr | ⟨hr, -⟩⟩ := s.raise_unsuspending i c cause reason hs
    · have hnotices : u.steadyNotices (u.testsOf i) i = s.steadyNotices (u.testsOf i) i := by
        simp only [State.steadyNotices, hu.groupOf, hu.group]
        congr 1
        funext g
        rw [State.steadyNotice_congr hu.tref hu.stored (hu.group g) fun _ => rfl]
      rw [hr, ← hnotices]
      exact State.told_ports_trans hu.phase (hports.trans hreported) (u.testsOf_ports i)
    · rw [hr, hcalm (fun g _ h1 h2 => by rw [hu.group, h1] at h2; cases h2), List.append_nil, hports, hreported]
  | some g =>
    have hi := ((s.suspendedBy_iff i c g).mp hs).2.1
    have hr := s.raise_suspending i c cause reason hs
    have hgroup : ((s.raise i c cause reason).group g).state = .suspended := by rw [hr, State.suspend_group]; rfl
    rw [hcalm (fun k hk _ h2 => by rw [hi] at hk; cases hk; rw [hgroup] at h2; cases h2), List.append_nil, hr, State.suspend_ports,
      State.latch_ports, hreported]

/-- The record of a raise before its consequences is all that OFF and REPORT_ONLY make of the state. -/
theorem State.raise_unpolicied (h : (s.stored.policies.get c).policy = .off ∨ (s.stored.policies.get c).policy = .reportOnly) :
    s.raise i c cause reason = s.reported i c cause reason := by
  rw [State.raise_eq]
  rcases h with h | h <;> rw [h]

theorem State.raise_off (h : (s.stored.policies.get c).policy = .off) :
    s.raise i c cause reason = s.modMember i (·.recordRaise c (s.stored.policies.get c).policy cause reason) := by
  rw [s.raise_unpolicied i c cause reason (.inl h), State.reported, State.faultNotices, if_pos h, State.told_nil]

theorem State.raise_polls : (s.raise i c cause reason).polls = s.polls := by
  cases hs : s.suspendedBy i c with
  | none =>
    obtain ⟨u, hu, -, hr | ⟨hr, -⟩⟩ := s.raise_unsuspending i c cause reason hs
    · rw [hr, State.testsOf_polls, hu.polls]
    · rw [hr, hu.polls]
  | some g =>
    rw [s.raise_suspending i c cause reason hs, (State.suspend_upon _ g c i).polls]
    exact (s.latched_upon i c cause reason).polls

theorem State.raise_sameBase : s.SameBase (s.raise i c cause reason) := by
  have h := s.raise_works i c cause reason
  exact ⟨h.pending_eq, h.crystal_eq, h.phase_eq, h.contact_eq, h.tref_eq, h.stored_eq, h.cfs_eq⟩

/-- The groups that a suspending raise leaves alone, and the members that it frees. -/
theorem State.raise_suspends {g : GroupNo} (h : s.suspendedBy i c = some g) :
    (s.raise i c cause reason).group g = s.suspendedGroup g c i
      ∧ (∀ k, k ≠ g → (s.raise i c cause reason).group k = s.group k)
      ∧ ∀ j, s.groupOf j = some g → j ≠ i → (s.member j).state.taken = true →
          ((s.raise i c cause reason).member j).state = .free := by
  have hl := s.latched_upon i c cause reason
  have hgroups (k : GroupNo) : ((s.reported i c cause reason).latch i c).group k = s.group k := hl.group k
  rw [s.raise_suspending i c cause reason h]
  refine ⟨?_, fun k hk => ?_, fun j hj hji ht => ?_⟩
  · rw [State.suspend_group, State.suspendedGroup, hgroups, hl.tref]
    rfl
  · rw [(State.suspend_upon _ g c i).group, State.group_setGroup_ne _ _ _ _ hk, hgroups]
  · rw [State.suspend_eq]
    refine State.suspendMembers_taken _ ?_ (State.mem_membersOf.mpr ((hl.groupOf j).trans hj))
    show (((s.reported i c cause reason).latch i c).member j).state.taken = true
    rw [hl.members j hji, ht]

end

end Sys2Proof.Machine
end

section

open Sys2Proof Sys2Proof.Machine

/-- Settles O49: the raise is taken apart into its record and notice (`State.reported`) and the consequences of each policy. -/
theorem raisesFollowTheirPolicy : Obligations.RaisesFollowTheirPolicy := by
  unfold Obligations.RaisesFollowTheirPolicy
  intro s i c cause reason t m old pair count recorded inService suspends
  have hports : t.ports = (s.told (s.faultNotices i c cause reason ++ s.steadyNotices t i)).ports := s.raise_ports i c cause reason
  have hsuspends (g : GroupNo) : suspends g ↔ s.suspendedBy i c = some g := (s.suspendedBy_iff i c g).symm
  have hothers (h : ∀ g, s.suspendedBy i c ≠ some g) (j : Ix) (hj : j ≠ i) : t.member j = s.member j :=
    s.raise_others i c cause reason hj fun g hg => absurd hg (h g)
  have hin : inService ↔ m.state.taken = true := (MemberState.taken_iff _).symm
  refine ⟨s.raise_sameBase i c cause reason, s.raise_polls i c cause reason, (s.raise_works i c cause reason).owed_eq,
    s.raise_off i c cause reason, fun hp => ?only, fun hp hrun => ?told, fun hp => ?untold, fun hp => ?recovering, fun hp => ?latched⟩
  case only =>
    have ht : t = s.reported i c cause reason := s.raise_unpolicied i c cause reason (.inr hp)
    rw [ht, State.reported, State.told_eq]
    rfl
  case told =>
    intro suspending fault counted ns
    have hfault : s.faultNotices i c cause reason = [fault] := by
      rw [State.faultNotices, if_neg hp, State.faultNotice, State.suspendedBy_isSome]
      rfl
    have hsteady (g : GroupNo) : s.steadyNotice t g = ⟨s.tref.e, .groupSteady g (s.group g).current
        (counted g fun st => decide (st = .inStep))
        (counted g fun st => decide (st ≠ .ordered ∧ st ≠ .correcting ∧ st ≠ .inStep))⟩ := by
      simp only [State.steadyNotice, MemberState.eligible_false_iff, Bool.decide_and, counted]
    have hns : s.faultNotices i c cause reason ++ s.steadyNotices t i = ns := by
      simp only [State.steadyNotices, hfault, hsteady]
      rfl
    rw [hports, hns, State.told_running hrun]
    rfl
  case untold =>
    by_cases hrun : s.phase = .running
    · have ht := s.raise_off i c cause reason (hp.resolve_right (not_not_intro hrun))
      exact (congrArg State.ports ht).trans rfl
    · rw [hports, State.told_not_running hrun]
  case recovering =>
    have hkept (g : GroupNo) : s.suspendedBy i c ≠ some g := fun hg => by
      have hpair := ((s.suspendedBy_iff i c g).mp hg).1
      rw [show s.stored.policies.get c = pair from rfl] at hpair
      rw [hpair] at hp
      cases hp
    have hexcluded : t.member i = recorded.excludedBy := s.raise_member_recovering i c cause reason hp
    rw [hexcluded]
    refine ⟨fun h => ?_, fun h => ?_, hothers hkept⟩
    · rw [Member.excludedBy, if_pos (hin.mp h), Member.enter_state, Member.enter_order, Member.enter_excluded_faults]
      exact ⟨rfl, rfl, rfl⟩
    · rw [Member.excludedBy, if_neg (mt hin.mpr h)]
  case latched =>
    have hlatched : t.member i = recorded.latchedBy c (s.releaseOrder i s.tref.e) := s.raise_member_latched i c cause reason hp
    have hserving : (inService ∨ m.state = .excluded) ↔ recorded.state.serving = true := (MemberState.serving_iff _).symm
    rw [hlatched]
    refine ⟨recorded.latchedBy_latched _ _, ?_, fun h => ?_, fun h => ?_, fun g hg => ?_, fun h => ?_⟩
    · rw [recorded.latchedBy_count]
      exact congrArg FaultEntry.count (PerClass.get_set_self _ _ _)
    · rw [Member.latchedBy_serving _ _ (hserving.mp h), Member.enter_state, Member.enter_order]
      exact ⟨rfl, Stored.released_of_order (s := s) (m := (recorded.flagged c).released _) rfl⟩
    · exact Member.latchedBy_state_out _ _ (Bool.eq_false_iff.mpr (mt hserving.mpr h))
    · obtain ⟨hgroup, hgroups, hfreed⟩ := s.raise_suspends i c cause reason ((hsuspends g).mp hg)
      refine ⟨hgroup, hgroups, fun j hj hji h => hfreed j hj hji ((MemberState.taken_iff _).mpr h), fun j hj hji => ?_⟩
      refine s.raise_others i c cause reason hji fun k hk => ?_
      rwa [← ((s.suspendedBy_iff i c k).mp hk).2.1, hg.2.1]
    · exact hothers fun g hg => h g ((hsuspends g).mpr hg)

end

section
/-! SUPPORT. The instant Tm (R80): when the delivery of an order is judged. -/

namespace Sys2Proof.Machine

section
variable {s t u : State} {i : Ix}

theorem exec_tmReached (i : Ix) (s : State) :
    exec (.tmReached i) s = .next (if s.tmDue i then (s.reachTm i).settle else s) := rfl

theorem State.tmDue_of {o : StandingOrder} (hst : (s.member i).state = .ordered) (ho : (s.member i).order = some o)
    (hk : o.kind = .order) (htm : o.payload.tm ≤ s.tref.e) (hj : o.judged = false) : s.tmDue i = true := by
  simp [State.tmDue, Member.standingOrder, hst, ho, hk, htm, hj]

theorem State.SameBase.trans (h1 : s.SameBase t) (h2 : t.SameBase u) : s.SameBase u := by
  obtain ⟨a1, b1, c1, d1, e1, f1, g1⟩ := h1
  obtain ⟨a2, b2, c2, d2, e2, f2, g2⟩ := h2
  exact ⟨a2.trans a1, b2.trans b1, c2.trans c1, d2.trans d1, e2.trans e1, f2.trans f1, g2.trans g1⟩

theorem State.sameBase_settle (s : State) : s.SameBase s.settle :=
  ⟨s.settle_pending, s.settle_crystal, s.settle_phase, s.settle_contactClosed, s.settle_tref, s.settle_stored, s.settle_cfs⟩

theorem State.settle_member (s : State) (i : Ix) : s.settle.member i = s.member i := by
  rw [State.member, s.settle_members]
  rfl

/-- The state with a member's order marked as judged (R80). -/
def State.judging (s : State) (i : Ix) (o : StandingOrder) : State :=
  { s with members := vset s.members i { s.member i with order := some { o with judged := true } } }

theorem State.judging_member (s : State) (i : Ix) (o : StandingOrder) :
    (s.judging i o).member i = { s.member i with order := some { o with judged := true } } := vget_vset_self _ _ _

theorem State.judging_member_ne (s : State) {i j : Ix} (o : StandingOrder) (h : j ≠ i) : (s.judging i o).member j = s.member j :=
  vget_vset_ne _ _ _ _ h

theorem State.reachTm_eq {o : StandingOrder} (ho : (s.member i).order = some o) :
    s.reachTm i = if o.outcome = .owed ∧ ((s.member i).faults.get .orderMissed).standing = false
      then (s.judging i o).raise i .orderMissed (some .notDelivered) else s.judging i o := by
  unfold State.reachTm
  simp only [State.modMember, State.setMember, ho, Option.map_some, Option.any_some, Bool.and_eq_true, decide_eq_true_eq,
    Bool.not_eq_true']
  rfl

end

theorem Member.enter_excluded_ordered {m : Member} (h : m.state = .ordered) :
    m.enter .excluded = { m with state := .excluded } := by
  show { (if m.state.inTransition && !MemberState.excluded.inTransition then m.clearTransition else m) with state := .excluded } = _
  rw [h]
  rfl

theorem Member.raised_count (m : Member) (c : FaultClass) (p : Policy) (cause : Option MissCause) (reason : Option Nat)
    (o : Option StandingOrder) : ((m.raised c p cause reason o).faults.get c).count = count8 (m.faults.get c).count := by
  have hrecord : ((m.recordRaise c p cause reason).faults.get c).count = count8 (m.faults.get c).count :=
    congrArg FaultEntry.count (PerClass.get_set_self _ _ _)
  cases p with
  | latched => exact (Member.latchedBy_count _ _ _).trans hrecord
  | recovering =>
    refine Eq.trans ?_ hrecord
    show ((m.recordRaise c .recovering cause reason).excludedBy.faults.get c).count = _
    rw [Member.excludedBy]
    split
    · rw [Member.enter_excluded_faults]
    · rfl
  | reportOnly => exact hrecord
  | off => exact hrecord

/-- A latch ends the condition for which the order stood, of a member that it takes out of service (R73, R84). -/
theorem Member.latchedBy_orderMissed {m : Member} (c : FaultClass) (o : Option StandingOrder) (h : m.state.serving = true) :
    ((m.latchedBy c o).faults.get .orderMissed).standing = false := by
  rw [Member.latchedBy_serving c o h]
  exact (Member.enter_ends _ _).standing (Member.released_orderMissed _ _)

end Sys2Proof.Machine
end

section

open Sys2Proof Sys2Proof.Machine

/-- Settles O30: at Tm the order is marked as judged, and one that is still owed raises ORDER_MISSED from there. -/
theorem reachingTmJudgesTheDelivery : Obligations.ReachingTmJudgesTheDelivery := by
  unfold Obligations.ReachingTmJudgesTheDelivery
  intro s i o hidle hst ho hk htm hj old policy
  rw [exec_tmReached, if_pos (State.tmDue_of hst ho hk htm hj), State.reachTm_eq ho]
  refine ⟨fun h => ?_, fun howed hnot => ?_⟩
  · rw [if_neg fun hn => h.elim (absurd hn.1) fun hs => by rw [hs] at hn; cases hn.2]
    exact congrArg _ (hidle.settle_congr (by rfl) (by rfl) (by rfl) (by rfl))
  · rw [if_pos ⟨howed, hnot⟩]
    have hjudged := s.judging_member i o
    generalize hu : s.judging i o = u at hjudged
    have hpolicy : (u.stored.policies.get .orderMissed).policy = policy := by rw [← hu]; rfl
    refine ⟨_, rfl, ?_, ?_, fun j hj hp => ?_, ?_, fun hp => ?_, fun hp => ?_⟩
    · have hbase : s.SameBase u := hu ▸ ⟨rfl, rfl, rfl, rfl, rfl, rfl, rfl⟩
      exact (hbase.trans (u.raise_sameBase i _ _ _)).trans (State.sameBase_settle _)
    · rw [State.settle_polls, State.raise_polls, ← hu]
      rfl
    · rw [State.settle_member, u.raise_others i _ _ _ hj fun g hg => ?_, ← hu, State.judging_member_ne _ _ hj]
      have hpair := ((u.suspendedBy_iff i _ g).mp hg).1
      exact absurd (hpolicy.symm.trans (congrArg PolicyPair.policy hpair)) hp
    · rw [State.settle_member, State.raise_member, Member.raised_count, hjudged]
      rfl
    · rw [State.settle_member, State.raise_member, hpolicy, hjudged]
      generalize policy = p at hp ⊢
      cases p with
      | latched => exact absurd rfl hp
      | recovering => exact (if_pos (by rw [Member.recordRaise]; simp only [hst]; rfl)).trans (Member.enter_excluded_ordered hst)
      | reportOnly => simp only [← hst]; rfl
      | off => simp only [← hst]; rfl
    · have hserving : ((u.member i).recordRaise .orderMissed (u.stored.policies.get .orderMissed).policy (some .notDelivered)
          none).state.serving = true := by
        rw [hjudged]
        simp only [Member.recordRaise, hst]
        rfl
      rw [State.settle_member, u.raise_member_latched i _ _ _ (hpolicy.trans hp)]
      exact ⟨by rw [Member.latchedBy_serving _ _ hserving, Member.enter_state], Member.latchedBy_latched _ _ _,
        Member.latchedBy_orderMissed _ _ hserving⟩

end

section
/-! SUPPORT. What a reply reports stays in the record: no operation of coordination writes what the last replies reported, or a poll
state (`Reads`). -/

namespace Sys2Proof.Machine

/-! ### What a record holds of its member's replies (R93, R126) -/

/-- What the replies of an intersection have reported. -/
structure Reading where
  mode : Option Mode
  running : Option Nat
  count : Option Nat
  position : Option Nat
  lastApplied : Option Int
  observed : Nat
  controllerId : Option Nat
  capability : Option Capability

/-- The part of a record that replies report. -/
def Member.reading (m : Member) : Reading where
  mode := m.mode
  running := m.running
  count := m.count
  position := m.position
  lastApplied := m.lastApplied
  observed := m.observed
  controllerId := m.controllerId
  capability := m.capability

section
variable (m : Member)

theorem Member.enter_reading (st : MemberState) : (m.enter st).reading = m.reading := by
  unfold Member.enter
  extract_lets m1 m2
  have h2 : m2.reading = m.reading := by
    unfold m2 m1
    split <;> rfl
  split <;> exact h2

end

/-! ### Operations that report nothing -/

/-- The poll states and what the replies have reported stay as they are. -/
structure Reads (s t : State) : Prop where
  polls : t.polls = s.polls
  reading : ∀ i, (t.member i).reading = (s.member i).reading

namespace Reads
variable {s t u : State}

theorem of_eq (hp : t.polls = s.polls) (hm : t.members = s.members) : Reads s t :=
  ⟨hp, fun i => by rw [State.member, State.member, hm]⟩

theorem refl (s : State) : Reads s s := .of_eq rfl rfl

theorem trans (h1 : Reads s t) (h2 : Reads t u) : Reads s u :=
  ⟨h2.polls.trans h1.polls, fun i => (h2.reading i).trans (h1.reading i)⟩

theorem modMember (s : State) (i : Ix) (f : Member → Member) (h : (f (s.member i)).reading = (s.member i).reading := by rfl) :
    Reads s (s.modMember i f) :=
  ⟨rfl, fun j => by
    rw [State.member_modMember]
    split
    next hj => rw [h, hj]
    next => rfl⟩

theorem modSegment (s : State) (k : SegNo) (f : Segment → Segment) : Reads s (s.modSegment k f) := .of_eq rfl rfl

theorem told (s : State) (ns : List Notice) : Reads s (s.told ns) := .of_eq (s.told_polls ns) (s.told_members ns)

theorem foldl {α : Type} (f : State → α → State) (h : ∀ s a, Reads s (f s a)) (l : List α) (s : State) :
    Reads s (l.foldl f s) := by
  induction l generalizing s with
  | nil => exact .refl _
  | cons a l ih => exact .trans (h s a) (ih _)

theorem ite {p : Prop} [Decidable p] {a b : State} (ha : Reads s a) (hb : Reads s b) : Reads s (if p then a else b) := by
  split
  · exact ha
  · exact hb

end Reads

section
variable (s : State) (i : Ix)

theorem State.testsOf_reads : Reads s (s.testsOf i) := .of_eq (s.testsOf_polls i) (s.testsOf_members i)

theorem State.clearCond_reads (c : FaultClass) : Reads s (s.clearCond i c) := .modMember _ _ _

theorem State.enter_reads (st : MemberState) : Reads s (s.enter i st) := .modMember _ _ _ (Member.enter_reading _ _)

theorem State.clearOrder_reads : Reads s (s.clearOrder i) := .modMember _ _ _

theorem State.dropOrder_reads : Reads s (s.dropOrder i) := by
  unfold State.dropOrder
  split
  · exact .modSegment _ _ _
  · exact .refl _

theorem State.enqueueQuery_reads : Reads s (s.enqueueQuery i) := by
  unfold State.enqueueQuery
  split
  · exact .modSegment _ _ _
  · exact .refl _

theorem State.placeOrder_reads (kind : OrderKind) (p : OrderPayload) : Reads s (s.placeOrder i kind p) := by
  unfold State.placeOrder
  extract_lets s1 s2
  have h1 : Reads s s1 := by
    unfold s1
    split
    · exact .modSegment _ _ _
    · exact .refl _
  have h2 : Reads s s2 := h1.trans (.modMember _ _ _)
  exact h2.trans (.of_eq rfl rfl)

theorem State.release_reads (tm : Nat) : Reads s (s.release i tm) := by
  unfold State.release
  extract_lets s1
  have h1 : Reads s s1 := .ite (.modMember _ _ _) (.refl _)
  split
  · exact h1.trans (State.clearOrder_reads _ _)
  · exact h1.trans (State.placeOrder_reads _ _ _ _)

theorem State.releaseTo_reads (tm : Nat) (st : MemberState) : Reads s ((s.release i tm).enter i st) :=
  .trans (State.release_reads _ _ _) (State.enter_reads _ _ _)

theorem State.suspendMember_reads : Reads s (s.suspendMember i) := by
  by_cases hout : (s.member i).state.serving = false
  · rw [State.suspendMember_out hout]
    exact .refl _
  · rcases (MemberState.serving_iff _).mp (Bool.not_eq_false _ ▸ hout) with h | h
    · rw [State.suspendMember_taken ((MemberState.taken_iff _).mpr h)]
      exact s.releaseTo_reads _ _ _
    · unfold State.suspendMember
      simp only [h]
      exact .ite (s.release_reads _ _) (s.releaseTo_reads _ _ _)

theorem State.suspend_reads (g : GroupNo) (c : FaultClass) : Reads s (s.suspend g c i) :=
  .trans (t := s.setGroup g (s.suspendedGroup g c i)) (.of_eq rfl rfl) (.foldl _ State.suspendMember_reads _ _)

theorem State.exclude_reads : Reads s (s.exclude i) := by
  rw [State.exclude_eq]
  exact .ite (s.enter_reads _ _) (.refl _)

theorem State.latch_reads (c : FaultClass) : Reads s (s.latch i c) := by
  rw [State.latch_eq]
  exact .ite (.trans (.modMember _ _ _) (State.releaseTo_reads _ _ _ _)) (.modMember _ _ _)

theorem State.raise_reads (c : FaultClass) (cause : Option MissCause) (reason : Option Nat) :
    Reads s (s.raise i c cause reason) := by
  have h1 : Reads s (s.reported i c cause reason) := .trans (.modMember _ _ _) (.told _ _)
  rw [State.raise_eq]
  cases (s.stored.policies.get c).policy with
  | off => exact h1
  | reportOnly => exact h1
  | recovering => exact (h1.trans (State.exclude_reads _ _)).trans (State.testsOf_reads _ _)
  | latched =>
    cases s.suspendedBy i c with
    | none => exact (h1.trans (State.latch_reads _ _ _)).trans (State.testsOf_reads _ _)
    | some g => exact (h1.trans (State.latch_reads _ _ _)).trans (State.suspend_reads _ _ _ _)

theorem State.failCheck_reads : Reads s (s.failCheck i) := by
  unfold State.failCheck
  extract_lets m s1
  have h1 : Reads s s1 := .ite (s.releaseTo_reads _ _ _) (.refl _)
  exact (h1.trans (State.raise_reads _ _ _ _ _)).trans (State.testsOf_reads _ _)

theorem State.orderMember_reads (plan tm : Nat) : Reads s (s.orderMember i plan tm) := by
  unfold State.orderMember
  split
  · refine .ite ?_ (s.failCheck_reads _)
    have h1 := (s.clearCond_reads i .capability).trans (State.placeOrder_reads _ i .order (s.stored.orderFor i plan ‹Plan› tm))
    exact (h1.trans (.modMember _ _ _ (Member.enter_reading _ _))).trans (State.testsOf_reads _ _)
  · exact s.failCheck_reads _

theorem State.readmit_reads (b : Bool) : Reads s (s.readmit i b) := by
  unfold State.readmit
  extract_lets s1 stay kept
  have h1 : Reads s s1 := s.enter_reads _ _
  have hstay : Reads s stay := .ite (h1.trans (State.release_reads _ _ _)) h1
  have hback : Reads s ((s1.enter i .ordered).testsOf i) := (h1.trans (State.enter_reads _ _ _)).trans (State.testsOf_reads _ _)
  have horder (plan tm : Nat) : Reads s (s1.orderMember i plan tm) := h1.trans (State.orderMember_reads _ _ _ _)
  split
  · exact hstay
  · extract_lets r
    split
    · exact hstay
    · exact hstay
    · exact .ite hstay (.ite hback (horder _ _))
    · exact .ite hback (horder _ _)
    · exact .ite hback (horder _ _)

theorem State.tryReadmit_reads : Reads s (s.tryReadmit i) := .ite (s.readmit_reads _ _) (.refl _)

theorem State.endCond_reads (c : FaultClass) : Reads s (s.endCond i c) :=
  .ite (.trans (State.clearCond_reads _ _ _) (State.tryReadmit_reads _ _)) (.refl _)

theorem State.placeUnknown_reads : Reads s (s.placeUnknown i) := by
  unfold State.placeUnknown
  extract_lets refreshed s1
  have h1 : Reads s s1 := .modMember _ _ _
  exact .ite (h1.trans (State.releaseTo_reads _ _ _ _))
    (.ite (h1.trans (State.enter_reads _ _ _)) (h1.trans (State.readmit_reads _ _ _)))

/-! ### Transitions -/

theorem State.raiseBlocked_reads : Reads s (s.raiseBlocked i) := .ite (.refl _) (s.raise_reads _ _ _ _)

theorem State.startCorrecting_reads (x : Measured) (w : Method) : Reads s (s.startCorrecting i x w) := by
  unfold State.startCorrecting
  extract_lets s1
  split
  have h1 : Reads s s1 := .modMember _ _ _ (Member.enter_reading _ _)
  split
  · exact h1.trans (.modMember _ _ _)
  · exact (h1.trans (.modMember _ _ _)).trans (State.raiseBlocked_reads _ _)

theorem State.transitionStart_reads : Reads s (s.transitionStart i) := by
  unfold State.transitionStart
  split
  · exact .refl _
  · extract_lets method s1
    have h1 : Reads s s1 := .modMember _ _ _
    refine .ite ?_ ((h1.trans (.modMember _ _ _)).trans (State.failCheck_reads _ _))
    have h2 : Reads s (s1.clearCond i .capability) := h1.trans (State.clearCond_reads _ _ _)
    split
    · exact h2
    · extract_lets s3 s4
      have h3 : Reads s s3 := h2.trans (.modMember _ _ _)
      have h4 : Reads s s4 :=
        .ite (h3.trans (.modMember _ _ _ (Member.enter_reading _ _))) (h3.trans (State.startCorrecting_reads _ _ _ _))
      exact h4.trans (State.testsOf_reads _ _)

theorem State.complete_reads : Reads s (s.complete i) :=
  .trans (.modMember _ _ _ (Member.enter_reading _ _)) (State.testsOf_reads _ _)

theorem State.deadlineTest_reads : Reads s (s.deadlineTest i) :=
  .ite (.trans (.modMember _ _ _) (State.raise_reads _ _ _ _ _)) (.refl _)

theorem State.redirect_reads (x : Measured) : Reads s (s.redirect i x) := by
  unfold State.redirect
  extract_lets m method
  split
  extract_lets c
  refine .ite ?_ (.modMember _ _ _)
  split
  · exact .modMember _ _ _
  · exact .trans (.modMember _ _ _) (State.raiseBlocked_reads _ _)

theorem State.recompute_reads (k : Nat) (x : Measured) : Reads s (s.recompute i k x) :=
  .ite (((State.clearCond_reads _ _ _).trans (State.redirect_reads _ _ _)).trans (State.deadlineTest_reads _ _))
    (s.failCheck_reads _)

theorem State.planLost_reads : Reads s (s.planLost i) := by
  unfold State.planLost
  split
  · exact .trans (.modMember _ _ _) (State.orderMember_reads _ _ _ _)
  · exact .refl _

theorem State.follow_reads (b : Bool) : Reads s (s.follow i b) := by
  unfold State.follow
  split
  · exact .refl _
  · refine .ite (s.planLost_reads _) (.ite (s.transitionStart_reads _) ?_)
    split
    · exact .refl _
    · extract_lets s1 near
      have h1 : Reads s s1 := .modMember _ _ _
      exact .ite (.ite h1 (h1.trans (State.transitionStart_reads _ _)))
        (.ite (h1.trans (State.complete_reads _ _)) (.ite (h1.trans (State.recompute_reads _ _ _ _)) h1))

theorem State.measureExcluded_reads : Reads s (s.measureExcluded i) := by
  unfold State.measureExcluded
  split
  · exact .refl _
  · refine .ite ?_ (.refl _)
    split
    · exact .refl _
    · extract_lets s1
      have h1 : Reads s s1 := .modMember _ _ _
      exact .ite ((h1.trans (.modMember _ _ _)).trans (State.tryReadmit_reads _ _)) h1

/-! ### Replies -/

theorem State.takeAlerts_reads (r : GoodReply) : Reads s (s.takeAlerts i r) := by
  unfold State.takeAlerts
  extract_lets m after s1 new s2
  have h1 : Reads s s1 := .modMember _ _ _
  have h2 : Reads s s2 := .ite h1 (h1.trans (.told s1 [⟨s1.tref.e, _⟩]))
  exact .ite (h2.trans (State.enqueueQuery_reads _ _)) h2

theorem State.commonSteps_reads (r : GoodReply) : Reads s (s.commonSteps i r) := by
  unfold State.commonSteps
  extract_lets prev hadNoReply s1 new alertStands s2 ends s3
  have h1 : Reads s s1 := .trans (.modMember _ _ _) (State.takeAlerts_reads _ _ _)
  have h2 : Reads s s2 := .ite (h1.trans (State.clearCond_reads _ _ _)) h1
  have h3 : Reads s s3 := .ite (h2.trans (State.raise_reads _ _ _ _ _)) (.ite (h2.trans (State.clearCond_reads _ _ _)) h2)
  exact .ite (h3.trans (State.tryReadmit_reads _ _)) h3

theorem State.switchMember_reads : Reads s (s.switchMember i) :=
  ((State.clearOrder_reads _ _).trans (State.dropOrder_reads _ _)).trans (State.transitionStart_reads _ _)

theorem State.notSwitched_reads : Reads s (s.notSwitched i) := by
  unfold State.notSwitched
  split
  · refine .ite ?_ (.refl _)
    extract_lets s1
    have h1 : Reads s s1 := by
      unfold s1
      split
      · exact .trans (State.dropOrder_reads _ _) (.modSegment _ _ _)
      · exact .refl _
    exact (h1.trans (.modMember _ _ _)).trans (State.raise_reads _ _ _ _ _)
  · exact .refl _

theorem State.switchingTests_reads : Reads s (s.switchingTests i) := by
  unfold State.switchingTests
  extract_lets s1
  have h1 : Reads s s1 := .ite (s.endCond_reads _ _) (.refl _)
  exact .ite (h1.trans (State.switchMember_reads _ _)) (h1.trans (State.notSwitched_reads _ _))

theorem State.handlePoll_reads (b : Bool) : Reads s (s.handlePoll i b) := by
  unfold State.handlePoll
  split
  · exact s.switchingTests_reads _
  · extract_lets s1
    have h1 : Reads s s1 := s.switchingTests_reads _
    exact .ite (h1.trans (State.measureExcluded_reads _ _)) h1
  · exact s.follow_reads _ _
  · exact s.follow_reads _ _
  · exact .refl _

theorem State.recheckCapability_reads : Reads s (s.recheckCapability i) := by
  unfold State.recheckCapability
  extract_lets m against
  cases against with
  | none => exact .refl _
  | some k => exact .ite (.refl _) (s.failCheck_reads _)

end

end Sys2Proof.Machine
end

section
/-! SUPPORT. A reply heard whole reaches the record of its target (R144, R190), and what the steps common to every reply leave of a member
with no condition and no alert (R129). -/

namespace Sys2Proof.Machine

/-! ### Reply frames received whole (R190) -/

theorem wholeReply_cases {r : List Byte} (h : wholeReply r = true) :
    ∃ d m rest, r = 0x5A#8 :: d :: m :: rest ∧ 1 ≤ m.toNat ∧ m.toNat ≤ 20 ∧ rest.length = m.toNat + 2 := by
  match r with
  | s :: d :: m :: rest =>
    simp only [wholeReply, Bool.and_eq_true, decide_eq_true_eq] at h
    obtain ⟨⟨⟨hs, h1⟩, h2⟩, h3⟩ := h
    exact ⟨d, m, rest, by rw [hs], h1, h2, h3⟩

/-- What has been received of a whole reply frame has ended nothing. -/
theorem openReply_take {r : List Byte} (h : wholeReply r = true) {n : Nat} (hn : n < r.length) : openReply (r.take n) = true := by
  obtain ⟨d, m, rest, rfl, h1, h2, h3⟩ := wholeReply_cases h
  match n with
  | 0 => rfl
  | 1 => rfl
  | 2 => rfl
  | n + 3 =>
    have hlen : (rest.take n).length ≠ m.toNat + 2 := by
      rw [List.length_take]
      simp only [List.length_cons] at hn
      omega
    have hbad : badReplyLength (0x5A#8 :: d :: m :: rest.take n) = false := by
      cases rest.take n with
      | nil => simp [badReplyLength, replyLengthOut]; omega
      | cons => rfl
    have hopen : wholeReply (0x5A#8 :: d :: m :: rest.take n) = false := by
      rw [wholeReply, decide_eq_false hlen, Bool.and_false]
    rw [List.take_succ_cons, List.take_succ_cons, List.take_succ_cons, openReply, hbad, hopen]
    rfl

theorem badReplyLength_whole {r : List Byte} (h : wholeReply r = true) : badReplyLength r = false := by
  obtain ⟨d, m, rest, rfl, h1, h2, h3⟩ := wholeReply_cases h
  match rest with
  | b :: rest => rfl

/-- The bytes that complete a reply that has begun. -/
theorem hear_completes (x : Byte) (held bytes : List Byte) (hb : bytes ≠ []) (h : wholeReply (x :: held ++ bytes) = true) :
    hear (x :: held) bytes = (.whole, x :: held ++ bytes, []) := by
  obtain ⟨more, b, rfl⟩ := (List.eq_nil_or_concat bytes).resolve_left hb
  rw [List.concat_eq_append] at *
  rw [hear_open x held more [b] fun n hn => ?_]
  · have hlast : x :: (held ++ more) ++ [b] = x :: held ++ (more ++ [b]) := by simp
    show hear (x :: (held ++ more)) [b] = _
    rw [← hlast] at h ⊢
    unfold hear
    simp only
    rw [badReplyLength_whole h, h]
    rfl
  · have htake : x :: held ++ more.take (n + 1) = (x :: held ++ (more ++ [b])).take ((x :: held).length + (n + 1)) := by
      rw [List.take_length_add_append, List.take_append_of_le_length (by omega)]
    rw [htake]
    exact openReply_take h (by simp; omega)

/-- The bytes that complete a reply frame in its window. -/
theorem hear_whole {heard bytes : List Byte} (hb : bytes ≠ []) (h : wholeReply (heard ++ bytes) = true) :
    hear heard bytes = (.whole, heard ++ bytes, []) := by
  match heard with
  | x :: held => exact hear_completes x held bytes hb h
  | [] =>
    obtain ⟨d, m, rest, hr, -⟩ := wholeReply_cases h
    rw [List.nil_append] at h hr ⊢
    rw [hr] at h ⊢
    rw [hear_start]
    exact hear_completes _ [] _ (by simp) h

/-! ### The reply in its window (R144) -/

/-- What a reply taken leaves of a segment's transaction in flight touches no record, and of its segment neither queue nor numbers. -/
structure Received (k : SegNo) (s u : State) : Prop where
  members : u.members = s.members
  groups : u.groups = s.groups
  stored : u.stored = s.stored
  tref : u.tref = s.tref
  queue : (u.segment k).queue = (s.segment k).queue
  nextSeq : (u.segment k).nextSeq = (s.segment k).nextSeq

section
variable {s u : State} {k : SegNo} {x : InFlight} {bytes : List Byte} {r : GoodReply}

theorem Received.member (h : Received k s u) (i : Ix) : u.member i = s.member i := by
  rw [State.member, h.members]
  rfl

theorem Received.group (h : Received k s u) (g : GroupNo) : u.group g = s.group g := by
  rw [State.group, h.groups]
  rfl

theorem Received.groupOf (h : Received k s u) (i : Ix) : u.groupOf i = s.groupOf i := by
  rw [State.groupOf, h.stored]
  rfl

theorem Received.place (h : Received k s u) (i : Ix) : u.place i = s.place i := by
  rw [State.place, h.stored]
  rfl

theorem parseReplyBody_poll {kind : TxnKind} {body : List Byte} {p : PollReply} (h : parseReplyBody kind body = some (.poll p)) :
    kind = .poll := by
  unfold parseReplyBody at h
  split at h
  · rfl
  · cases h
  · cases h
  · cases h

theorem judgeReply_poll {d : Drop} {kind : TxnKind} {p : PollReply} (h : judgeReply d kind bytes = some (.poll p)) : kind = .poll := by
  unfold judgeReply at h
  split at h
  · extract_lets body at h
    split at h
    · split at h
      · exact parseReplyBody_poll h
      · cases h
    · cases h
  · cases h

theorem Received.refl (k : SegNo) (s : State) : Received k s s := ⟨rfl, rfl, rfl, rfl, rfl, rfl⟩

theorem Received.trans {t : State} (h1 : Received k s t) (h2 : Received k t u) : Received k s u :=
  ⟨h2.members.trans h1.members, h2.groups.trans h1.groups, h2.stored.trans h1.stored, h2.tref.trans h1.tref,
    h2.queue.trans h1.queue, h2.nextSeq.trans h1.nextSeq⟩

theorem Received.modSegment (f : Segment → Segment) (hf : ∀ r, (f r).queue = r.queue ∧ (f r).nextSeq = r.nextSeq) :
    Received k s (s.modSegment k f) :=
  ⟨rfl, rfl, rfl, rfl, by rw [State.segment_modSegment_self, (hf _).1], by rw [State.segment_modSegment_self, (hf _).2]⟩

theorem State.poll_modPoll_self (s : State) (i : Ix) (f : Poll → Poll) : (s.modPoll i f).poll i = (s.poll i).map f :=
  s.poll_setPoll_self i _

/-- A delivered reply discharges a poll when it answers one (R153). -/
theorem State.deliver_good (h : s.place x.target = some ⟨k, x.drop⟩) :
    ∃ u, Received k s u ∧ (x.body.kind = .poll → u.poll x.target = (s.poll x.target).map Poll.discharge)
      ∧ s.deliver k x (.good r) = u.goodReply x.target k x r := by
  rw [State.deliver, if_pos h]
  cases hbody : x.body with
  | poll d p => exact ⟨s.modPoll x.target Poll.discharge, ⟨rfl, rfl, rfl, rfl, rfl, rfl⟩, fun _ => s.poll_modPoll_self _ _, rfl⟩
  | order oid p => exact ⟨_, .refl _ _, nofun, rfl⟩
  | query => exact ⟨_, .refl _ _, nofun, rfl⟩

/-- A good reply is taken from the segment, discharges a poll when it answers one, and is handed on (R144, R153). -/
theorem exec_reply (h : s.ReplyArrives k x bytes r) :
    ∃ u, Received k s u ∧ (∀ p, r = .poll p → u.poll x.target = (s.poll x.target).map Poll.discharge)
      ∧ exec (.replyFrameReceived k bytes) s = .next (u.goodReply x.target k x r).settle := by
  obtain ⟨-, hflight, hopen, hplace, hbytes, hphase⟩ := h
  cases hp : x.phase with
  | request => rw [hp] at hphase; exact hphase.elim
  | window closes waited heard lastAt =>
    rw [hp] at hphase
    obtain ⟨hgap, hwhole, hjudge⟩ := hphase
    have hwindow : (s.segment k).window = some ⟨x, closes, waited, heard, lastAt⟩ := by
      simp only [Segment.window, hflight, hp]
    have hnogap : Window.gap ⟨x, closes, waited, heard, lastAt⟩ s.crystal = false := by
      rcases hgap with rfl | hgap
      · rfl
      · simp only [Window.gap, decide_eq_false (Nat.not_lt.mpr hgap), Bool.and_false]
    have hexec : exec (.replyFrameReceived k bytes) s = .next (s.completeTxn k (.good r)).settle := by
      show Host.Outcome.next (s.inWindow k _) = _
      rw [State.inWindow_open hwindow, if_neg (by rw [hnogap]; exact Bool.false_ne_true), hear_whole hbytes hwhole]
      simp only [InFlight.judge, hjudge]
    have h1 : Received k s (s.modSegment k fun q => { q with inFlight := none, counters := q.counters.completed (.good r) }) :=
      .modSegment _ fun _ => ⟨rfl, rfl⟩
    obtain ⟨u, hu, hpoll, hdeliver⟩ := State.deliver_good (r := r) ((h1.place _).trans hplace)
    refine ⟨u, h1.trans hu, fun p hr => hpoll (judgeReply_poll (hr ▸ hjudge)), ?_⟩
    rw [hexec, State.completeTxn, hflight]
    simp only [if_neg hopen]
    exact congrArg (Host.Outcome.next ·.settle) hdeliver

end

/-! ### The steps common to every good reply (R129, R131, R132) -/

theorem State.modMember_modMember (s : State) (i : Ix) (f g : Member → Member) :
    (s.modMember i f).modMember i g = s.modMember i fun m => g (f m) := by
  have hmembers : ((s.modMember i f).modMember i g).members = (s.modMember i fun m => g (f m)).members := vget_ext fun j => by
    show ((s.modMember i f).modMember i g).member j = (s.modMember i fun m => g (f m)).member j
    by_cases hj : j = i
    · subst hj
      simp only [State.member_modMember_self]
    · simp only [State.member_modMember_ne _ _ _ _ hj]
  exact congrArg (fun v => { s with members := v }) hmembers

/-- A member from whom a reply has come: the no-replies and the alerts of its record (R129, R131). -/
def Member.heardFrom (m : Member) (r : GoodReply) (n : Nat) : Member :=
  { m with noReplies := 0, alerts := deglitch m.alerts (shownAlerts m.state r) n }

theorem GoodReply.Quiet.shown {r : GoodReply} (h : r.Quiet) (st : MemberState) : shownAlerts st r = PerAlert.all false := by
  cases r with
  | poll p =>
    obtain ⟨halerts, hman, hfl⟩ := h
    simp only [shownAlerts, halerts, decide_eq_false hman, decide_eq_false hfl]
    split <;> rfl
  | order o => exact h
  | query q => exact h

theorem AlertWatch.after_quiet {a : AlertWatch} (h : a.standing = false) (n : Nat) : (a.after false n).standing = false := by
  rw [AlertWatch.after, if_pos h.symm]
  exact h

section
variable {m : Member} {r : GoodReply} {s : State} {i : Ix}

theorem Member.Calm.heardFrom (hm : m.Calm) (hr : r.Quiet) (n : Nat) : (m.heardFrom r n).Calm := by
  obtain ⟨hfaults, halerts⟩ := hm
  refine ⟨hfaults, ?_⟩
  simp only [Member.alertSet, PerAlert.all, PerAlert.mk.injEq] at halerts
  obtain ⟨h1, h2, h3, h4, h5, h6⟩ := halerts
  simp only [Member.heardFrom, Member.alertSet, hr.shown, deglitch, PerAlert.all, AlertWatch.after_quiet, h1, h2, h3, h4, h5, h6]

/-- A reply that shows no alert, of a member with no condition and no alert, raises and ends nothing. -/
theorem State.commonSteps_calm (hm : (s.member i).Calm) (hr : r.Quiet) :
    s.commonSteps i r = s.modMember i (·.heardFrom r s.stored.params.deglitch) := by
  have hafter := hm.heardFrom hr s.stored.params.deglitch
  have htaken : (s.modMember i fun m => { m with noReplies := 0 }).takeAlerts i r
      = s.modMember i (·.heardFrom r s.stored.params.deglitch) := by
    unfold State.takeAlerts
    extract_lets a after s1 new s2
    have hs1 : s1 = s.modMember i (·.heardFrom r s.stored.params.deglitch) := by
      unfold s1 after a
      rw [State.modMember_modMember, State.member_modMember_self]
      rfl
    have hnew : new = PerAlert.all false := by
      unfold new
      rw [hs1, State.member_modMember_self, hafter.2]
    have hold : a.alertSet = PerAlert.all false := by
      unfold a
      rw [State.member_modMember_self]
      exact hm.2
    have hs2 : s2 = s1 := if_pos (hnew.trans hold.symm)
    rw [hnew, if_neg (by simp [PerAlert.all]), hs2, hs1]
  unfold State.commonSteps
  simp only [htaken, State.member_modMember_self, hm.1, hm.2, hafter.1, hafter.2]
  rfl

end

end Sys2Proof.Machine
end

section
/-! SUPPORT. What the steps of an offset transition make of a member for whom no condition stands: a transition start, a completion, a
recomputation, a lost plan and a failing check (R72, R100 to R112). -/

namespace Sys2Proof.Machine

/-! ### The tests of R70 for a group -/

section
variable {s : State} {i : Ix} {g : GroupNo} (hi : s.groupOf i = some g)
include hi

theorem State.testsOf_eq : s.testsOf i = s.groupTests g := by
  rw [State.testsOf, hi]

/-- A TRANSITION group with no member ORDERED or CORRECTING is STEADY after the tests. -/
theorem State.testsOf_settled (ht : (s.group g).state = .transition)
    (hw : ∀ j, s.groupOf j = some g → (s.member j).state.working = false) :
    ((s.testsOf i).group g).state = .steady ∧ ((s.testsOf i).group g).ts = none := by
  have hnone : s.anyWorking g = false :=
    List.any_eq_false.mpr fun j hj => Bool.eq_false_iff.mp (hw j (State.mem_membersOf.mp hj))
  rw [State.testsOf_eq hi]
  obtain ⟨-, -, h⟩ | ⟨hst, -, -⟩ | ⟨hno, -, -⟩ := s.groupTests_cases g
  · rw [h, State.steadied, State.group, State.told_groups, ← State.group, State.group_setGroup_self]
    exact ⟨rfl, rfl⟩
  · rw [ht] at hst
    cases hst
  · exact absurd ⟨ht, hnone⟩ hno

/-- A group with a member ORDERED or CORRECTING is not STEADY after the tests. -/
theorem State.testsOf_steered (hst : (s.group g).state = .transition ∨ (s.group g).state = .steady)
    (hw : (s.member i).state.working = true) : ((s.testsOf i).group g).state = .transition := by
  have hsome : s.anyWorking g = true := List.any_eq_true.mpr ⟨i, State.mem_membersOf.mpr hi, hw⟩
  rw [State.testsOf_eq hi]
  obtain ⟨-, hno, -⟩ | ⟨-, -, h⟩ | ⟨-, hno, h⟩ := s.groupTests_cases g
  · rw [hsome] at hno
    cases hno
  · rw [h, State.group_setGroup_self]
  · rw [h]
    exact hst.resolve_right fun hs => hno ⟨hs, hsome⟩

end

/-! ### Members that hold no transition (R114) -/

/-- The transition fields are those of a member that holds no transition. -/
def Member.NoTransition (m : Member) : Prop :=
  m.direction = .none ∧ m.remaining = 0 ∧ m.correction = 0 ∧ m.method = none ∧ m.expected = none ∧ m.deadline = none
    ∧ m.late = false ∧ m.resync = false

section
variable {m n : Member}

theorem Member.clearTransition_noTransition (m : Member) : m.clearTransition.NoTransition := ⟨rfl, rfl, rfl, rfl, rfl, rfl, rfl, rfl⟩

theorem Member.enter_noTransition_of {st : MemberState}
    (h : (if m.state.inTransition && !st.inTransition then m.clearTransition else m).NoTransition) : (m.enter st).NoTransition := by
  unfold Member.enter
  extract_lets m1 m2
  have h2 : m2.NoTransition := h
  split <;> exact h2

theorem Member.NoTransition.enter (h : m.NoTransition) (st : MemberState) : (m.enter st).NoTransition := by
  refine Member.enter_noTransition_of ?_
  split
  · exact m.clearTransition_noTransition
  · exact h

theorem Member.enter_free_noTransition (h : m.state.inTransition = true ∨ m.NoTransition) : (m.enter .free).NoTransition := by
  rcases h with h | h
  · refine Member.enter_noTransition_of ?_
    rw [h]
    exact m.clearTransition_noTransition
  · exact h.enter _

theorem Member.NoTransition.clearCond (h : m.NoTransition) (c : FaultClass) : (m.clearCond c).NoTransition := by
  cases m
  exact h

theorem Member.NoTransition.released (h : m.NoTransition) (o : Option StandingOrder) : (m.released o).NoTransition := by
  unfold Member.released
  split
  · exact ((h.clearCond .transitionLate).clearCond .transitionBlocked).clearCond .orderMissed
  · exact h.clearCond .orderMissed

theorem Member.NoTransition.raised (h : m.NoTransition) (c : FaultClass) (p : Policy) (cause : Option MissCause) (reason : Option Nat)
    (o : Option StandingOrder) : (m.raised c p cause reason o).NoTransition := by
  have hrecord : (m.recordRaise c p cause reason).NoTransition := h
  cases p with
  | off => exact hrecord
  | reportOnly => exact hrecord
  | recovering =>
    show (m.recordRaise c .recovering cause reason).excludedBy.NoTransition
    unfold Member.excludedBy
    split
    · exact hrecord.enter _
    · exact hrecord
  | latched =>
    show ((m.recordRaise c .latched cause reason).latchedBy c o).NoTransition
    unfold Member.latchedBy
    split
    · exact (Member.NoTransition.released (m := (m.recordRaise c .latched cause reason).flagged c) hrecord o).enter _
    · exact hrecord

end

/-! ### What a raise leaves of a member in service (R160 to R162) -/

/-- The state of a member in service after a raise under a policy. -/
def Policy.leaves (p : Policy) (before : MemberState) : MemberState :=
  match p with
  | .latched => .latched
  | .recovering => .excluded
  | _ => before

theorem Member.excludedBy_taken {m : Member} (h : m.state.taken = true) : m.excludedBy = m.enter .excluded := if_pos h

theorem MemberState.serving_of_taken {st : MemberState} (h : st.taken = true) : st.serving = true := by
  rw [MemberState.serving, h]
  rfl

section
variable (m : Member) (c : FaultClass) (p : Policy) (cause : Option MissCause) (reason : Option Nat) (o : Option StandingOrder)

theorem Member.raised_state (h : m.state.taken = true) : (m.raised c p cause reason o).state = p.leaves m.state := by
  cases p with
  | off => rfl
  | reportOnly => rfl
  | recovering =>
    show ((m.recordRaise c .recovering cause reason).excludedBy).state = .excluded
    rw [Member.excludedBy_taken (m := m.recordRaise c .recovering cause reason) h, Member.enter_state]
  | latched =>
    show ((m.recordRaise c .latched cause reason).latchedBy c o).state = .latched
    rw [Member.latchedBy_serving (m := m.recordRaise c .latched cause reason) c o (MemberState.serving_of_taken h),
      Member.enter_state]

theorem Member.raised_order (hp : p ≠ .latched) : (m.raised c p cause reason o).order = m.order := by
  cases p with
  | off => rfl
  | reportOnly => rfl
  | latched => exact absurd rfl hp
  | recovering =>
    show ((m.recordRaise c .recovering cause reason).excludedBy).order = m.order
    unfold Member.excludedBy
    split
    · exact Member.enter_order _ _
    · rfl

theorem Member.raised_order_latched (h : m.state.taken = true) : (m.raised c .latched cause reason o).order = o := by
  show ((m.recordRaise c .latched cause reason).latchedBy c o).order = o
  rw [Member.latchedBy_serving (m := m.recordRaise c .latched cause reason) c o (MemberState.serving_of_taken h),
    Member.enter_order]
  rfl

/-- A raise of one class counts nothing for another. -/
theorem Member.raised_count_ne {d : FaultClass} (hd : d ≠ c) :
    ((m.raised c p cause reason o).faults.get d).count = (m.faults.get d).count := by
  have hrecord : (m.recordRaise c p cause reason).faults.get d = m.faults.get d := PerClass.get_set_ne _ _ _ _ hd
  cases p with
  | off => exact congrArg FaultEntry.count hrecord
  | reportOnly => exact congrArg FaultEntry.count hrecord
  | recovering =>
    refine Eq.trans ?_ (congrArg FaultEntry.count hrecord)
    show ((m.recordRaise c .recovering cause reason).excludedBy.faults.get d).count = _
    unfold Member.excludedBy
    split
    · rw [Member.enter_excluded_faults]
    · rfl
  | latched =>
    refine Eq.trans ?_ (congrArg FaultEntry.count hrecord)
    show (((m.recordRaise c .latched cause reason).latchedBy c o).faults.get d).count = _
    rw [(Member.latchedBy_ends _ c o).count, Member.flagged, PerClass.get_set_ne _ _ _ _ hd]

theorem Member.raised_mild (hp : p = .off ∨ p = .reportOnly) :
    m.raised c p cause reason o = m.recordRaise c p cause reason := by
  rcases hp with rfl | rfl <;> rfl

end

/-! ### A failing check (R72, R100) -/

/-- A coordinated or ordered member `m` has failed its check and has become `n`. -/
def Stored.Fails (t : Stored) (i : Ix) (m n : Member) (e : Nat) : Prop :=
  t.Released i n e ∧ (n.faults.get .capability).count = count8 (m.faults.get .capability).count
    ∧ n.state = (t.policies.get .capability).policy.leaves .free ∧ n.NoTransition

section
variable {s : State} {i : Ix}

theorem Stored.Fails.of_count {t : Stored} {m m' n : Member} {e : Nat} (h : t.Fails i m n e)
    (hc : (m.faults.get .capability).count = (m'.faults.get .capability).count) : t.Fails i m' n e := by
  obtain ⟨hreleased, hcount, hst, hfields⟩ := h
  exact ⟨hreleased, hc ▸ hcount, hst, hfields⟩

theorem State.failCheck_fails (hel : (s.member i).state.eligible = true)
    (hc : (s.member i).state.inTransition = true ∨ (s.member i).NoTransition) :
    s.stored.Fails i (s.member i) ((s.failCheck i).member i) s.tref.e := by
  have hon : (s.member i).state ≠ .offline := fun h => by rw [h] at hel; cases hel
  have hplace : ((s.release i s.tref.e).enter i .free).stored = s.stored := (s.releaseTo_works i _ _).stored_eq
  have htref : ((s.release i s.tref.e).enter i .free).tref = s.tref := (s.releaseTo_works i _ _).tref_eq
  have hmember : (((s.release i s.tref.e).enter i .free).member i)
      = ((s.member i).released (s.releaseOrder i s.tref.e)).enter .free := by
    rw [State.enter_member, State.release_member_eq _ hon]
  have hfail : s.failCheck i = (((s.release i s.tref.e).enter i .free).raise i .capability).testsOf i := by
    unfold State.failCheck
    simp only [hel, Bool.true_or, if_true]
  rw [hfail, State.testsOf_member]
  generalize (s.release i s.tref.e).enter i .free = u at hplace htref hmember
  rw [State.raise_member, hplace, htref, hmember]
  generalize hn : ((s.member i).released (s.releaseOrder i s.tref.e)).enter .free = n
  have hfree : n.state = .free := by rw [← hn, Member.enter_state]
  have htaken : n.state.taken = true := by rw [hfree]; rfl
  refine ⟨?_, ?_, ?_, ?_⟩
  · by_cases hp : (s.stored.policies.get .capability).policy = .latched
    · have h := Stored.released_of_order (s := u) (m := n.raised .capability .latched none none (u.releaseOrder i s.tref.e))
        (Member.raised_order_latched _ _ _ _ _ htaken)
      rw [hp]
      rwa [hplace] at h
    · refine Stored.released_of_order (s := s) ?_
      rw [Member.raised_order _ _ _ _ _ _ hp, ← hn, Member.enter_order]
      rfl
  · rw [Member.raised_count, ← hn, (Member.enter_ends _ _).count, (Member.released_ends _ _).count]
  · rw [Member.raised_state _ _ _ _ _ _ htaken, hfree]
  · refine Member.NoTransition.raised ?_ _ _ _ _ _
    rw [← hn]
    refine Member.enter_free_noTransition ?_
    rw [Member.released_state]
    exact hc.imp_right fun h => h.released _

/-! ### A lost plan (R107) -/

section
variable {g : GroupNo} (hi : s.groupOf i = some g)
include hi

theorem State.planLost_eq :
    s.planLost i = (s.modMember i fun m => { m with correction := 0, correctionCount := m.count }).orderMember i (s.group g).target
      (s.tref.e + s.leadDs) := by
  rw [State.planLost, hi]

/-- A member whose plan is lost is ordered for its group's target. -/
theorem State.planLost_ordered (h : s.stored.activation (s.member i) (s.group g).target = true) :
    s.stored.Ordered i ((s.planLost i).member i) (s.group g).target (s.tref.e + s.leadDs)
      ∧ ((s.planLost i).member i).NoTransition := by
  rw [State.planLost_eq hi]
  generalize hu : s.modMember i (fun m => { m with correction := 0, correctionCount := m.count }) = u
  have hst : u.stored = s.stored := by rw [← hu]; rfl
  have hfit : u.stored.activation (u.member i) (s.group g).target = true := by
    rw [← hu, State.member_modMember_self]
    exact h
  have hui : u.groupOf i = some g := by
    rw [State.groupOf, hst]
    exact hi
  rw [← hst]
  refine ⟨(State.orderMember_called hui _ hfit).2, ?_⟩
  obtain ⟨p, hplan⟩ := Stored.activation_plan hfit
  unfold State.orderMember
  rw [hplan]
  simp only [hfit, if_true]
  rw [State.testsOf_member, State.member_modMember_self]
  exact Member.clearTransition_noTransition _

theorem State.planLost_fails (h : s.stored.activation (s.member i) (s.group g).target = false)
    (hst : (s.member i).state = .correcting ∨ (s.member i).state = .inStep) :
    s.stored.Fails i (s.member i) ((s.planLost i).member i) s.tref.e := by
  rw [State.planLost_eq hi, State.orderMember_failing]
  · have hfails := State.failCheck_fails (s := s.modMember i fun m => { m with correction := 0, correctionCount := m.count })
      (i := i) ?_ (.inl ?_)
    · refine hfails.of_count ?_
      rw [State.member_modMember_self]
    · rw [State.member_modMember_self]
      rcases hst with h | h <;> simp only [h] <;> rfl
    · rw [State.member_modMember_self]
      rcases hst with h | h <;> simp only [h] <;> rfl
  · rw [State.member_modMember_self]
    exact h

end

end

/-! ### Transition starts (R104) -/

/-- The effective method of a measured member (R99). -/
def Measured.method (x : Measured) : Method := effectiveMethod x.plan.method x.cap.methods

/-- Step 1 of a transition start. -/
def Member.begun (m : Member) (w : Method) : Member :=
  { m.clearTransitionConds with resync := false, late := false, method := some w }

theorem Member.begun_state (m : Member) (w : Method) : (m.begun w).state = m.state := by
  cases m
  rfl

theorem Member.begun_capability (m : Member) (w : Method) : (m.begun w).capability = m.capability := by
  cases m
  rfl

theorem Member.begun_position (m : Member) (w : Method) : (m.begun w).position = m.position := by
  cases m
  rfl

theorem Member.begun_count (m : Member) (w : Method) :
    ((m.begun w).faults.get .capability).count = (m.faults.get .capability).count := by
  cases m
  rfl

/-- A member that starts a transition and has been measured. -/
def Member.started (m : Member) (x : Measured) : Member :=
  { (m.begun x.method).clearCond .capability with error := some x.err }

section
variable {s : State} {i : Ix} {k : Nat} {x : Measured}

theorem State.measure_some (h : s.measure i = some x) :
    ∃ k pos, s.currentPlan i = some (k, x.plan) ∧ (s.member i).capability = some x.cap ∧ (s.member i).position = some pos
      ∧ x.advance = advanceOf s.tref.e (s.stored.offset k i) x.plan.cycle pos x.cap.step := by
  unfold State.measure at h
  split at h
  next k p cap pos hk hcap hpos =>
    cases h
    exact ⟨k, pos, hk, hcap, hpos, rfl⟩
  · cases h

/-- A measurement depends on the member's capability record and position alone. -/
theorem State.measure_modMember {f : Member → Member} (hc : (f (s.member i)).capability = (s.member i).capability)
    (hp : (f (s.member i)).position = (s.member i).position) : (s.modMember i f).measure i = s.measure i := by
  unfold State.measure
  rw [State.member_modMember_self, hc, hp]
  rfl

section
variable (hk : s.currentPlan i = some (k, x.plan)) (hx : s.measure i = some x)
include hk hx

theorem State.transitionStart_fit (hfit : s.stored.activation (s.member i) k = true) :
    s.transitionStart i = (if withinTol x.err s.stored.params.tol then s.modMember i fun m => (m.started x).inStepNow
      else (s.modMember i (·.started x)).startCorrecting i x x.method).testsOf i := by
  obtain ⟨-, -, -, hcap, -, -⟩ := State.measure_some hx
  have hbegun : (s.modMember i (·.begun x.method)).stored.activation ((s.modMember i (·.begun x.method)).member i) k = true := by
    rw [State.member_modMember_self, ← hfit]
    exact Stored.activation_congr _ _ (Member.begun_capability _ _)
  have hmeasure : ((s.modMember i (·.begun x.method)).clearCond i .capability).measure i = some x := by
    rw [State.clearCond, State.modMember_modMember, State.measure_modMember, hx]
    · exact Member.begun_capability (s.member i) x.method
    · exact Member.begun_position (s.member i) x.method
  unfold State.transitionStart
  rw [hk]
  simp only [hcap, Option.map_some, Option.getD_some]
  simp only [Measured.method, Member.begun] at hbegun hmeasure ⊢
  rw [if_pos hbegun, hmeasure]
  simp only [State.clearCond, State.modMember_modMember]
  rfl

theorem State.transitionStart_unfit (hfit : s.stored.activation (s.member i) k = false) :
    s.transitionStart i = (s.modMember i fun m => (m.begun x.method).clearTransition).failCheck i := by
  obtain ⟨-, -, -, hcap, -, -⟩ := State.measure_some hx
  have hbegun : (s.modMember i (·.begun x.method)).stored.activation ((s.modMember i (·.begun x.method)).member i) k = false := by
    rw [State.member_modMember_self, ← hfit]
    exact Stored.activation_congr _ _ (Member.begun_capability _ _)
  unfold State.transitionStart
  rw [hk]
  simp only [hcap, Option.map_some, Option.getD_some]
  simp only [Measured.method, Member.begun] at hbegun ⊢
  rw [if_neg (by rw [hbegun]; exact Bool.false_ne_true), State.modMember_modMember]

end

end

/-! ### Members that are in step or correct (R103, R104, R111) -/

/-- A member found in step (R104, R111). -/
def Member.Settled (n : Member) (x : Measured) (count : Option Nat) : Prop :=
  n.state = .inStep ∧ n.error = some x.err ∧ n.direction = .none ∧ n.remaining = 0 ∧ n.correction = 0
    ∧ n.correctionCount = count ∧ n.expected = none ∧ n.deadline = none

/-- A CORRECTING member with the corrections of a direction within limits (R103). -/
def Member.Steered (n : Member) (x : Measured) (limits : Nat × Nat) (count : Option Nat) (d : Direction)
    (expected deadline : Option Nat) : Prop :=
  n.state = .correcting ∧ n.error = some x.err ∧ n.direction = d ∧ n.remaining = remainingOf d x.advance x.plan.cycle
    ∧ n.correction = correctionOf d (remainingOf d x.advance x.plan.cycle) limits.1 limits.2
    ∧ n.correctionCount = count ∧ n.expected = expected ∧ n.deadline = deadline

/-- What a transition start leaves of the member `m`, whatever way it takes (R104). -/
def Member.StartedAs (m n : Member) (x : Measured) : Prop :=
  n.method = some x.method ∧ n.late = false ∧ n.resync = false ∧ n.order = m.order

theorem Member.enter_inStep (m : Member) : m.enter .inStep = { m with state := .inStep } := by
  show { (if m.state.inTransition && !MemberState.inStep.inTransition then m.clearTransition else m) with state := .inStep } = _
  rw [if_neg (by simp [MemberState.inTransition])]

theorem Member.enter_correcting (m : Member) : m.enter .correcting = { m with state := .correcting } := by
  show { (if m.state.inTransition && !MemberState.correcting.inTransition then m.clearTransition else m) with
    state := .correcting } = _
  rw [if_neg (by simp [MemberState.inTransition])]

theorem Member.inStepNow_eq (m : Member) : m.inStepNow = { m with
    state := .inStep, direction := .none, remaining := 0, correction := 0, correctionCount := m.count, expected := none,
    deadline := none } := by
  rw [Member.inStepNow, Member.enter_inStep]

theorem Member.inStepNow_settled {m : Member} {x : Measured} (h : m.error = some x.err) : m.inStepNow.Settled x m.count := by
  rw [Member.inStepNow_eq]
  exact ⟨rfl, h, rfl, rfl, rfl, rfl, rfl, rfl⟩

/-- A member that starts a transition with a direction (R101 to R104). -/
def Member.steered (m : Member) (x : Measured) (w : Method) (limits : Nat × Nat) (d : Direction) (n grace : Nat) : Member :=
  { ({ m with state := .correcting, method := some w }).correct d x.advance x.plan.cycle limits.1 limits.2 with
    expected := some n, deadline := some (m.observed + n + grace) }

/-- A member that starts a transition with neither direction (R102). -/
def Member.stuckAt (m : Member) (w : Method) (held : Option Nat) : Member :=
  { ({ m with state := .correcting, method := some w }).block held with deadline := none }

/-- A choice takes a direction, or leaves the member blocked with its expected cycles held. -/
theorem wayOf_go {d : Direction} {n : Nat} {c : Option (Direction × Nat)} (h : c = some (d, n)) (hn : n ≤ 255) :
    wayOf c = .go d n := by
  rw [h, wayOf, if_pos hn]

theorem wayOf_blocked {held : Option Nat} {c : Option (Direction × Nat)}
    (h : (c = none ∧ held = none) ∨ (held = some 255 ∧ ∃ d n, c = some (d, n) ∧ 255 < n)) : wayOf c = .blocked held := by
  rcases h with ⟨rfl, rfl⟩ | ⟨rfl, d, n, rfl, hn⟩
  · rfl
  · rw [wayOf, if_neg (by omega), storedCycles, min_eq_left (by omega)]

section
variable {s : State} {i : Ix} {x : Measured} {w : Method}

/-- The choice of a direction for a measured member (R101). -/
def State.choice (s : State) (x : Measured) (w : Method) : Option (Direction × Nat) :=
  chooseDirection w x.advance x.plan.cycle (s.limits x w).1 (s.limits x w).2

theorem State.startCorrecting_go {d : Direction} {n : Nat} (h : wayOf (s.choice x w) = .go d n) :
    s.startCorrecting i x w = s.modMember i (·.steered x w (s.limits x w) d n s.stored.params.grace) := by
  unfold State.choice at h
  unfold State.startCorrecting
  simp only [Member.enter_correcting, h, State.modMember_modMember]
  rfl

theorem State.startCorrecting_blocked {held : Option Nat} (h : wayOf (s.choice x w) = .blocked held) :
    s.startCorrecting i x w = (s.modMember i (·.stuckAt w held)).raiseBlocked i := by
  unfold State.choice at h
  unfold State.startCorrecting
  simp only [Member.enter_correcting, h, State.modMember_modMember]
  rfl

/-! ### What the tests see of a moved member -/

section
variable {g : GroupNo} {f : Member → Member} (hi : s.groupOf i = some g)
include hi

theorem State.testsOf_modMember_settled (hf : (f (s.member i)).state = .inStep) (ht : (s.group g).state = .transition)
    (hw : ∀ j, j ≠ i → s.groupOf j = some g → (s.member j).state.working = false) :
    (((s.modMember i f).testsOf i).group g).state = .steady ∧ (((s.modMember i f).testsOf i).group g).ts = none := by
  refine State.testsOf_settled (s := s.modMember i f) hi ht fun j hj => ?_
  by_cases hji : j = i
  · rw [hji, State.member_modMember_self, hf]
    rfl
  · rw [State.member_modMember_ne _ _ _ _ hji]
    exact hw j hji hj

theorem State.testsOf_modMember_steered (hf : (f (s.member i)).state = .correcting)
    (hst : (s.group g).state = .transition ∨ (s.group g).state = .steady) :
    (((s.modMember i f).testsOf i).group g).state = .transition := by
  refine State.testsOf_steered (s := s.modMember i f) hi hst ?_
  rw [State.member_modMember_self, hf]
  rfl

end

/-! ### The outcomes of a transition start (R100 to R104) -/

section
variable {k : Nat} (hk : s.currentPlan i = some (k, x.plan)) (hx : s.measure i = some x)
include hk hx

/-- A member that the current plan does not suit. -/
theorem State.transitionStart_fails (hfit : s.stored.activation (s.member i) k = false) (hel : (s.member i).state.eligible = true) :
    s.stored.Fails i (s.member i) ((s.transitionStart i).member i) s.tref.e := by
  rw [State.transitionStart_unfit hk hx hfit]
  have hfails := State.failCheck_fails (s := s.modMember i fun m => (m.begun x.method).clearTransition) (i := i)
    (by rw [State.member_modMember_self]; exact (congrArg MemberState.eligible (Member.begun_state (s.member i) x.method)).trans hel)
    (.inr (by rw [State.member_modMember_self]; exact Member.clearTransition_noTransition _))
  refine hfails.of_count ?_
  rw [State.member_modMember_self]
  exact Member.begun_count (s.member i) x.method

variable (hfit : s.stored.activation (s.member i) k = true)
include hfit

theorem State.transitionStart_near (hnear : withinTol x.err s.stored.params.tol = true) :
    s.transitionStart i = (s.modMember i fun m => (m.started x).inStepNow).testsOf i := by
  rw [State.transitionStart_fit hk hx hfit, if_pos hnear]

variable (hfar : withinTol x.err s.stored.params.tol = false)
include hfar

theorem State.transitionStart_go {d : Direction} {n : Nat} (h : wayOf (s.choice x x.method) = .go d n) :
    s.transitionStart i = (s.modMember i fun m =>
      (m.started x).steered x x.method (s.limits x x.method) d n s.stored.params.grace).testsOf i := by
  rw [State.transitionStart_fit hk hx hfit, if_neg (by rw [hfar]; exact Bool.false_ne_true),
    State.startCorrecting_go (s := s.modMember i (·.started x)) h, State.modMember_modMember]
  rfl

theorem State.transitionStart_blocked {held : Option Nat} (h : wayOf (s.choice x x.method) = .blocked held) :
    s.transitionStart i = ((s.modMember i fun m => (m.started x).stuckAt x.method held).raise i .transitionBlocked).testsOf i := by
  rw [State.transitionStart_fit hk hx hfit, if_neg (by rw [hfar]; exact Bool.false_ne_true),
    State.startCorrecting_blocked (s := s.modMember i (·.started x)) h, State.modMember_modMember, State.raiseBlocked, if_neg]
  rw [State.member_modMember_self]
  exact Bool.false_ne_true

end

/-- TRANSITION_BLOCKED has been raised for member `m` with no direction, and has made it `n` (R102). -/
def Member.Blocks (m n : Member) (p : Policy) : Prop :=
  (n.faults.get .transitionBlocked).count = count8 (m.faults.get .transitionBlocked).count ∧ n.state = p.leaves .correcting

theorem Member.raised_blocks {m b : Member} (hst : b.state = .correcting)
    (hc : (b.faults.get .transitionBlocked).count = (m.faults.get .transitionBlocked).count) (p : Policy)
    (cause : Option MissCause) (reason : Option Nat) (o : Option StandingOrder) :
    m.Blocks (b.raised .transitionBlocked p cause reason o) p :=
  ⟨by rw [Member.raised_count, hc], by rw [Member.raised_state _ _ _ _ _ _ (by rw [hst]; rfl), hst]⟩

/-! ### Completion and recomputation (R109 to R112) -/

/-- Whether a recomputation chooses again (R109, R110). -/
def State.Rechooses (s : State) (m : Member) (x : Measured) : Prop :=
  m.direction = .none ∨ m.remaining + s.stored.params.tol < remainingOf m.direction x.advance x.plan.cycle
    ∨ limitOf m.direction (s.limits x (m.method.getD .delay)).1 (s.limits x (m.method.getD .delay)).2 = 0

theorem State.redirect_kept (h : ¬ s.Rechooses (s.member i) x) :
    s.redirect i x = s.modMember i fun m => m.correct m.direction x.advance x.plan.cycle
      (s.limits x ((s.member i).method.getD .delay)).1 (s.limits x ((s.member i).method.getD .delay)).2 := by
  unfold State.redirect
  refine if_neg ?_
  simpa [State.Rechooses, State.limits, or_assoc] using h

section
variable (h : s.Rechooses (s.member i) x)
include h

theorem State.redirect_go {d : Direction} {n : Nat}
    (hway : wayOf (s.choice x ((s.member i).method.getD .delay)) = .go d n) :
    s.redirect i x = s.modMember i fun _ =>
      { ((s.member i).clearCond .transitionBlocked).correct d x.advance x.plan.cycle (s.limits x ((s.member i).method.getD .delay)).1
          (s.limits x ((s.member i).method.getD .delay)).2 with
        expected := some n
        deadline := some ((s.member i).deadline.getD ((s.member i).observed + n + s.stored.params.grace)) } := by
  simp only [State.choice, State.limits] at hway
  unfold State.redirect
  refine (if_pos ?_).trans ?_
  · simpa [State.Rechooses, State.limits, or_assoc] using h
  · simp only [State.limits, hway]
    rfl

theorem State.redirect_blocked {held : Option Nat}
    (hway : wayOf (s.choice x ((s.member i).method.getD .delay)) = .blocked held) :
    s.redirect i x = (s.modMember i (·.block held)).raiseBlocked i := by
  simp only [State.choice, State.limits] at hway
  unfold State.redirect
  refine (if_pos ?_).trans ?_
  · simpa [State.Rechooses, State.limits, or_assoc] using h
  · simp only [hway]

end

/-- The deadline of a member has been reached while it is not late (R112). -/
def Member.Overdue (m : Member) (deadline : Option Nat) (observed : Nat) : Prop :=
  m.late = false ∧ ∃ n, deadline = some n ∧ n ≤ observed

/-- What the deadline test leaves of a member `m` that is given a direction and becomes `n` (R103, R112). -/
def Member.Course (m n : Member) (p : Policy) (observed : Nat) (x : Measured) (limits : Nat × Nat) (count : Option Nat)
    (d : Direction) (expected deadline : Option Nat) : Prop :=
  (m.Overdue deadline observed →
      (n.faults.get .transitionLate).count = count8 (m.faults.get .transitionLate).count ∧ n.state = p.leaves .correcting)
    ∧ (¬ m.Overdue deadline observed → n.faults.get .transitionLate = m.faults.get .transitionLate)
    ∧ (¬ m.Overdue deadline observed ∨ (p = .off ∨ p = .reportOnly) →
        n.Steered x limits count d expected deadline ∧ (n.late = true ↔ m.late = true ∨ m.Overdue deadline observed))

section
variable {m : Member} {limits : Nat × Nat} {count : Option Nat} {d : Direction} {expected deadline : Option Nat}

theorem State.deadlineTest_late (hst : (s.member i).state = .correcting)
    (h : (s.member i).Overdue (s.member i).deadline (s.member i).observed) :
    ∃ o, (s.deadlineTest i).member i
      = Member.raised { s.member i with late := true } .transitionLate (s.stored.policies.get .transitionLate).policy none none o := by
  obtain ⟨hlate, n, hn, hle⟩ := h
  unfold State.deadlineTest
  rw [if_pos ⟨hst, hlate, by rw [hn]; exact decide_eq_true hle⟩, State.raise_member, State.member_modMember_self]
  exact ⟨_, rfl⟩

theorem State.deadlineTest_kept
    (h : ¬ ((s.member i).state = .correcting ∧ (s.member i).Overdue (s.member i).deadline (s.member i).observed)) :
    s.deadlineTest i = s := by
  unfold State.deadlineTest
  refine if_neg fun ⟨hst, hlate, hdue⟩ => h ⟨hst, hlate, ?_⟩
  simpa [Option.any_eq_true] using hdue

/-- The deadline test of a member that has been given a direction. -/
theorem State.deadlineTest_course {n : Member} {observed : Nat} (hn : s.member i = n) (ho : n.observed = observed)
    (hs : n.Steered x limits count d expected deadline)
    (hl : n.late = m.late) (hf : n.faults.get .transitionLate = m.faults.get .transitionLate) :
    m.Course ((s.deadlineTest i).member i) (s.stored.policies.get .transitionLate).policy observed x limits count d
      expected deadline := by
  subst hn ho
  obtain ⟨hst, -, -, -, -, -, -, hdl⟩ := id hs
  have hdue : (s.member i).Overdue (s.member i).deadline (s.member i).observed ↔ m.Overdue deadline (s.member i).observed := by
    rw [Member.Overdue, Member.Overdue, hl, hdl]
  by_cases h : m.Overdue deadline (s.member i).observed
  · obtain ⟨o, ho⟩ := State.deadlineTest_late hst (hdue.mpr h)
    rw [ho]
    refine ⟨fun _ => ⟨?_, ?_⟩, fun hn => absurd h hn, fun hmild => ?_⟩
    · rw [Member.raised_count]
      exact congrArg (count8 ·.count) hf
    · rw [Member.raised_state]
      · exact congrArg _ hst
      · show (s.member i).state.taken = true
        rw [hst]
        rfl
    · rw [Member.raised_mild _ _ _ _ _ _ (hmild.resolve_left (not_not_intro h))]
      exact ⟨hs, fun _ => .inr h, fun _ => rfl⟩
  · rw [State.deadlineTest_kept fun hn => h (hdue.mp hn.2)]
    exact ⟨fun hn => absurd hn h, fun _ => hf, fun _ => ⟨hs, by rw [hl]; exact ⟨.inl, fun hn => hn.resolve_right h⟩⟩⟩

end

/-! ### The outcomes of a recomputation (R109, R110) -/

theorem State.redirect_raised {held : Option Nat} (h : s.Rechooses (s.member i) x)
    (hway : wayOf (s.choice x ((s.member i).method.getD .delay)) = .blocked held)
    (hno : ((s.member i).faults.get .transitionBlocked).standing = false) :
    s.redirect i x = (s.modMember i (·.block held)).raise i .transitionBlocked := by
  rw [State.redirect_blocked h hway, State.raiseBlocked, if_neg]
  rw [State.member_modMember_self]
  exact Bool.eq_false_iff.mp hno

section
variable {m : Member} (hst : (s.member i).state = .correcting) (herr : (s.member i).error = some x.err)
  (hl : (s.member i).late = m.late) (hf : (s.member i).faults.get .transitionLate = m.faults.get .transitionLate)
include hst herr hl hf

theorem State.redirect_kept_course (h : ¬ s.Rechooses (s.member i) x) :
    m.Course (((s.redirect i x).deadlineTest i).member i) (s.stored.policies.get .transitionLate).policy (s.member i).observed x
      (s.limits x ((s.member i).method.getD .delay)) (s.member i).count (s.member i).direction (s.member i).expected
      (s.member i).deadline := by
  rw [State.redirect_kept h]
  exact State.deadlineTest_course (State.member_modMember_self _ _ _) rfl ⟨hst, herr, rfl, rfl, rfl, rfl, rfl, rfl⟩ hl hf

variable (h : s.Rechooses (s.member i) x)
include h

theorem State.redirect_go_course {d : Direction} {n : Nat} (hway : wayOf (s.choice x ((s.member i).method.getD .delay)) = .go d n) :
    m.Course (((s.redirect i x).deadlineTest i).member i) (s.stored.policies.get .transitionLate).policy (s.member i).observed x
      (s.limits x ((s.member i).method.getD .delay)) (s.member i).count d (some n)
      (some ((s.member i).deadline.getD ((s.member i).observed + n + s.stored.params.grace))) := by
  rw [State.redirect_go h hway]
  exact State.deadlineTest_course (State.member_modMember_self _ _ _) rfl ⟨hst, herr, rfl, rfl, rfl, rfl, rfl, rfl⟩ hl hf

variable {held : Option Nat} (hway : wayOf (s.choice x ((s.member i).method.getD .delay)) = .blocked held)
  (hno : ((s.member i).faults.get .transitionBlocked).standing = false)
include hway hno

theorem State.redirect_mild_course
    (hmild : (s.stored.policies.get .transitionBlocked).policy = .off ∨ (s.stored.policies.get .transitionBlocked).policy = .reportOnly) :
    m.Course (((s.redirect i x).deadlineTest i).member i) (s.stored.policies.get .transitionLate).policy (s.member i).observed x
      (s.limits x ((s.member i).method.getD .delay)) (s.member i).count .none held (s.member i).deadline := by
  rw [State.redirect_raised h hway hno]
  have hn : ((s.modMember i (·.block held)).raise i .transitionBlocked).member i
      = ((s.member i).block held).recordRaise .transitionBlocked (s.stored.policies.get .transitionBlocked).policy none none := by
    rw [State.raise_member, State.member_modMember_self]
    exact Member.raised_mild _ _ _ _ _ _ hmild
  have hst' := ((s.modMember i (·.block held)).raise_works i .transitionBlocked none none).stored_eq
  have hcourse := State.deadlineTest_course (m := m) (limits := s.limits x ((s.member i).method.getD .delay)) hn rfl
    ⟨hst, herr, rfl, rfl, rfl, rfl, rfl, rfl⟩ hl hf
  rwa [hst'] at hcourse

end

/-- The deadline test raises nothing more than TRANSITION_LATE. -/
theorem State.deadlineTest_count {c : FaultClass} (hc : c ≠ .transitionLate) :
    (((s.deadlineTest i).member i).faults.get c).count = ((s.member i).faults.get c).count := by
  by_cases h : (s.member i).state = .correcting ∧ (s.member i).Overdue (s.member i).deadline (s.member i).observed
  · obtain ⟨o, ho⟩ := State.deadlineTest_late h.1 h.2
    rw [ho, Member.raised_count_ne _ _ _ _ _ _ hc]
  · rw [State.deadlineTest_kept h]

section
variable {k : Nat}

theorem State.recompute_fails (hfit : s.stored.activation (s.member i) k = false) (hst : (s.member i).state = .correcting) :
    s.stored.Fails i (s.member i) ((s.recompute i k x).member i) s.tref.e := by
  rw [State.recompute, if_neg (by rw [hfit]; exact Bool.false_ne_true)]
  exact State.failCheck_fails (by rw [hst]; rfl) (.inl (by rw [hst]; rfl))

theorem State.recompute_fit (hfit : s.stored.activation (s.member i) k = true) :
    s.recompute i k x = ((s.clearCond i .capability).redirect i x).deadlineTest i := by
  rw [State.recompute, if_pos hfit]

theorem State.clearCond_member (c : FaultClass) : (s.clearCond i c).member i = (s.member i).clearCond c :=
  State.member_modMember_self _ _ _

variable (hfit : s.stored.activation (s.member i) k = true) (hst : (s.member i).state = .correcting)
  (herr : (s.member i).error = some x.err)
include hfit hst herr

theorem State.recompute_kept (h : ¬ s.Rechooses (s.member i) x) :
    (s.member i).Course ((s.recompute i k x).member i) (s.stored.policies.get .transitionLate).policy (s.member i).observed x
      (s.limits x ((s.member i).method.getD .delay)) (s.member i).count (s.member i).direction (s.member i).expected
      (s.member i).deadline := by
  have hcourse := State.redirect_kept_course (s := s.clearCond i .capability) (i := i) (x := x) (m := s.member i)
  rw [State.clearCond_member] at hcourse
  rw [State.recompute_fit hfit]
  exact hcourse hst herr rfl rfl h

variable (h : s.Rechooses (s.member i) x)
include h

theorem State.recompute_go {d : Direction} {n : Nat} (hway : wayOf (s.choice x ((s.member i).method.getD .delay)) = .go d n) :
    (s.member i).Course ((s.recompute i k x).member i) (s.stored.policies.get .transitionLate).policy (s.member i).observed x
      (s.limits x ((s.member i).method.getD .delay)) (s.member i).count d (some n)
      (some ((s.member i).deadline.getD ((s.member i).observed + n + s.stored.params.grace))) := by
  have hcourse := State.redirect_go_course (s := s.clearCond i .capability) (i := i) (x := x) (m := s.member i)
    (d := d) (n := n)
  rw [State.clearCond_member] at hcourse
  rw [State.recompute_fit hfit]
  exact hcourse hst herr rfl rfl h hway

variable {held : Option Nat} (hway : wayOf (s.choice x ((s.member i).method.getD .delay)) = .blocked held)
  (hno : ((s.member i).faults.get .transitionBlocked).standing = false)
include hway hno

theorem State.recompute_mild
    (hmild : (s.stored.policies.get .transitionBlocked).policy = .off ∨ (s.stored.policies.get .transitionBlocked).policy = .reportOnly) :
    (s.member i).Course ((s.recompute i k x).member i) (s.stored.policies.get .transitionLate).policy (s.member i).observed x
      (s.limits x ((s.member i).method.getD .delay)) (s.member i).count .none held (s.member i).deadline := by
  have hcourse := State.redirect_mild_course (s := s.clearCond i .capability) (i := i) (x := x) (m := s.member i) (held := held)
  rw [State.clearCond_member] at hcourse
  rw [State.recompute_fit hfit]
  exact hcourse hst herr rfl rfl h hway hno hmild

omit hst herr in
/-- A member blocked at a recomputation, before the deadline test. -/
theorem State.recompute_blocked :
    ∃ (u : State) (o : Option StandingOrder), s.recompute i k x = u.deadlineTest i
      ∧ u.member i = (((s.member i).clearCond .capability).block held).raised .transitionBlocked
          (s.stored.policies.get .transitionBlocked).policy none none o := by
  have hraised := State.redirect_raised (s := s.clearCond i .capability) (i := i) (x := x) (held := held)
  have hmember := State.raise_member ((s.clearCond i .capability).modMember i (·.block held)) i .transitionBlocked none none
  rw [State.clearCond_member] at hraised
  rw [State.member_modMember_self, State.clearCond_member] at hmember
  exact ⟨_, _, (State.recompute_fit hfit).trans (congrArg (State.deadlineTest · i) (hraised h hway hno)), hmember⟩

omit hst herr in
theorem State.recompute_blocked_count :
    (((s.recompute i k x).member i).faults.get .transitionBlocked).count
      = count8 ((s.member i).faults.get .transitionBlocked).count := by
  obtain ⟨u, o, hu, hm⟩ := State.recompute_blocked hfit h hway hno
  rw [hu, State.deadlineTest_count (by decide), hm, Member.raised_count]
  rfl

omit herr in
theorem State.recompute_blocked_state
    (hmild : ¬ ((s.stored.policies.get .transitionBlocked).policy = .off
      ∨ (s.stored.policies.get .transitionBlocked).policy = .reportOnly)) :
    ((s.recompute i k x).member i).state = (s.stored.policies.get .transitionBlocked).policy.leaves .correcting := by
  obtain ⟨u, o, hu, hm⟩ := State.recompute_blocked hfit h hway hno
  have hleft : (u.member i).state = (s.stored.policies.get .transitionBlocked).policy.leaves .correcting := by
    have hb : (((s.member i).clearCond .capability).block held).state = .correcting := hst
    rw [hm, Member.raised_state _ _ _ _ _ _ (by rw [hb]; rfl), hb]
  rw [hu, State.deadlineTest_kept, hleft]
  rw [hleft]
  intro hn
  generalize (s.stored.policies.get .transitionBlocked).policy = p at hmild hn
  cases p with
  | off => exact hmild (.inl rfl)
  | reportOnly => exact hmild (.inr rfl)
  | recovering => cases hn.1
  | latched => cases hn.1

end

/-! ### The steps of a coordinated member (R106) -/

section
variable {g : GroupNo} (hi : s.groupOf i = some g)
include hi

theorem State.measure_eq {q : Plan} {cap : Capability} {pos : Nat} (hq : s.stored.plan (s.group g).current = some q)
    (hcap : (s.member i).capability = some cap) (hpos : (s.member i).position = some pos) :
    s.currentPlan i = some ((s.group g).current, q) ∧ s.measure i = some
      ⟨q, cap, advanceOf s.tref.e (s.stored.offset (s.group g).current i) q.cycle pos cap.step⟩ := by
  have hk : s.currentPlan i = some ((s.group g).current, q) := by
    rw [State.currentPlan, hi]
    simp only [hq]
  refine ⟨hk, ?_⟩
  rw [State.measure, hk, hcap, hpos]

theorem State.follow_lost {b : Bool} (h : (s.member i).running ≠ some (s.group g).current) : s.follow i b = s.planLost i := by
  rw [State.follow, hi]
  exact if_pos h

variable (hrun : (s.member i).running = some (s.group g).current)
include hrun

theorem State.follow_resync {b : Bool} (h : (s.member i).resync = true) : s.follow i b = s.transitionStart i := by
  rw [State.follow, hi]
  exact (if_neg (not_not_intro hrun)).trans (if_pos h)

theorem State.follow_measured {b : Bool} (h : (s.member i).resync = false) (hx : s.measure i = some x) :
    s.follow i b = (if (s.member i).state = .inStep then
        (if withinTol x.err s.stored.params.tol then s.modMember i fun m => { m with error := some x.err }
          else (s.modMember i fun m => { m with error := some x.err }).transitionStart i)
      else if withinTol x.err s.stored.params.tol then (s.modMember i fun m => { m with error := some x.err }).complete i
      else if b then (s.modMember i fun m => { m with error := some x.err }).recompute i (s.group g).current x
      else s.modMember i fun m => { m with error := some x.err }) := by
  rw [State.follow, hi]
  refine (if_neg (not_not_intro hrun)).trans ((if_neg (by rw [h]; exact Bool.false_ne_true)).trans ?_)
  rw [hx]

end

end

end Sys2Proof.Machine
end

section
/-! SUPPORT. The good replies of a member for whom no condition and no alert stands, by their kind (R77, R78, R82, R83, R106, R126). -/

namespace Sys2Proof.Machine

/-! ### Closing a command -/

theorem State.choose_queue (s : State) (l k : SegNo) : ((s.choose l).segment k).queue = (s.segment k).queue := by
  unfold State.choose
  split
  · split
    · rw [State.segment_modSegment]
      split
      next h => rw [h]
      next => rfl
    · rfl
  · rfl

theorem State.settle_queue (s : State) (k : SegNo) : (s.settle.segment k).queue = (s.segment k).queue := by
  have hchoose (l : List SegNo) : ∀ u : State, ((l.foldl State.choose u).segment k).queue = (u.segment k).queue := by
    induction l with
    | nil => exact fun _ => rfl
    | cons a l ih => exact fun u => (ih _).trans (u.choose_queue a k)
  rw [State.settle, State.segment, State.pump_segments]
  exact hchoose allSegs s

theorem State.settle_group (s : State) (g : GroupNo) : s.settle.group g = s.group g := by
  rw [State.group, s.settle_groups]
  rfl

theorem State.settle_poll (s : State) (i : Ix) : s.settle.poll i = s.poll i := by
  rw [State.poll, s.settle_polls]
  rfl

/-! ### What stands beside a member -/

/-- Time, tables, groups and the records of all but member `i` are the same. -/
structure Beside (i : Ix) (s t : State) : Prop where
  stored : t.stored = s.stored
  tref : t.tref = s.tref
  groups : t.groups = s.groups
  members : ∀ j, j ≠ i → t.member j = s.member j

section
variable {s t u : State} {i : Ix} {k : SegNo}

theorem Beside.trans (h1 : Beside i s t) (h2 : Beside i t u) : Beside i s u :=
  ⟨h2.stored.trans h1.stored, h2.tref.trans h1.tref, h2.groups.trans h1.groups,
    fun j hj => (h2.members j hj).trans (h1.members j hj)⟩

theorem Beside.of_upon (h : Upon (· = i) s t) : Beside i s t := ⟨h.stored, h.tref, h.groups, h.members⟩

theorem Received.beside (h : Received k s t) (i : Ix) : Beside i s t := ⟨h.stored, h.tref, h.groups, fun j _ => h.member j⟩

theorem Beside.group (h : Beside i s t) (g : GroupNo) : t.group g = s.group g := by
  rw [State.group, h.groups]
  rfl

theorem Beside.groupOf (h : Beside i s t) (j : Ix) : t.groupOf j = s.groupOf j := by
  rw [State.groupOf, h.stored]
  rfl

theorem Beside.place (h : Beside i s t) (j : Ix) : t.place j = s.place j := by
  rw [State.place, h.stored]
  rfl

/-- What the limits of a measurement depend on. -/
theorem Beside.limits (h : Beside i s t) (x : Measured) (w : Method) : t.limits x w = s.limits x w := by
  rw [State.limits, h.stored]
  rfl

/-! ### The steps common to every reply, of a member with no condition -/

/-- The record of a member after the steps common to every POLL reply (R93, R128, R129). -/
def Stored.polled (t : Stored) (m : Member) (p : PollReply) : Member := (t.takePoll m p).heardFrom (.poll p) t.params.deglitch

theorem Member.newCycle_iff (m : Member) (n : Nat) : m.newCycle n = true ↔ ∃ c, m.count = some c ∧ c ≠ n := by
  unfold Member.newCycle
  cases m.count with
  | none => simp
  | some c => simp

theorem State.goodReply_poll {x : InFlight} {p : PollReply} (hm : (s.member i).Calm) (hr : (GoodReply.poll p).Quiet) :
    s.goodReply i k x (.poll p)
      = (s.modMember i (s.stored.polled · p)).handlePoll i ((s.member i).newCycle p.count) := by
  show ((s.modMember i fun m => s.stored.takePoll m p).commonSteps i (.poll p)).handlePoll i _ = _
  rw [State.commonSteps_calm (by rw [State.member_modMember_self]; exact hm) hr, State.modMember_modMember]
  rfl

theorem State.goodReply_order {x : InFlight} {a : OrderReply} {oid : Nat} {pay : OrderPayload} (hm : (s.member i).Calm)
    (hr : (GoodReply.order a).Quiet) (hb : x.body = .order oid pay) :
    s.goodReply i k x (.order a)
      = (s.modMember i (·.heardFrom (.order a) s.stored.params.deglitch)).handleOrder i k x oid a := by
  rw [State.goodReply]
  simp only [hb]
  rw [State.commonSteps_calm hm hr]

theorem State.endCond_calm {c : FaultClass} (h : ((s.member i).faults.get c).standing = false) : s.endCond i c = s := by
  unfold State.endCond
  exact if_neg (Bool.eq_false_iff.mp h)

/-! ### Switching (R82, R83) -/

section
variable {g : GroupNo} {o : StandingOrder} {run pos : Nat} (hi : s.groupOf i = some g) (ho : (s.member i).standingOrder = some o)
  (hrun : (s.member i).running = some run) (hpos : (s.member i).position = some pos)

/-- The switching test of R82. -/
def State.Switches (s : State) (g : GroupNo) (o : StandingOrder) (run pos : Nat) : Prop :=
  ((s.group g).state = .transition ∨ (s.group g).state = .steady) ∧ o.payload.plan = run ∧ o.payload.tm + pos ≤ s.tref.e

/-- A delivered order is seen unswitched (R83). -/
def State.Unswitched (s : State) (o : StandingOrder) (run pos : Nat) : Prop :=
  o.outcome = .delivered ∧ o.payload.plan ≠ run ∧ o.payload.tm + pos ≤ s.tref.e

include hi ho hrun hpos in
theorem State.switchTest_iff : s.switchTest i = true ↔ s.Switches g o run pos := by
  rw [State.switchTest, ho, hi]
  simp only [State.begunSince, hrun, hpos, State.Switches, Bool.and_eq_true, Bool.or_eq_true, decide_eq_true_eq, Option.some.injEq,
    eq_comm (a := run), and_assoc]

theorem State.switchingTests_ordered (hst : (s.member i).state = .ordered)
    (hno : ((s.member i).faults.get .orderMissed).standing = false) :
    s.switchingTests i = if s.switchTest i then s.switchMember i else s.notSwitched i := by
  unfold State.switchingTests
  rw [State.endCond_calm hno, ite_self]
  simp only [hst, true_and]

include ho hrun hpos in
theorem State.notSwitched_kept (h : ¬ s.Unswitched o run pos) : s.notSwitched i = s := by
  unfold State.notSwitched
  rw [ho]
  refine if_neg fun ⟨_, hout, hother, hbegun, _⟩ => h ⟨hout, fun hp => hother (by rw [hrun, hp]), ?_⟩
  rw [State.begunSince, hpos] at hbegun
  exact of_decide_eq_true hbegun

include ho hrun hpos in
/-- The delivered order is queued again and ORDER_MISSED raised. -/
theorem State.notSwitched_raises (hst : (s.member i).state = .ordered)
    (hno : ((s.member i).faults.get .orderMissed).standing = false) (h : s.Unswitched o run pos) {d : Drop}
    (hplace : s.place i = some ⟨k, d⟩) :
    s.notSwitched i = (((s.dropOrder i).modSegment k (·.join s.tref.e i (.order o.oid o.payload))).modMember i fun m =>
      { m with order := some { o with outcome := .owed } }).raise i .orderMissed (some .notSwitched) := by
  obtain ⟨hout, hplan, hbegun⟩ := h
  have hother : (s.member i).running ≠ some o.payload.plan := by
    rw [hrun]
    exact fun hn => hplan (Option.some.inj hn).symm
  have hsince : s.begunSince i o.payload.tm = true := by
    rw [State.begunSince, hpos]
    exact decide_eq_true hbegun
  unfold State.notSwitched
  rw [ho]
  refine (if_pos ⟨hst, hout, hother, hsince, hno⟩).trans ?_
  rw [hplace]

end

theorem State.raise_segments {c : FaultClass} {cause : Option MissCause} {reason : Option Nat}
    (h : (s.stored.policies.get c).policy ≠ .latched) : (s.raise i c cause reason).segments = s.segments := by
  have hreported : (s.reported i c cause reason).segments = s.segments := by
    rw [State.reported, State.told_eq]
    rfl
  have hexclude (u : State) : (u.exclude i).segments = u.segments := by
    rw [State.exclude_eq]
    split <;> rfl
  rw [State.raise_eq]
  cases hp : (s.stored.policies.get c).policy with
  | off => exact hreported
  | reportOnly => exact hreported
  | recovering => exact (State.testsOf_segments _ _).trans ((hexclude _).trans hreported)
  | latched => exact absurd hp h

theorem Segment.mem_join (r : Segment) (e : Nat) (i : Ix) (b : TxnBody) : ⟨b, i, e, r.nextSeq⟩ ∈ (r.join e i b).queue :=
  mem_insertTxn.mpr (.inl rfl)

/-! ### A POLL reply handled (R93, R106) -/

/-- A POLL reply of a member with no condition has entered its record, and its member is to move on. -/
structure Polled (k : SegNo) (i : Ix) (p : PollReply) (s w : State) : Prop extends Beside i s w where
  member : w.member i = s.stored.polled (s.member i) p
  nextSeq : (w.segment k).nextSeq = (s.segment k).nextSeq

theorem Received.polled {x : InFlight} {p : PollReply} (h : Received k s u) (hm : (s.member i).Calm) (hr : (GoodReply.poll p).Quiet) :
    ∃ w, Polled k i p s w ∧ u.goodReply i k x (.poll p) = w.handlePoll i ((s.member i).newCycle p.count) := by
  refine ⟨u.modMember i (u.stored.polled · p), ⟨(h.beside i).trans (.of_upon (.modMember _ _ _)), ?_, h.nextSeq⟩, ?_⟩
  · rw [State.member_modMember_self, h.stored, h.member]
  · rw [State.goodReply_poll (by rw [h.member]; exact hm) hr, h.member]

/-- The position of a POLL reply as it is stored (R128). -/
def Stored.posOf (t : Stored) (p : PollReply) : Nat := t.clampPosition p.running p.position

section
variable {w : State} {p : PollReply} (hw : Polled k i p s w)
include hw

theorem Polled.state : (w.member i).state = (s.member i).state := by
  rw [hw.member]
  rfl

theorem Polled.orderOf : (w.member i).order = (s.member i).order := by
  rw [hw.member]
  rfl

theorem Polled.standingOrder {o : StandingOrder} (ho : (s.member i).order = some o) (hk : o.kind = .order) :
    (w.member i).standingOrder = some o := by
  rw [Member.standingOrder, hw.orderOf, ho, Option.filter_some, if_pos (decide_eq_true hk)]

theorem Polled.faults : (w.member i).faults = (s.member i).faults := by
  rw [hw.member]
  rfl

theorem Polled.running : (w.member i).running = some p.running := by
  rw [hw.member]
  rfl

theorem Polled.position : (w.member i).position = some (s.stored.posOf p) := by
  rw [hw.member]
  rfl

theorem Polled.capability : (w.member i).capability = (s.member i).capability := by
  rw [hw.member]
  rfl

theorem Polled.resync : (w.member i).resync = (s.member i).resync := by
  rw [hw.member]
  rfl

theorem Polled.calm (hm : (s.member i).Calm) (c : FaultClass) : ((w.member i).faults.get c).standing = false := by
  rw [hw.faults]
  exact hm.1 c

theorem Polled.handle_idle {b : Bool} (h : (s.member i).state = .unknown ∨ (s.member i).state = .free ∨ (s.member i).state = .latched
    ∨ (s.member i).state = .offline) : w.handlePoll i b = w := by
  rw [← hw.state] at h
  rcases h with h | h | h | h <;> simp only [State.handlePoll, h]

theorem Polled.handle_follow {b : Bool} (h : (s.member i).state = .correcting ∨ (s.member i).state = .inStep) :
    w.handlePoll i b = w.follow i b := by
  rw [← hw.state] at h
  rcases h with h | h <;> simp only [State.handlePoll, h]

theorem Polled.handle_ordered {b : Bool} (h : (s.member i).state = .ordered) (hm : (s.member i).Calm) :
    w.handlePoll i b = if w.switchTest i then w.switchMember i else w.notSwitched i := by
  rw [← hw.state] at h
  rw [← State.switchingTests_ordered h (hw.calm hm .orderMissed)]
  simp only [State.handlePoll, h]

/-! ### ORDERED members (R82, R83) -/

section
variable {g : GroupNo} {o : StandingOrder} (hi : s.groupOf i = some g) (hm : (s.member i).Calm) (hst : (s.member i).state = .ordered)
  (ho : (s.member i).order = some o) (hk : o.kind = .order)
include hi hm hst ho hk

omit hm hst in
theorem Polled.switchTest_iff : w.switchTest i = true ↔ s.Switches g o p.running (s.stored.posOf p) := by
  rw [State.switchTest_iff ((hw.groupOf i).trans hi) (hw.standingOrder ho hk) hw.running hw.position, State.Switches, State.Switches,
    hw.group, hw.tref]

theorem Polled.handle_switch {b : Bool} (h : s.Switches g o p.running (s.stored.posOf p)) :
    w.handlePoll i b = w.switchMember i := by
  rw [hw.handle_ordered hst hm, if_pos ((hw.switchTest_iff hi ho hk).mpr h)]

theorem Polled.handle_unswitched {b : Bool} (h : ¬ s.Switches g o p.running (s.stored.posOf p)) :
    w.handlePoll i b = w.notSwitched i := by
  rw [hw.handle_ordered hst hm, if_neg (mt (hw.switchTest_iff hi ho hk).mp h)]

/-- An order that is neither switched to nor missed stands on. -/
theorem Polled.handle_waits {b : Bool} (h : ¬ s.Switches g o p.running (s.stored.posOf p))
    (h' : ¬ s.Unswitched o p.running (s.stored.posOf p)) : w.handlePoll i b = w := by
  rw [hw.handle_unswitched hi hm hst ho hk h, State.notSwitched_kept (hw.standingOrder ho hk) hw.running hw.position]
  rw [State.Unswitched, hw.tref]
  exact h'

/-- An order seen unswitched is raised as missed, and queued again (R83). -/
theorem Polled.handle_missed {b : Bool} {d : Drop} (hp : s.place i = some ⟨k, d⟩)
    (h : s.Unswitched o p.running (s.stored.posOf p)) :
    ∃ v : State, w.handlePoll i b = v.raise i .orderMissed (some .notSwitched)
      ∧ v.member i = { s.stored.polled (s.member i) p with order := some { o with outcome := .owed } }
      ∧ v.stored = s.stored ∧ ⟨.order o.oid o.payload, i, s.tref.e, (s.segment k).nextSeq⟩ ∈ (v.segment k).queue := by
  have hno : ¬ s.Switches g o p.running (s.stored.posOf p) := fun hs => h.2.1 hs.2.1
  have hplace : w.place i = some ⟨k, d⟩ := (hw.place i).trans hp
  have hdrop : w.dropOrder i = w.modSegment k (·.dropOrder i) := by rw [State.dropOrder, hplace]
  have hunswitched : w.Unswitched o p.running (s.stored.posOf p) := by
    rw [State.Unswitched, hw.tref]
    exact h
  have hraised := State.notSwitched_raises (hw.standingOrder ho hk) hw.running hw.position (hw.state.trans hst)
    (hw.calm hm .orderMissed) hunswitched hplace
  refine ⟨_, (hw.handle_unswitched hi hm hst ho hk hno).trans hraised, ?_, ?_, ?_⟩
  · rw [State.member_modMember_self, hdrop, ← hw.member]
    rfl
  · rw [hdrop]
    exact hw.stored
  · rw [hdrop, State.segment, State.modMember_segments, ← State.segment, State.segment_modSegment_self, State.segment_modSegment_self,
      ← hw.nextSeq, ← hw.tref]
    exact Segment.mem_join ((w.segment k).dropOrder i) _ _ _

end

end

end

end Sys2Proof.Machine
end

section
/-! SUPPORT. Coordinated members at a POLL reply, by what they report: a lost plan, a transition start, a completion, a recomputation
(R104 to R112), each from the state before the reply. -/

namespace Sys2Proof.Machine

/-! ### Measurements at a reply (R95, R96) -/

/-- What a POLL reply has reported stands in the record of its member. -/
structure Reported (i : Ix) (p : PollReply) (s v : State) : Prop extends Beside i s v where
  reading : (v.member i).reading = (s.stored.polled (s.member i) p).reading

/-- The measurement of a member of group `g` with a reply's position, against a plan. -/
def State.measuredAt (s : State) (i : Ix) (g : GroupNo) (p : PollReply) (q : Plan) (cap : Capability) : Measured :=
  ⟨q, cap, advanceOf s.tref.e (s.stored.offset (s.group g).current i) q.cycle (s.stored.posOf p) cap.step⟩

section
variable {s v w : State} {i : Ix} {k : SegNo} {p : PollReply} {g : GroupNo} {q : Plan} {cap : Capability}

theorem Polled.reported (h : Polled k i p s w) : Reported i p s w := ⟨h.toBeside, by rw [h.member]⟩

theorem Reported.capability (h : Reported i p s v) : (v.member i).capability = (s.member i).capability :=
  congrArg Reading.capability h.reading

theorem Reported.count (h : Reported i p s v) : (v.member i).count = some p.count := congrArg Reading.count h.reading

theorem Reported.observed (h : Reported i p s v) : (v.member i).observed = (s.stored.polled (s.member i) p).observed :=
  congrArg Reading.observed h.reading

theorem Reported.activation (h : Reported i p s v) (plan : Nat) :
    v.stored.activation (v.member i) plan = s.stored.activation (s.member i) plan := by
  rw [h.stored]
  exact Stored.activation_congr _ _ h.capability

theorem Reported.choice (h : Reported i p s v) (x : Measured) (m : Method) : v.choice x m = s.choice x m := by
  rw [State.choice, State.choice, h.limits]

section
variable (hi : s.groupOf i = some g) (hq : s.stored.plan (s.group g).current = some q) (hcap : (s.member i).capability = some cap)
include hi hq hcap

theorem Reported.measure (h : Reported i p s v) :
    v.currentPlan i = some ((s.group g).current, (s.measuredAt i g p q cap).plan)
      ∧ v.measure i = some (s.measuredAt i g p q cap) := by
  have hm := State.measure_eq (s := v) (i := i) (g := g) (q := q) (cap := cap) (pos := s.stored.posOf p)
    ((h.groupOf i).trans hi) (by rw [h.group, h.stored]; exact hq) (h.capability.trans hcap)
    (congrArg Reading.position h.reading)
  rw [h.group, h.stored, h.tref] at hm
  exact hm

end

/-! ### Lost plans (R107) -/

section
variable {b : Bool} (hw : Polled k i p s w) (hi : s.groupOf i = some g)
  (hst : (s.member i).state = .correcting ∨ (s.member i).state = .inStep) (hrun : p.running ≠ (s.group g).current)
include hw hi hst hrun

theorem Polled.handle_lost : w.handlePoll i b = w.planLost i := by
  rw [hw.handle_follow hst, State.follow_lost ((hw.groupOf i).trans hi)]
  rw [hw.running, hw.group]
  exact fun h => hrun (Option.some.inj h)

theorem Polled.lost_ordered (hfit : s.stored.activation (s.member i) (s.group g).target = true) :
    s.stored.Ordered i ((w.handlePoll i b).member i) (s.group g).target (s.tref.e + s.leadDs)
      ∧ ((w.handlePoll i b).member i).NoTransition := by
  have h := State.planLost_ordered (s := w) (i := i) ((hw.groupOf i).trans hi)
  rw [hw.group, hw.reported.activation, hw.stored, hw.tref] at h
  rw [hw.handle_lost hi hst hrun]
  have hlead : w.leadDs = s.leadDs := by
    rw [State.leadDs, hw.stored]
    rfl
  rw [← hlead]
  exact h hfit

theorem Polled.lost_fails (hfit : s.stored.activation (s.member i) (s.group g).target = false) :
    s.stored.Fails i (s.member i) ((w.handlePoll i b).member i) s.tref.e := by
  have h := State.planLost_fails (s := w) (i := i) ((hw.groupOf i).trans hi)
  rw [hw.group, hw.reported.activation, hw.stored, hw.tref, hw.state] at h
  rw [hw.handle_lost hi hst hrun]
  exact (h hfit hst).of_count (by rw [hw.faults])

end

/-- The state with the signed error recorded (R106, step 4). -/
def State.erred (s : State) (i : Ix) (x : Measured) : State := s.modMember i fun m => { m with error := some x.err }

theorem State.erred_member (x : Measured) : (w.erred i x).member i = { w.member i with error := some x.err } :=
  State.member_modMember_self _ _ _

theorem Polled.erred (hw : Polled k i p s w) (x : Measured) : Reported i p s (w.erred i x) := by
  refine ⟨hw.toBeside.trans (.of_upon (.modMember _ _ _)), ?_⟩
  rw [State.erred_member, hw.member]
  rfl

/-! ### Transition starts (R104) -/

/-- The state from which the reply of a member starts its transition. -/
structure Starting (i : Ix) (p : PollReply) (s v : State) : Prop extends Reported i p s v where
  state : (v.member i).state = (s.member i).state
  eligible : (s.member i).state.eligible = true
  ends : Member.Ends (s.member i) (v.member i)
  order : (s.member i).state = .ordered → (v.member i).order = none

section
variable {b : Bool} (hw : Polled k i p s w)
include hw

theorem Polled.starting (hst : (s.member i).state = .correcting ∨ (s.member i).state = .inStep) : Starting i p s w := by
  refine ⟨hw.reported, hw.state, ?_, .of_faults hw.faults, fun h => ?_⟩
  · rcases hst with h | h <;> rw [h] <;> rfl
  · rcases hst with h' | h' <;> rw [h] at h' <;> cases h'

variable (hi : s.groupOf i = some g)
include hi

/-- A switch is a transition start (R82). -/
theorem Polled.switch_starts {o : StandingOrder} (hm : (s.member i).Calm) (hst : (s.member i).state = .ordered)
    (ho : (s.member i).order = some o) (hk : o.kind = .order) (h : s.Switches g o p.running (s.stored.posOf p)) :
    ∃ v, w.handlePoll i b = v.transitionStart i ∧ Starting i p s v := by
  have hupon := (State.clearOrder_upon w i).trans (State.dropOrder_upon (· = i) (w.clearOrder i) i)
  have hmember : ((w.clearOrder i).dropOrder i).member i = { (w.member i).clearCond .orderMissed with order := none } := by
    rw [← State.member_modMember_self w i fun m => { m.clearCond .orderMissed with order := none }]
    unfold State.dropOrder
    split <;> rfl
  refine ⟨_, hw.handle_switch hi hm hst ho hk h, ⟨hw.toBeside.trans (.of_upon hupon), ?_⟩, ?_, by rw [hst]; rfl, ?_, fun _ => ?_⟩
  · rw [hmember, hw.member]
    rfl
  · rw [hmember]
    exact hw.state
  · rw [hmember]
    exact ((Member.Ends.of_faults hw.faults).trans (Member.clearCond_ends _ .orderMissed)).trans (.of_faults rfl)
  · rw [hmember]

variable (hrun : p.running = (s.group g).current)
include hrun

omit hi in
theorem Polled.runs : (w.member i).running = some (w.group g).current := by
  rw [hw.running, hw.group, hrun]

theorem Polled.resync_starts (hst : (s.member i).state = .correcting ∨ (s.member i).state = .inStep)
    (h : (s.member i).resync = true) : w.handlePoll i b = w.transitionStart i := by
  rw [hw.handle_follow hst, State.follow_resync ((hw.groupOf i).trans hi) (hw.runs hrun) (hw.resync.trans h)]

variable (hq : s.stored.plan (s.group g).current = some q) (hcap : (s.member i).capability = some cap)
  (hres : (s.member i).resync = false)
include hq hcap hres

theorem Polled.follow_inStep (hst : (s.member i).state = .inStep) :
    w.handlePoll i b = if withinTol (s.measuredAt i g p q cap).err s.stored.params.tol then w.erred i (s.measuredAt i g p q cap)
      else (w.erred i (s.measuredAt i g p q cap)).transitionStart i := by
  rw [hw.handle_follow (.inr hst), State.follow_measured ((hw.groupOf i).trans hi) (hw.runs hrun) (hw.resync.trans hres)
    (hw.reported.measure hi hq hcap).2, if_pos (hw.state.trans hst), hw.stored]
  rfl

theorem Polled.follow_correcting (hst : (s.member i).state = .correcting) :
    w.handlePoll i b = if withinTol (s.measuredAt i g p q cap).err s.stored.params.tol
      then (w.erred i (s.measuredAt i g p q cap)).complete i
      else if b then (w.erred i (s.measuredAt i g p q cap)).recompute i (s.group g).current (s.measuredAt i g p q cap)
      else w.erred i (s.measuredAt i g p q cap) := by
  have hno : ¬ (w.member i).state = .inStep := by
    rw [hw.state, hst]
    exact nofun
  rw [hw.handle_follow (.inl hst), State.follow_measured ((hw.groupOf i).trans hi) (hw.runs hrun) (hw.resync.trans hres)
    (hw.reported.measure hi hq hcap).2, if_neg hno, hw.stored, hw.group]
  rfl

theorem Polled.drift_starts (hst : (s.member i).state = .inStep)
    (hfar : withinTol (s.measuredAt i g p q cap).err s.stored.params.tol = false) :
    ∃ v, w.handlePoll i b = v.transitionStart i ∧ Starting i p s v := by
  refine ⟨_, (hw.follow_inStep hi hrun hq hcap hres hst).trans (if_neg (by rw [hfar]; exact Bool.false_ne_true)), hw.erred _, ?_,
    by rw [hst]; rfl, ?_, fun h => ?_⟩
  · rw [State.erred_member]
    exact hw.state
  · rw [State.erred_member]
    exact .of_faults hw.faults
  · rw [hst] at h
    cases h

end

/-! ### The outcomes of a transition start (R100 to R104) -/

section
variable (m : Member) (x : Measured) (w : Method) (limits : Nat × Nat)

theorem Member.started_count : (m.started x).count = m.count := by
  cases m
  rfl

theorem Member.started_order : (m.started x).order = m.order := by
  cases m
  rfl

theorem Member.started_observed : (m.started x).observed = m.observed := by
  cases m
  rfl

theorem Member.started_settled : (m.started x).inStepNow.Settled x m.count :=
  m.started_count x ▸ Member.inStepNow_settled (m := m.started x) rfl

theorem Member.inStepNow_startedAs : m.StartedAs (m.started x).inStepNow x := by
  rw [Member.inStepNow_eq]
  exact ⟨rfl, rfl, rfl, m.started_order x⟩

theorem Member.steered_steered (d : Direction) (n grace : Nat) :
    ((m.started x).steered x w limits d n grace).Steered x limits m.count d (some n) (some (m.observed + n + grace)) := by
  rw [← m.started_count x, ← m.started_observed x]
  exact ⟨rfl, rfl, rfl, rfl, rfl, rfl, rfl, rfl⟩

theorem Member.steered_startedAs (d : Direction) (n grace : Nat) :
    m.StartedAs ((m.started x).steered x x.method limits d n grace) x := ⟨rfl, rfl, rfl, m.started_order x⟩

theorem Member.stuckAt_blocked_count (held : Option Nat) :
    (((m.started x).stuckAt w held).faults.get .transitionBlocked).count = (m.faults.get .transitionBlocked).count := by
  cases m
  rfl

theorem Member.stuckAt_steered (p : Policy) (held : Option Nat) :
    (((m.started x).stuckAt w held).recordRaise .transitionBlocked p none none).Steered x limits m.count .none held none := by
  rw [← m.started_count x]
  exact ⟨rfl, rfl, rfl, rfl, rfl, rfl, rfl, rfl⟩

theorem Member.stuckAt_method (p : Policy) (held : Option Nat) :
    (((m.started x).stuckAt w held).recordRaise .transitionBlocked p none none).method = some w := rfl

/-- What a raise under OFF or REPORT_ONLY leaves of a blocked member. -/
theorem Member.stuckAt_mild {p : Policy} (hp : p = .off ∨ p = .reportOnly) (held : Option Nat) (o : Option StandingOrder) :
    (((m.started x).stuckAt w held).raised .transitionBlocked p none none o).Steered x limits m.count .none held none
      ∧ (((m.started x).stuckAt w held).raised .transitionBlocked p none none o).method = some w := by
  rw [Member.raised_mild _ _ _ _ _ _ hp]
  exact ⟨m.stuckAt_steered x w limits p held, m.stuckAt_method x w p held⟩

theorem Member.stuckAt_blocks (p : Policy) (held : Option Nat) (o : Option StandingOrder) :
    m.Blocks (((m.started x).stuckAt w held).raised .transitionBlocked p none none o) p :=
  Member.raised_blocks rfl (m.stuckAt_blocked_count x w held) _ _ _ _

end

section
variable (hv : Starting i p s v) (hi : s.groupOf i = some g) (hq : s.stored.plan (s.group g).current = some q)
  (hcap : (s.member i).capability = some cap)
include hv hi hq hcap

theorem Starting.fails (hfit : s.stored.activation (s.member i) (s.group g).current = false) :
    s.stored.Fails i (s.member i) ((v.transitionStart i).member i) s.tref.e := by
  obtain ⟨hk, hx⟩ := hv.measure hi hq hcap
  have h := State.transitionStart_fails hk hx (by rw [hv.activation]; exact hfit) (by rw [hv.state]; exact hv.eligible)
  rw [hv.stored, hv.tref] at h
  exact h.of_count (hv.ends.count _)

variable (hfit : s.stored.activation (s.member i) (s.group g).current = true)
include hfit

/-- A member found in step, and its group when no other member works (R70, R104). -/
theorem Starting.near (hnear : withinTol (s.measuredAt i g p q cap).err s.stored.params.tol = true) :
    ((v.transitionStart i).member i).Settled (s.measuredAt i g p q cap) (some p.count)
      ∧ (v.member i).StartedAs ((v.transitionStart i).member i) (s.measuredAt i g p q cap)
      ∧ ((s.group g).state = .transition → (∀ j, j ≠ i → s.groupOf j = some g → (s.member j).state.working = false) →
          ((v.transitionStart i).group g).state = .steady ∧ ((v.transitionStart i).group g).ts = none) := by
  obtain ⟨hk, hx⟩ := hv.measure hi hq hcap
  rw [State.transitionStart_near hk hx (by rw [hv.activation]; exact hfit) (by rw [hv.stored]; exact hnear), State.testsOf_member,
    State.member_modMember_self]
  refine ⟨hv.count ▸ Member.started_settled _ _, Member.inStepNow_startedAs _ _, fun ht hw => ?_⟩
  refine State.testsOf_modMember_settled ((hv.groupOf i).trans hi) (Member.started_settled _ _).1 (by rw [hv.group]; exact ht)
    fun j hj hjg => ?_
  rw [hv.members j hj]
  exact hw j hj ((hv.groupOf j).symm.trans hjg)

variable (hfar : withinTol (s.measuredAt i g p q cap).err s.stored.params.tol = false)
include hfar

/-- A member that is given a direction, and its group (R70, R101 to R103). -/
theorem Starting.go {d : Direction} {n : Nat}
    (hway : wayOf (s.choice (s.measuredAt i g p q cap) (s.measuredAt i g p q cap).method) = .go d n) :
    ((v.transitionStart i).member i).Steered (s.measuredAt i g p q cap)
        (s.limits (s.measuredAt i g p q cap) (s.measuredAt i g p q cap).method) (some p.count) d (some n)
        (some ((s.stored.polled (s.member i) p).observed + n + s.stored.params.grace))
      ∧ (v.member i).StartedAs ((v.transitionStart i).member i) (s.measuredAt i g p q cap)
      ∧ ((s.group g).state = .transition ∨ (s.group g).state = .steady → ((v.transitionStart i).group g).state = .transition) := by
  obtain ⟨hk, hx⟩ := hv.measure hi hq hcap
  rw [State.transitionStart_go hk hx (by rw [hv.activation]; exact hfit) (by rw [hv.stored]; exact hfar)
    ((congrArg wayOf (hv.choice _ _)).trans hway), State.testsOf_member, State.member_modMember_self, hv.limits, hv.stored,
    ← hv.observed, ← hv.count]
  refine ⟨Member.steered_steered _ _ _ _ _ _ _, Member.steered_startedAs _ _ _ _ _ _, fun hst => ?_⟩
  exact State.testsOf_modMember_steered ((hv.groupOf i).trans hi) (Member.steered_steered _ _ _ _ _ _ _).1
    (by rw [hv.group]; exact hst)

/-- A member that is blocked (R102). -/
theorem Starting.blocked {held : Option Nat}
    (hway : wayOf (s.choice (s.measuredAt i g p q cap) (s.measuredAt i g p q cap).method) = .blocked held) :
    (s.member i).Blocks ((v.transitionStart i).member i) (s.stored.policies.get .transitionBlocked).policy
      ∧ ((s.stored.policies.get .transitionBlocked).policy = .off ∨ (s.stored.policies.get .transitionBlocked).policy = .reportOnly →
          ((v.transitionStart i).member i).Steered (s.measuredAt i g p q cap)
              (s.limits (s.measuredAt i g p q cap) (s.measuredAt i g p q cap).method) (some p.count) .none held none
            ∧ ((v.transitionStart i).member i).method = some (s.measuredAt i g p q cap).method) := by
  obtain ⟨hk, hx⟩ := hv.measure hi hq hcap
  rw [State.transitionStart_blocked hk hx (by rw [hv.activation]; exact hfit) (by rw [hv.stored]; exact hfar)
    ((congrArg wayOf (hv.choice _ _)).trans hway), State.testsOf_member, State.raise_member, State.member_modMember_self,
    State.modMember_stored, hv.stored]
  refine ⟨?_, fun hmild => hv.count ▸ Member.stuckAt_mild _ _ _ _ hmild _ _⟩
  obtain ⟨hcount, hst⟩ := Member.stuckAt_blocks (v.member i) (s.measuredAt i g p q cap) (s.measuredAt i g p q cap).method
    (s.stored.policies.get .transitionBlocked).policy held _
  exact ⟨hcount.trans (congrArg count8 (hv.ends.count _)), hst⟩

end

/-! ### CORRECTING members (R106, R109 to R112) -/

/-- The conditions and the transition of a member, its error aside, are the same. -/
structure Member.SameCourse (m n : Member) : Prop where
  state : n.state = m.state
  faults : n.faults = m.faults
  direction : n.direction = m.direction
  remaining : n.remaining = m.remaining
  correction : n.correction = m.correction
  correctionCount : n.correctionCount = m.correctionCount
  method : n.method = m.method
  expected : n.expected = m.expected
  deadline : n.deadline = m.deadline
  late : n.late = m.late

theorem Member.Course.congr {m m' n : Member} {pol : Policy} {observed : Nat} {x : Measured} {limits : Nat × Nat} {count : Option Nat}
    {d : Direction} {expected deadline : Option Nat} (h : m.Course n pol observed x limits count d expected deadline)
    (hl : m.late = m'.late) (hf : m.faults = m'.faults) : m'.Course n pol observed x limits count d expected deadline := by
  unfold Member.Course Member.Overdue at h ⊢
  rwa [hl, hf] at h

section
variable (hw : Polled k i p s w)
include hw

theorem Polled.erred_same (x : Measured) : Member.SameCourse (s.member i) ((w.erred i x).member i) := by
  rw [State.erred_member, hw.member]
  exact ⟨rfl, rfl, rfl, rfl, rfl, rfl, rfl, rfl, rfl, rfl⟩

theorem Polled.erred_rechooses (x : Measured) : (w.erred i x).Rechooses ((w.erred i x).member i) x ↔ s.Rechooses (s.member i) x := by
  have hsame := hw.erred_same x
  rw [State.Rechooses, State.Rechooses, hsame.direction, hsame.remaining, hsame.method, (hw.erred x).limits, (hw.erred x).stored]

variable {b : Bool} (hi : s.groupOf i = some g) (hrun : p.running = (s.group g).current)
  (hq : s.stored.plan (s.group g).current = some q) (hcap : (s.member i).capability = some cap)
  (hres : (s.member i).resync = false) (hst : (s.member i).state = .correcting)
include hi hrun hq hcap hres hst

/-- A CORRECTING member found in step, and its group when no other member works (R70, R111). -/
theorem Polled.completes (hnear : withinTol (s.measuredAt i g p q cap).err s.stored.params.tol = true) :
    ((w.handlePoll i b).member i).Settled (s.measuredAt i g p q cap) (some p.count)
      ∧ ((s.group g).state = .transition → (∀ j, j ≠ i → s.groupOf j = some g → (s.member j).state.working = false) →
          ((w.handlePoll i b).group g).state = .steady ∧ ((w.handlePoll i b).group g).ts = none) := by
  have he := hw.erred (s.measuredAt i g p q cap)
  have hsettled : (((w.erred i (s.measuredAt i g p q cap)).member i).clearTransitionConds.inStepNow).Settled (s.measuredAt i g p q cap)
      (some p.count) := by
    rw [← he.count]
    refine Member.inStepNow_settled (m := ((w.erred i (s.measuredAt i g p q cap)).member i).clearTransitionConds) ?_
    rw [State.erred_member]
    rfl
  rw [hw.follow_correcting hi hrun hq hcap hres hst, if_pos hnear, State.complete, State.testsOf_member, State.member_modMember_self]
  refine ⟨hsettled, fun ht hothers => ?_⟩
  refine State.testsOf_modMember_settled ((he.groupOf i).trans hi) hsettled.1 (by rw [he.group]; exact ht) fun j hj hjg => ?_
  rw [he.members j hj]
  exact hothers j hj ((he.groupOf j).symm.trans hjg)

variable (hfar : withinTol (s.measuredAt i g p q cap).err s.stored.params.tol = false)
include hfar

theorem Polled.corrects_on :
    w.handlePoll i false = w.erred i (s.measuredAt i g p q cap) := by
  rw [hw.follow_correcting hi hrun hq hcap hres hst, if_neg (by rw [hfar]; exact Bool.false_ne_true)]
  exact if_neg Bool.false_ne_true

theorem Polled.recomputes :
    w.handlePoll i true
      = (w.erred i (s.measuredAt i g p q cap)).recompute i (s.group g).current (s.measuredAt i g p q cap) := by
  rw [hw.follow_correcting hi hrun hq hcap hres hst, if_neg (by rw [hfar]; exact Bool.false_ne_true)]
  exact if_pos rfl

theorem Polled.recompute_fails (hfit : s.stored.activation (s.member i) (s.group g).current = false) :
    s.stored.Fails i (s.member i) ((w.handlePoll i true).member i) s.tref.e := by
  have he := hw.erred (s.measuredAt i g p q cap)
  have hsame := hw.erred_same (s.measuredAt i g p q cap)
  have h := State.recompute_fails (x := s.measuredAt i g p q cap) (he.activation _ |>.trans hfit) (hsame.state.trans hst)
  rw [he.stored, he.tref] at h
  rw [hw.recomputes hi hrun hq hcap hres hst hfar]
  exact h.of_count (by rw [hsame.faults])

variable (hfit : s.stored.activation (s.member i) (s.group g).current = true)
include hfit

/-- The direction is kept (R109). -/
theorem Polled.recompute_kept (h : ¬ s.Rechooses (s.member i) (s.measuredAt i g p q cap)) :
    (s.member i).Course ((w.handlePoll i true).member i) (s.stored.policies.get .transitionLate).policy
      (s.stored.polled (s.member i) p).observed (s.measuredAt i g p q cap)
      (s.limits (s.measuredAt i g p q cap) ((s.member i).method.getD .delay)) (some p.count) (s.member i).direction
      (s.member i).expected (s.member i).deadline := by
  have he := hw.erred (s.measuredAt i g p q cap)
  have hsame := hw.erred_same (s.measuredAt i g p q cap)
  have hcourse := State.recompute_kept (he.activation _ |>.trans hfit) (hsame.state.trans hst)
    (by rw [State.erred_member]) (mt (hw.erred_rechooses _).mp h)
  rw [he.observed, he.count, he.limits, he.stored, hsame.method, hsame.direction, hsame.expected, hsame.deadline] at hcourse
  rw [hw.recomputes hi hrun hq hcap hres hst hfar]
  exact hcourse.congr hsame.late hsame.faults

variable (h : s.Rechooses (s.member i) (s.measuredAt i g p q cap))
include h

/-- A direction is chosen again (R110). -/
theorem Polled.recompute_go {d : Direction} {n : Nat}
    (hway : wayOf (s.choice (s.measuredAt i g p q cap) ((s.member i).method.getD .delay)) = .go d n) :
    (s.member i).Course ((w.handlePoll i true).member i) (s.stored.policies.get .transitionLate).policy
      (s.stored.polled (s.member i) p).observed (s.measuredAt i g p q cap)
      (s.limits (s.measuredAt i g p q cap) ((s.member i).method.getD .delay)) (some p.count) d (some n)
      (some ((s.member i).deadline.getD ((s.stored.polled (s.member i) p).observed + n + s.stored.params.grace))) := by
  have he := hw.erred (s.measuredAt i g p q cap)
  have hsame := hw.erred_same (s.measuredAt i g p q cap)
  have hcourse := State.recompute_go (he.activation _ |>.trans hfit) (hsame.state.trans hst)
    (by rw [State.erred_member]) ((hw.erred_rechooses _).mpr h) (d := d) (n := n)
    (by rw [hsame.method, he.choice]; exact hway)
  rw [he.observed, he.count, he.limits, he.stored, hsame.method, hsame.deadline] at hcourse
  rw [hw.recomputes hi hrun hq hcap hres hst hfar]
  exact hcourse.congr hsame.late hsame.faults

variable {held : Option Nat} (hcalm : (s.member i).Calm)
  (hway : wayOf (s.choice (s.measuredAt i g p q cap) ((s.member i).method.getD .delay)) = .blocked held)
include hcalm hway

/-- No direction lets the member move, and the policy leaves it to correct on (R102). -/
theorem Polled.recompute_mild
    (hmild : (s.stored.policies.get .transitionBlocked).policy = .off ∨ (s.stored.policies.get .transitionBlocked).policy = .reportOnly) :
    (s.member i).Course ((w.handlePoll i true).member i) (s.stored.policies.get .transitionLate).policy
      (s.stored.polled (s.member i) p).observed (s.measuredAt i g p q cap)
      (s.limits (s.measuredAt i g p q cap) ((s.member i).method.getD .delay)) (some p.count) .none held (s.member i).deadline := by
  have he := hw.erred (s.measuredAt i g p q cap)
  have hsame := hw.erred_same (s.measuredAt i g p q cap)
  have hcourse := State.recompute_mild (he.activation _ |>.trans hfit) (hsame.state.trans hst)
    (by rw [State.erred_member]) ((hw.erred_rechooses _).mpr h) (held := held)
    (by rw [hsame.method, he.choice]; exact hway) (by rw [hsame.faults]; exact hcalm.1 _) (by rw [he.stored]; exact hmild)
  rw [he.observed, he.count, he.limits, he.stored, hsame.method, hsame.deadline] at hcourse
  rw [hw.recomputes hi hrun hq hcap hres hst hfar]
  exact hcourse.congr hsame.late hsame.faults

theorem Polled.recompute_count :
    (((w.handlePoll i true).member i).faults.get .transitionBlocked).count
      = count8 ((s.member i).faults.get .transitionBlocked).count := by
  have he := hw.erred (s.measuredAt i g p q cap)
  have hsame := hw.erred_same (s.measuredAt i g p q cap)
  rw [hw.recomputes hi hrun hq hcap hres hst hfar, State.recompute_blocked_count (he.activation _ |>.trans hfit)
    ((hw.erred_rechooses _).mpr h) (by rw [hsame.method, he.choice]; exact hway) (by rw [hsame.faults]; exact hcalm.1 _),
    hsame.faults]

theorem Polled.recompute_state
    (hmild : ¬ ((s.stored.policies.get .transitionBlocked).policy = .off
      ∨ (s.stored.policies.get .transitionBlocked).policy = .reportOnly)) :
    ((w.handlePoll i true).member i).state = (s.stored.policies.get .transitionBlocked).policy.leaves .correcting := by
  have he := hw.erred (s.measuredAt i g p q cap)
  have hsame := hw.erred_same (s.measuredAt i g p q cap)
  have hstate := State.recompute_blocked_state (he.activation _ |>.trans hfit) (hsame.state.trans hst)
    ((hw.erred_rechooses _).mpr h) (by rw [hsame.method, he.choice]; exact hway) (by rw [hsame.faults]; exact hcalm.1 _)
    (by rw [he.stored]; exact hmild)
  rw [he.stored] at hstate
  rw [hw.recomputes hi hrun hq hcap hres hst hfar]
  exact hstate

end

end

end Sys2Proof.Machine
end

section
/-! SUPPORT. ORDER and QUERY replies (R73, R77, R78, R126), and what every reply leaves of the record (R93). -/

namespace Sys2Proof.Machine

section
variable {s t u v : State} {i : Ix} {k : SegNo} {x : InFlight}

/-! ### Records (R93, R126) -/

theorem State.goodReply_poll_reads (s : State) (i : Ix) (k : SegNo) (x : InFlight) (p : PollReply) :
    Reads (s.modMember i fun m => s.stored.takePoll m p) (s.goodReply i k x (.poll p)) :=
  (State.commonSteps_reads _ _ _).trans (State.handlePoll_reads _ _ _)

theorem Received.poll_reading {p : PollReply} (h : Received k s u) :
    ((u.goodReply i k x (.poll p)).member i).reading = (s.stored.takePoll (s.member i) p).reading := by
  rw [(u.goodReply_poll_reads i k x p).reading, State.member_modMember_self, h.stored, h.member]

theorem State.goodReply_poll_poll (s : State) (i : Ix) (k : SegNo) (x : InFlight) (p : PollReply) :
    (s.goodReply i k x (.poll p)).poll i = s.poll i := by
  rw [State.poll, (s.goodReply_poll_reads i k x p).polls]
  rfl

/-- A QUERY reply renews the controller id and the capability record (R126). -/
theorem State.handleQuery_record (s : State) (i : Ix) (q : QueryReply) :
    ((s.handleQuery i q).member i).controllerId = some q.controllerId
      ∧ ((s.handleQuery i q).member i).capability = some (capabilityOf q) := by
  unfold State.handleQuery
  extract_lets differs s1 s2 s3 s4
  have hm : s2.member i = { s1.member i with controllerId := some q.controllerId, capability := some (capabilityOf q) } :=
    State.member_modMember_self _ _ _
  have h3 : Reads s2 s3 := State.endCond_reads _ _ _
  have h4 : Reads s2 s4 := .ite (h3.trans (State.placeUnknown_reads _ _)) (h3.trans (State.recheckCapability_reads _ _))
  have h5 : Reads s2 (if differs then s4.testsOf i else s4) := .ite (h4.trans (State.testsOf_reads _ _)) h4
  have hreading := h5.reading i
  rw [hm] at hreading
  exact ⟨congrArg Reading.controllerId hreading, congrArg Reading.capability hreading⟩

/-! ### What a raise leaves of an order that is missed (R80, R160) -/

theorem Member.raised_miss (m : Member) (p : Policy) (cause : Option MissCause) (reason : Option Nat) (o : Option StandingOrder)
    (hp : p ≠ .latched) : (m.raised .orderMissed p cause reason o).missCause = cause
      ∧ (m.raised .orderMissed p cause reason o).missReason = reason := by
  have henter (n : Member) : (n.enter .excluded).missCause = n.missCause ∧ (n.enter .excluded).missReason = n.missReason := by
    show (if n.state.inTransition && !MemberState.excluded.inTransition then n.clearTransition else n).missCause = _
      ∧ (if n.state.inTransition && !MemberState.excluded.inTransition then n.clearTransition else n).missReason = _
    split <;> exact ⟨rfl, rfl⟩
  cases p with
  | off => exact ⟨rfl, rfl⟩
  | reportOnly => exact ⟨rfl, rfl⟩
  | latched => exact absurd rfl hp
  | recovering =>
    show (m.recordRaise .orderMissed .recovering cause reason).excludedBy.missCause = _
      ∧ (m.recordRaise .orderMissed .recovering cause reason).excludedBy.missReason = _
    unfold Member.excludedBy
    split
    · exact henter _
    · exact ⟨rfl, rfl⟩

/-! ### ORDER replies of a member with no condition (R73, R77, R78) -/

/-- An ORDER reply of a member with no condition has been taken, and its order is to be judged. -/
structure Answered (k : SegNo) (i : Ix) (a : OrderReply) (s v : State) : Prop extends Beside i s v where
  member : v.member i = (s.member i).heardFrom (.order a) s.stored.params.deglitch
  nextSeq : (v.segment k).nextSeq = (s.segment k).nextSeq

theorem Received.answered {a : OrderReply} {oid : Nat} {pay : OrderPayload} (h : Received k s u) (hm : (s.member i).Calm)
    (hr : (GoodReply.order a).Quiet) (hb : x.body = .order oid pay) :
    ∃ v, Answered k i a s v ∧ u.goodReply i k x (.order a) = v.handleOrder i k x oid a := by
  refine ⟨u.modMember i (·.heardFrom (.order a) u.stored.params.deglitch),
    ⟨(h.beside i).trans (.of_upon (.modMember _ _ _)), ?_, h.nextSeq⟩, State.goodReply_order (by rw [h.member]; exact hm) hr hb⟩
  rw [State.member_modMember_self, h.stored, h.member]

section
variable {a : OrderReply} (hv : Answered k i a s v)
include hv

theorem Answered.faults : (v.member i).faults = (s.member i).faults := by
  rw [hv.member]
  rfl

theorem Answered.orderOf : (v.member i).order = (s.member i).order := by
  rw [hv.member]
  rfl

theorem Answered.state : (v.member i).state = (s.member i).state := by
  rw [hv.member]
  rfl

/-- Whether the controller acknowledges orders (Table 8-2). -/
def Member.acks (m : Member) : Bool := (m.capability.map (·.acks)).getD false

theorem Answered.acks : (v.member i).acks = (s.member i).acks := by
  rw [hv.member]
  rfl

variable {o : StandingOrder} {oid : Nat} (ho : (s.member i).order = some o) (hoid : o.oid = oid)
include ho hoid

theorem Answered.handle_order (hk : o.kind = .order) : v.handleOrder i k x oid a = v.orderAnswered i k o a := by
  simp only [State.handleOrder, hv.orderOf, ho, if_pos hoid, hk]

theorem Answered.handle_release (hk : o.kind = .release) : v.handleOrder i k x oid a = v.releaseAnswered i k x o a := by
  simp only [State.handleOrder, hv.orderOf, ho, if_pos hoid, hk]

/-- An order that is accepted, or by one that acknowledges none, is delivered. -/
theorem Answered.delivered (hm : (s.member i).Calm) (hk : o.kind = .order) (h : (s.member i).acks = false ∨ a.answer = 1) :
    v.handleOrder i k x oid a = v.modMember i fun m => { m with order := some { o with outcome := .delivered } } := by
  have hno : ¬ (((v.member i).acks && a.answer ≠ 1) = true) := by
    rw [hv.acks]
    rcases h with h | h <;> simp [h]
  have hcalm : (((v.modMember i fun m => { m with order := some { o with outcome := .delivered } }).member i).faults.get
      .orderMissed).standing = false := by
    rw [State.member_modMember_self]
    exact (congrArg (fun f : PerClass FaultEntry => (f.get .orderMissed).standing) hv.faults).trans (hm.1 _)
  rw [hv.handle_order ho hoid hk, State.orderAnswered]
  refine (if_neg hno).trans ?_
  rw [State.endUndelivered]
  split
  · exact State.endCond_calm hcalm
  · exact State.endCond_calm hcalm
  · rfl

/-- An order that is not accepted is queued again, and ORDER_MISSED raised. -/
theorem Answered.refused (hm : (s.member i).Calm) (hk : o.kind = .order) (hacks : (s.member i).acks = true) (hans : a.answer ≠ 1) :
    ∃ t : State, v.handleOrder i k x oid a = t.raise i .orderMissed (some .refused) (some (if a.answer = 2 then a.reason else 0))
      ∧ t.member i = { v.member i with order := some { o with outcome := .refused } } ∧ t.stored = s.stored
      ∧ ⟨.order o.oid o.payload, i, s.tref.e, (s.segment k).nextSeq⟩ ∈ (t.segment k).queue := by
  have hyes : ((v.member i).acks && a.answer ≠ 1) = true := by
    rw [hv.acks, hacks]
    simp [hans]
  have hno : ¬ ((v.member i).faults.get .orderMissed).standing = true := by
    rw [hv.faults]
    exact Bool.eq_false_iff.mp (hm.1 _)
  refine ⟨(v.modMember i fun m => { m with order := some { o with outcome := .refused } }).modSegment k
    (·.join v.tref.e i (.order o.oid o.payload)), ?_, ?_, hv.stored, ?_⟩
  · rw [hv.handle_order ho hoid hk, State.orderAnswered]
    exact (if_pos hyes).trans (if_neg hno)
  · exact State.member_modMember_self v i fun m => { m with order := some { o with outcome := .refused } }
  · rw [State.segment_modSegment_self, ← hv.nextSeq, ← hv.tref]
    exact Segment.mem_join (v.segment k) _ _ _

theorem Answered.released (hk : o.kind = .release) (h : (s.member i).acks = false ∨ a.answer = 1) :
    v.handleOrder i k x oid a = v.clearOrder i := by
  have hno : ¬ (((v.member i).acks && a.answer ≠ 1) = true) := by
    rw [hv.acks]
    rcases h with h | h <;> simp [h]
  rw [hv.handle_release ho hoid hk]
  exact if_neg hno

theorem Answered.releases_again (hk : o.kind = .release) (hacks : (s.member i).acks = true) (hans : a.answer ≠ 1) :
    v.handleOrder i k x oid a = v.putBackOrder k x o.oid o.payload := by
  have hyes : ((v.member i).acks && a.answer ≠ 1) = true := by
    rw [hv.acks, hacks]
    simp [hans]
  rw [hv.handle_release ho hoid hk]
  exact if_pos hyes

end

/-! ### The clauses of a reply to an order -/

section
variable {a : OrderReply} {o : StandingOrder} {oid : Nat} {pay : OrderPayload}

/-- What an ORDER reply makes of the standing ORDER of a member with no condition (R77, R78, R82). -/
theorem Received.order_answered (h : Received k s u) (hm : (s.member i).Calm) (hr : (GoodReply.order a).Quiet)
    (hb : x.body = .order oid pay) (ho : (s.member i).order = some o) (hoid : o.oid = oid) (hk : o.kind = .order) :
    ((s.member i).acks = false ∨ a.answer = 1 →
        ((u.goodReply i k x (.order a)).member i).order = some { o with outcome := .delivered }
          ∧ ((u.goodReply i k x (.order a)).member i).state = (s.member i).state)
      ∧ ((s.member i).acks = true → a.answer ≠ 1 →
        (((u.goodReply i k x (.order a)).member i).faults.get .orderMissed).count = count8 ((s.member i).faults.get .orderMissed).count)
      ∧ ((s.member i).acks = true → a.answer ≠ 1 → (s.stored.policies.get .orderMissed).policy ≠ .latched →
        ((u.goodReply i k x (.order a)).member i).order = some { o with outcome := .refused }
          ∧ ((u.goodReply i k x (.order a)).member i).missCause = some .refused
          ∧ ((u.goodReply i k x (.order a)).member i).missReason = some (if a.answer = 2 then a.reason else 0)
          ∧ ⟨.order oid o.payload, i, s.tref.e, (s.segment k).nextSeq⟩ ∈ ((u.goodReply i k x (.order a)).segment k).queue) := by
  obtain ⟨v, hv, hgood⟩ := h.answered (x := x) (i := i) hm hr hb
  rw [hgood]
  refine ⟨fun hacc => ?delivered, fun hacks hans => ?counted, fun hacks hans hp => ?refused⟩
  case delivered =>
    rw [hv.delivered ho hoid hm hk hacc, State.member_modMember_self]
    exact ⟨rfl, hv.state⟩
  case counted =>
    obtain ⟨t, ht, hmember, -, -⟩ := hv.refused (x := x) ho hoid hm hk hacks hans
    rw [ht, State.raise_member, Member.raised_count, hmember]
    exact congrArg (fun f : PerClass FaultEntry => count8 (f.get .orderMissed).count) hv.faults
  case refused =>
    obtain ⟨t, ht, hmember, hstored, hqueue⟩ := hv.refused (x := x) ho hoid hm hk hacks hans
    have hpolicy : (t.stored.policies.get .orderMissed).policy ≠ .latched := by
      rw [hstored]
      exact hp
    obtain ⟨hcause, hreason⟩ := Member.raised_miss (t.member i) _ (some .refused) (some (if a.answer = 2 then a.reason else 0))
      (t.releaseOrder i t.tref.e) hpolicy
    rw [ht, State.raise_member, hcause, hreason, Member.raised_order _ _ _ _ _ _ hpolicy, hmember, State.segment,
      State.raise_segments hpolicy, ← hoid]
    exact ⟨rfl, rfl, rfl, hqueue⟩

/-- What an ORDER reply makes of the standing RELEASE of a member with no condition (R73). -/
theorem Received.release_answered (h : Received k s u) (hm : (s.member i).Calm) (hr : (GoodReply.order a).Quiet)
    (hb : x.body = .order oid pay) (ho : (s.member i).order = some o) (hoid : o.oid = oid) (hk : o.kind = .release) :
    ((s.member i).acks = false ∨ a.answer = 1 → ((u.goodReply i k x (.order a)).member i).order = none)
      ∧ ((s.member i).acks = true → a.answer ≠ 1 →
        ((u.goodReply i k x (.order a)).member i).order = some o
          ∧ ⟨.order oid o.payload, x.target, x.enqueued, x.seq⟩ ∈ ((u.goodReply i k x (.order a)).segment k).queue) := by
  obtain ⟨v, hv, hgood⟩ := h.answered (x := x) (i := i) hm hr hb
  rw [hgood]
  refine ⟨fun hacc => ?_, fun hacks hans => ?_⟩
  · rw [hv.released ho hoid hk hacc, State.clearOrder, State.member_modMember_self]
  · rw [hv.releases_again ho hoid hk hacks hans, State.putBackOrder, State.segment_modSegment_self, hoid]
    exact ⟨hv.orderOf.trans ho, mem_insertTxn.mpr (.inl rfl)⟩

end

/-- What a POLL reply that shows another plan after a delivered order leaves of a member with no condition (R83). -/
theorem Polled.missed {w : State} {p : PollReply} {g : GroupNo} {o : StandingOrder} {d : Drop} {b : Bool} (hw : Polled k i p s w)
    (hi : s.groupOf i = some g) (hm : (s.member i).Calm) (hst : (s.member i).state = .ordered)
    (ho : (s.member i).order = some o) (hk : o.kind = .order) (hp : s.place i = some ⟨k, d⟩)
    (h : s.Unswitched o p.running (s.stored.posOf p)) :
    (((w.handlePoll i b).member i).faults.get .orderMissed).count = count8 ((s.member i).faults.get .orderMissed).count
      ∧ ((s.stored.policies.get .orderMissed).policy ≠ .latched →
        ((w.handlePoll i b).member i).state = (s.stored.policies.get .orderMissed).policy.leaves .ordered
          ∧ ((w.handlePoll i b).member i).order = some { o with outcome := .owed }
          ∧ ((w.handlePoll i b).member i).missCause = some .notSwitched
          ∧ ⟨.order o.oid o.payload, i, s.tref.e, (s.segment k).nextSeq⟩ ∈ ((w.handlePoll i b).segment k).queue) := by
  obtain ⟨v, hv, hmember, hstored, hqueue⟩ := hw.handle_missed (b := b) hi hm hst ho hk hp h
  have hordered : (v.member i).state = .ordered := by
    rw [hmember]
    exact hst
  rw [hv, State.raise_member]
  refine ⟨?_, fun hpolicy => ?_⟩
  · rw [Member.raised_count, hmember]
    rfl
  · rw [← hstored] at hpolicy
    obtain ⟨hcause, -⟩ := Member.raised_miss (v.member i) _ (some .notSwitched) none (v.releaseOrder i v.tref.e) hpolicy
    rw [hcause, Member.raised_order _ _ _ _ _ _ hpolicy, Member.raised_state _ _ _ _ _ _ (by rw [hordered]; rfl), hordered, hstored,
      State.segment, State.raise_segments hpolicy]
    exact ⟨rfl, by rw [hmember], rfl, hqueue⟩

end

end Sys2Proof.Machine
end

section

open Sys2Proof Sys2Proof.Machine

/-- Settles O45: a reply heard whole is handed on with its segment's queue and every record as they were (`Received`). What it reports
is written by no operation after it (`Reads`); a member with no condition goes through the common steps unmoved (`Polled`, `Answered`),
and takes then the one step that its state and its measurement ask for. -/
theorem goodRepliesEnterTheRecord : Obligations.GoodRepliesEnterTheRecord := by
  unfold Obligations.GoodRepliesEnterTheRecord
  intro s k x bytes r harrives i m e lead policy mild acks undisturbed
  obtain ⟨u, hu, hpoll, hexec⟩ := exec_reply harrives
  obtain ⟨-, -, -, hplace, -, -⟩ := harrives
  refine ⟨_, hexec, ?_⟩
  obtain ⟨t, ht⟩ : ∃ t, t = (u.goodReply i k x r).settle := ⟨_, rfl⟩
  rw [← ht]
  have hmember : t.member i = (u.goodReply i k x r).member i := by rw [ht, State.settle_member]
  have hgroup (g : GroupNo) : t.group g = (u.goodReply i k x r).group g := by rw [ht, State.settle_group]
  have hqueue : (t.segment k).queue = ((u.goodReply i k x r).segment k).queue := by rw [ht, State.settle_queue]
  have hstored : t.stored = s.stored := by rw [ht, State.settle_stored, (u.goodReply_works i k x r).stored_eq, hu.stored]
  have hpolls : t.poll i = (u.goodReply i k x r).poll i := by rw [ht, State.settle_poll]
  intro raised stands cleared failed
  have hfailed : s.stored.Fails i m (t.member i) e → failed := by
    rintro ⟨hreleased, hcount, hstate, hfields⟩
    exact ⟨by rwa [State.released_iff, hstored], hcount, hstate, hfields⟩
  refine ⟨fun p hr => ?_, fun a oid pay o hr hcalm hbody ho hoid => ?_, fun q hr => ?_⟩
  · subst hr
    intro pos newCycle observed
    have hobserved : (s.stored.polled m p).observed = observed := if_congr (m.newCycle_iff p.count) rfl rfl
    have hreading : (t.member i).reading = (s.stored.takePoll m p).reading := by rw [hmember, hu.poll_reading]
    refine ⟨congrArg Reading.mode hreading, congrArg Reading.running hreading, congrArg Reading.count hreading,
      congrArg Reading.lastApplied hreading, congrArg Reading.position hreading, (congrArg Reading.observed hreading).trans hobserved,
      ?_, fun hcalm hidle => ?idle, fun g hcalm hi => ?_⟩
    · rw [hpolls, State.goodReply_poll_poll]
      exact hpoll p rfl
    case idle =>
      obtain ⟨w, hw, hgood⟩ := hu.polled (x := x) (i := i) hcalm.1 hcalm.2
      rw [hmember, hgood, hw.handle_idle hidle]
      exact ⟨hw.state, hw.orderOf⟩
    obtain ⟨hcalm, hquiet⟩ := hcalm
    obtain ⟨w, hw, hgood⟩ := hu.polled (x := x) (i := i) hcalm hquiet
    rw [hgood] at hmember hqueue
    have hgroup : t.group g = _ := (hgroup g).trans (by rw [hgood])
    intro cur coordinated switches unswitched
    refine ⟨fun o hst ho hk => ⟨fun hno hun => ?waits, fun hun => ?missed, fun hun hp => ?requeued⟩,
      fun hco hrun => ⟨fun hfit => ?ordered, fun hfit => ?unfit⟩, fun q cap hq hcap hrun => ?_⟩
    case waits =>
      rw [hmember, hw.handle_waits hi hcalm hst ho hk hno hun]
      exact ⟨hw.state.trans hst, hw.orderOf.trans ho⟩
    case missed =>
      have hcount := (hw.missed (b := m.newCycle p.count) hi hcalm hst ho hk hplace hun).1
      rw [← hmember] at hcount
      exact hcount
    case requeued =>
      have hmissed := (hw.missed (b := m.newCycle p.count) hi hcalm hst ho hk hplace hun).2 hp
      rw [← hmember, ← hqueue] at hmissed
      exact hmissed
    case ordered =>
      obtain ⟨hordered, hfields⟩ := hw.lost_ordered (b := m.newCycle p.count) hi hco hrun hfit
      rw [← hmember] at hordered hfields
      exact ⟨by rwa [State.ordered_iff, hstored], hfields⟩
    case unfit =>
      refine hfailed ?_
      rw [hmember]
      exact hw.lost_fails hi hco hrun hfit
    intro c a err near lengthen shorten chooses blocks steered settled drifts starts fits w'
    have hnear : near ↔ withinTol (s.measuredAt i g p q cap).err s.stored.params.tol = true := decide_eq_true_iff.symm
    have hfar (h : ¬ near) : withinTol (s.measuredAt i g p q cap).err s.stored.params.tol = false :=
      Bool.eq_false_iff.mpr (mt hnear.mpr h)
    have hunfit (h : ¬ fits) : s.stored.activation (s.member i) (s.group g).current = false := Bool.eq_false_iff.mpr h
    have hstarts (h : starts) : ∃ v, w.handlePoll i (m.newCycle p.count) = v.transitionStart i ∧ Starting i p s v := by
      rcases h with ⟨hst, o, ho, hk, hsw⟩ | ⟨hco, hres⟩ | ⟨hst, hres, hdrift⟩
      · exact hw.switch_starts hi hcalm hst ho hk hsw
      · exact ⟨w, hw.resync_starts hi hrun hco hres, hw.starting hco⟩
      · exact hw.drift_starts hi hrun hq hcap hres hst (hfar hdrift)
    have hgo {v : Method} {d : Direction} {n : Nat} (h : chooses v d n) :
        wayOf (s.choice (s.measuredAt i g p q cap) v) = .go d n := wayOf_go h.1 h.2
    have hblocked {v : Method} {held : Option Nat} (h : blocks v held) :
        wayOf (s.choice (s.measuredAt i g p q cap) v) = .blocked held := wayOf_blocked h
    refine ⟨fun h hfit => ?startFails, fun h hfit hn => ?startNear, fun d n h hfit hf hway => ?startGo,
      fun held h hfit hf hway => ?startBlocked, fun hst hres hn => ?staysInStep, fun hst hres hn => ?completes,
      fun hst hres hf hnew => ?correctsOn, fun hst hres hf hnew => ?recomputes⟩
    case startFails =>
      obtain ⟨v, hv, hstart⟩ := hstarts h
      refine hfailed ?_
      rw [hmember, hv]
      exact hstart.fails hi hq hcap (hunfit hfit)
    case startNear =>
      obtain ⟨v, hv, hstart⟩ := hstarts h
      obtain ⟨⟨h1, h2, h3, h4, h5, h6, h7, h8⟩, ⟨hmethod, hlate, hresync, horder⟩, hsteady⟩ :=
        hstart.near hi hq hcap hfit (hnear.mp hn)
      rw [← hv, ← hmember] at h1 h2 h3 h4 h5 h6 h7 h8 hmethod hlate hresync horder
      rw [← hv, ← hgroup] at hsteady
      exact ⟨⟨h1, h2, h3, h4, h5, h6, h7, h8, hsteady⟩, hmethod, hlate, hresync, fun hst => horder.trans (hstart.order hst)⟩
    case startGo =>
      obtain ⟨v, hv, hstart⟩ := hstarts h
      obtain ⟨hsteered, ⟨hmethod, hlate, hresync, horder⟩, htransition⟩ := hstart.go hi hq hcap hfit (hfar hf) (hgo hway)
      rw [← hv, ← hmember] at hsteered hmethod hlate hresync horder
      rw [← hv, ← hgroup] at htransition
      rw [hobserved] at hsteered
      exact ⟨hsteered, hmethod, hlate, hresync, fun hst => horder.trans (hstart.order hst), htransition⟩
    case startBlocked =>
      obtain ⟨v, hv, hstart⟩ := hstarts h
      obtain ⟨⟨hcount, hstate⟩, hsteered⟩ := hstart.blocked hi hq hcap hfit (hfar hf) (hblocked hway)
      rw [← hv, ← hmember] at hcount hstate hsteered
      exact ⟨hcount, hstate, hsteered⟩
    case staysInStep =>
      rw [hmember, hw.follow_inStep hi hrun hq hcap hres hst, if_pos (hnear.mp hn)]
      have hsame := hw.erred_same (s.measuredAt i g p q cap)
      exact ⟨hsame.state.trans hst, by rw [State.erred_member]; rfl, hsame.correction⟩
    case completes =>
      obtain ⟨⟨h1, h2, h3, h4, h5, h6, h7, h8⟩, hsteady⟩ :=
        hw.completes (b := m.newCycle p.count) hi hrun hq hcap hres hst (hnear.mp hn)
      rw [← hmember] at h1 h2 h3 h4 h5 h6 h7 h8
      rw [← hgroup] at hsteady
      exact ⟨h1, h2, h3, h4, h5, h6, h7, h8, hsteady⟩
    case correctsOn =>
      have hold : m.newCycle p.count = false := Bool.eq_false_iff.mpr (mt (m.newCycle_iff p.count).mp hnew)
      rw [hmember, hold, hw.corrects_on hi hrun hq hcap hres hst (hfar hf)]
      have hsame := hw.erred_same (s.measuredAt i g p q cap)
      exact ⟨hsame.state.trans hst, by rw [State.erred_member]; rfl, hsame.direction, hsame.remaining, hsame.correction,
        hsame.correctionCount, hsame.expected, hsame.deadline⟩
    case recomputes =>
      have hold : m.newCycle p.count = true := (m.newCycle_iff p.count).mpr hnew
      rw [hold] at hmember
      intro w'' again course
      refine ⟨fun hfit => ?_, fun hfit hkeep => ?_, fun d n hfit hagain hway => ?_, fun held hfit hagain hway => ?_⟩
      · refine hfailed ?_
        rw [hmember]
        exact hw.recompute_fails hi hrun hq hcap hres hst (hfar hf) (hunfit hfit)
      · have hcourse := hw.recompute_kept hi hrun hq hcap hres hst (hfar hf) hfit hkeep
        rw [← hmember, hobserved] at hcourse
        exact hcourse
      · have hcourse := hw.recompute_go hi hrun hq hcap hres hst (hfar hf) hfit hagain (hgo hway)
        rw [← hmember, hobserved] at hcourse
        exact hcourse
      · refine ⟨?_, fun hmild => ?_, fun hmild => ?_⟩
        · have hcount := hw.recompute_count hi hrun hq hcap hres hst (hfar hf) hfit hagain hcalm (hblocked hway)
          rw [← hmember] at hcount
          exact hcount
        · have hcourse := hw.recompute_mild hi hrun hq hcap hres hst (hfar hf) hfit hagain hcalm (hblocked hway) hmild
          rw [← hmember, hobserved] at hcourse
          exact hcourse
        · have hstate := hw.recompute_state hi hrun hq hcap hres hst (hfar hf) hfit hagain hcalm (hblocked hway) hmild
          rw [← hmember] at hstate
          exact hstate
  · subst hr
    obtain ⟨hm, hquiet⟩ := hcalm
    have horder (hk : o.kind = .order) := hu.order_answered (i := i) hm hquiet hbody ho hoid hk
    have hrelease (hk : o.kind = .release) := hu.release_answered (i := i) hm hquiet hbody ho hoid hk
    rw [← hmember, ← hqueue] at horder
    rw [← hmember, ← hqueue] at hrelease
    exact ⟨fun hk => (horder hk).1, fun hk => (horder hk).2.1, fun hk => (horder hk).2.2, fun hk => (hrelease hk).1,
      fun hk => (hrelease hk).2⟩
  · subst hr
    rw [hmember]
    exact State.handleQuery_record _ _ _

end
